-- ==== Sys2Proof/Word.lean ====
section
/-! DEFINITION. The bit-vector types of the links: a byte of a control link and a word of 16 bits. -/

namespace Sys2Proof

/-- One byte of a control link (R182) or of the stacked DRAM. -/
abbrev Byte := BitVec 8

/-- One word: 16 bits (00_scope, Conventions, Units). -/
abbrev Word := BitVec 16

end Sys2Proof
end

