-- ==== Sys2Proof/Machine/Bytes.lean ====
section
/-! DEFINITION. Byte and word order of the formats (R193: most significant byte first). -/

namespace Sys2Proof.Machine

/-- A number sent in `n` bytes, most significant byte first (R193). -/
def be : Nat → Nat → List Byte
  | 0, _ => []
  | n + 1, v => BitVec.ofNat 8 (v / 256 ^ n) :: be n v

/-- The number that bytes spell, most significant byte first (R193). -/
def ofBe (bs : List Byte) : Nat :=
  bs.foldl (fun a b => a * 256 + b.toNat) 0

/-- The number in `n` bytes from byte `at'` of a body. -/
def field (body : List Byte) (at' n : Nat) : Nat :=
  ofBe ((body.drop at').take n)

/-- One byte of a body; 0 beyond its end. -/
def byteAt (body : List Byte) (at' : Nat) : Byte :=
  (body[at']?).getD 0

/-- A yes/no field (R193): 1 for yes, 0 for no. -/
def flag (b : Bool) : Byte :=
  if b then 1 else 0

/-- A yes/no field of a request; codes other than 0 and 1 are outside the enumeration (R193, log 11). -/
def flagCode (b : Byte) : Option Bool :=
  if b = 0 then some false else if b = 1 then some true else none

/-- Bits packed into one byte, bit 0 first. -/
def packBits : List Bool → Nat
  | [] => 0
  | b :: bs => (if b then 1 else 0) + 2 * packBits bs

/-- A byte from packed bits, bit 0 first. The bits no layout names are 0 (DESIGN CHOICE, log 40). -/
def bitsByte (bs : List Bool) : Byte :=
  BitVec.ofNat 8 (packBits bs)

/-- The two bytes of a word, high byte first (R120). -/
def wordBytes (w : Word) : List Byte :=
  be 2 w.toNat

/-- A word from its two bytes. -/
def wordOf (hi lo : Byte) : Word :=
  BitVec.ofNat 16 (hi.toNat * 256 + lo.toNat)

/-- Bytes taken two at a time as words, high byte first (DEDUCED for the save image, log 41); a last odd byte is the
high byte of a word. -/
def wordsOf : List Byte → List Word
  | hi :: lo :: t => wordOf hi lo :: wordsOf t
  | [hi] => [wordOf hi 0]
  | [] => []

/-- The bytes of a list of words. -/
def bytesOf (ws : List Word) : List Byte :=
  ws.flatMap wordBytes

/-- Quotient rounded up (R97, R98). -/
def ceilDiv (a b : Nat) : Nat :=
  (a + (b - 1)) / b

/-- A count that stops at its maximum (00_scope, Counts). -/
def satAdd (top a : Nat) : Nat :=
  if a < top then a + 1 else a

end Sys2Proof.Machine
end

