-- ==== Sys2Proof/Syntax.lean ====
section
/-! DEFINITION. The commands of the block: one constructor of `Instr` per row of spec/opcode_table.json.
Request commands carry the link they are taken on and the fields of their body at the widths of R195;
a field keeps its code, so that a code outside its enumeration can be refused (R193). -/

namespace Sys2Proof

/-- The four control links (R181): station, verso camera, recto camera, arm. -/
inductive LinkId where
  | S | V | R | A
deriving DecidableEq, Repr

/-- The two halves of the cradle (R4): the left half belongs to link V, the right half to link R. -/
inductive Half where
  | left | right
deriving DecidableEq, Repr

/-- One step of a light program as PROGRAM_SET carries it (R195). -/
structure StepArg where
  mask : Byte
  level : Byte
  duration : BitVec 24
deriving DecidableEq, Repr

/-- A request frame of a control link (R184): the kind and the body bytes; the length byte is the length
of the body. -/
structure Frame where
  kind : Byte
  body : List Byte
deriving DecidableEq, Repr

/-- The commands, one constructor per row of spec/opcode_table.json. -/
inductive Instr where
  | powerOnReset
  | poll (l : LinkId)
  | ident (l : LinkId)
  | portReset (l : LinkId)
  | requestKindUnknown (l : LinkId) (kind : Byte) (body : List Byte)
  | register (l : LinkId) (mark : List Byte) (n : Word) (leafCap : BitVec 32) (volumeCap : BitVec 48)
      (settle : Word) (turn : Byte) (life : Word)
  | mount (l : LinkId) (index : Byte) (opening : Word)
  | suspend (l : LinkId)
  | close (l : LinkId) (index : Byte)
  | clear (l : LinkId) (index : Byte)
  | setTiming (l : LinkId) (index : Byte) (settle : Word) (turn : Byte) (life : Word)
  | readVolume (l : LinkId) (index : Byte) (part : Option Byte)
  | readVolumeShelfMark (l : LinkId) (index : Byte)
  | setBudget (l : LinkId) (index : Byte) (leafCap : BitVec 32) (volumeCap : BitVec 48)
  | reshoot (l : LinkId) (leaf : Word) (face : Byte)
  | exempt (l : LinkId) (leaf : Word) (face : Byte) (reason : Byte)
  | acceptSide (l : LinkId) (leaf : Word) (face : Byte)
  | readLeaf (l : LinkId) (leaf : Word) (view : Byte)
  | readExceptions (l : LinkId) (n : Byte)
  | seek (l : LinkId) (target : Word)
  | resync (l : LinkId) (opening : Word)
  | abortOpening (l : LinkId)
  | park (l : LinkId)
  | wake (l : LinkId)
  | cradleReset (l : LinkId)
  | lampSetWrite (l : LinkId) (channel present side band : Byte) (eFull gDirect gSpill : Word) (lMin : Byte)
      (maxDuration : BitVec 24) (recharge : Word)
  | lampSetRead (l : LinkId) (channel : Byte)
  | lampSetStatus (l : LinkId)
  | programSetWrite (l : LinkId) (program mode stop count : Byte) (steps : List StepArg)
  | programSetRead (l : LinkId) (program : Byte)
  | doseQuery (l : LinkId) (program step : Byte)
  | drainOpen (l : LinkId) (slot : Byte) (first count : BitVec 32) (auto : Byte)
  | drainStop (l : LinkId) (slot : Byte)
  | slotStatus (l : LinkId) (slot : Byte)
  | release (l : LinkId) (slot discard : Byte)
  | claim (l : LinkId)
  | unclaim (l : LinkId)
  | capture (l : LinkId) (program : Byte)
  | cancel (l : LinkId) (id : Word)
  | turnAsk (l : LinkId)
  | turnBegin (l : LinkId)
  | turnEnd (l : LinkId) (count : Byte)
  | armFault (l : LinkId) (code : Byte)
  | selectFalling (l : LinkId)
  | selectRising (l : LinkId)
  | frameHeader (h : Half) (w : Word)
  | payloadWord (h : Half) (w : Word)
  | trailerWord (h : Half) (w : Word)
  | commit (h : Half)
  | frameCompleteLimitExpiry (h : Half)
  | frameStartLimitExpiry (h : Half)
  | partnerWaitLimitExpiry (h : Half)
  | slotWaitLimitExpiry (h : Half)
  | claimLifetimeExpiry (h : Half)
  | settleExpiry
  | turnTimerExpiry
  | confirmInput (lamp : Fin 8)
  | confirmWindowClose
  | flashEnd
  | interFlashGapExpiry
  | rechargeExpiry (lamp : Fin 8)
  | burstCompletion
  | refreshCompletion
  | refreshTimerExpiry
  | drainWordTaken
  | readyFalling
  | readyRising
  | stallTimerExpiry
  | byteClocked (l : LinkId) (b : Byte)
  | huntWord (h : Half) (w : Word)
  | headerWord (h : Half) (w : Word)
deriving DecidableEq, Repr

end Sys2Proof
end

