-- ==== Sys2Proof/Decode.lean ====
section
/-! DEFINITION. The request frames of the control links (R184, R194, R195): from a frame to the command that
takes it, and from a command to its frame. The opcode table gives no row any bits, so `decodeTableWord`
answers none. -/

namespace Sys2Proof

open Machine (be field byteAt)

/-- The steps of a PROGRAM_SET body, five bytes each (R195). -/
def stepArgsOf : Nat → List Byte → List StepArg
  | 0, _ => []
  | n + 1, b =>
    { mask := byteAt b 0, level := byteAt b 1, duration := BitVec.ofNat 24 (field b 2 3) } ::
      stepArgsOf n (b.drop 5)

/-- The bytes of one PROGRAM_SET step (R195). -/
def stepArgBytes (a : StepArg) : List Byte :=
  [a.mask, a.level] ++ be 3 a.duration.toNat

/-- The steps that a PROGRAM_SET write of step count `c` carries: `c`, or the eight of B = 44 when `c` is
above 8 (R195). -/
def stepsCarried (c : Byte) : Nat :=
  if c.toNat ≤ 8 then c.toNat else 8

/-- The command whose request has this kind and this body; none for a kind that is no request kind or a body
length the kind does not accept (R195). -/
def parseBody (l : LinkId) (kind : Nat) (b : List Byte) : Option Instr :=
  let n := b.length
  if kind = 0x00 then (if n = 0 then some (.poll l) else none)
  else if kind = 0x01 then (if n = 0 then some (.ident l) else none)
  else if kind = 0x02 then (if n = 0 then some (.portReset l) else none)
  else if kind = 0x10 then
    (let m := (byteAt b 0).toNat
     if 18 ≤ n ∧ n ≤ 58 ∧ m = n - 18 then
      some (.register l ((b.drop 1).take m) (BitVec.ofNat 16 (field b (m + 1) 2))
        (BitVec.ofNat 32 (field b (m + 3) 4)) (BitVec.ofNat 48 (field b (m + 7) 6))
        (BitVec.ofNat 16 (field b (m + 13) 2)) (byteAt b (m + 15)) (BitVec.ofNat 16 (field b (m + 16) 2)))
     else none)
  else if kind = 0x11 then (if n = 3 then some (.mount l (byteAt b 0) (BitVec.ofNat 16 (field b 1 2))) else none)
  else if kind = 0x12 then (if n = 0 then some (.suspend l) else none)
  else if kind = 0x13 then (if n = 1 then some (.close l (byteAt b 0)) else none)
  else if kind = 0x14 then (if n = 1 then some (.clear l (byteAt b 0)) else none)
  else if kind = 0x15 then
    (if n = 11 then some (.setBudget l (byteAt b 0) (BitVec.ofNat 32 (field b 1 4)) (BitVec.ofNat 48 (field b 5 6)))
     else none)
  else if kind = 0x16 then
    (if n = 6 then
      some (.setTiming l (byteAt b 0) (BitVec.ofNat 16 (field b 1 2)) (byteAt b 3) (BitVec.ofNat 16 (field b 4 2)))
     else none)
  else if kind = 0x17 then
    (if n = 1 then some (.readVolume l (byteAt b 0) none)
     else if n = 2 then
      (if byteAt b 1 = 1 then some (.readVolumeShelfMark l (byteAt b 0))
       else some (.readVolume l (byteAt b 0) (some (byteAt b 1))))
     else none)
  else if kind = 0x20 then (if n = 3 then some (.reshoot l (BitVec.ofNat 16 (field b 0 2)) (byteAt b 2)) else none)
  else if kind = 0x21 then
    (if n = 4 then some (.exempt l (BitVec.ofNat 16 (field b 0 2)) (byteAt b 2) (byteAt b 3)) else none)
  else if kind = 0x22 then
    (if n = 3 then some (.acceptSide l (BitVec.ofNat 16 (field b 0 2)) (byteAt b 2)) else none)
  else if kind = 0x23 then (if n = 3 then some (.readLeaf l (BitVec.ofNat 16 (field b 0 2)) (byteAt b 2)) else none)
  else if kind = 0x24 then (if n = 1 then some (.readExceptions l (byteAt b 0)) else none)
  else if kind = 0x30 then (if n = 2 then some (.seek l (BitVec.ofNat 16 (field b 0 2))) else none)
  else if kind = 0x31 then (if n = 2 then some (.resync l (BitVec.ofNat 16 (field b 0 2))) else none)
  else if kind = 0x32 then (if n = 0 then some (.abortOpening l) else none)
  else if kind = 0x33 then (if n = 0 then some (.park l) else none)
  else if kind = 0x34 then (if n = 0 then some (.wake l) else none)
  else if kind = 0x35 then (if n = 0 then some (.cradleReset l) else none)
  else if kind = 0x40 then
    (if n = 0 then some (.lampSetStatus l)
     else if n = 1 then some (.lampSetRead l (byteAt b 0))
     else if n = 16 then
      some (.lampSetWrite l (byteAt b 0) (byteAt b 1) (byteAt b 2) (byteAt b 3) (BitVec.ofNat 16 (field b 4 2))
        (BitVec.ofNat 16 (field b 6 2)) (BitVec.ofNat 16 (field b 8 2)) (byteAt b 10)
        (BitVec.ofNat 24 (field b 11 3)) (BitVec.ofNat 16 (field b 14 2)))
     else none)
  else if kind = 0x41 then
    (if n = 1 then some (.programSetRead l (byteAt b 0))
     else if 4 ≤ n ∧ n = 4 + 5 * stepsCarried (byteAt b 3) then
      some (.programSetWrite l (byteAt b 0) (byteAt b 1) (byteAt b 2) (byteAt b 3)
        (stepArgsOf (stepsCarried (byteAt b 3)) (b.drop 4)))
     else none)
  else if kind = 0x42 then (if n = 2 then some (.doseQuery l (byteAt b 0) (byteAt b 1)) else none)
  else if kind = 0x50 then
    (if n = 10 then
      some (.drainOpen l (byteAt b 0) (BitVec.ofNat 32 (field b 1 4)) (BitVec.ofNat 32 (field b 5 4)) (byteAt b 9))
     else none)
  else if kind = 0x51 then (if n = 1 then some (.drainStop l (byteAt b 0)) else none)
  else if kind = 0x52 then (if n = 2 then some (.release l (byteAt b 0) (byteAt b 1)) else none)
  else if kind = 0x53 then (if n = 1 then some (.slotStatus l (byteAt b 0)) else none)
  else if kind = 0x60 then (if n = 0 then some (.claim l) else none)
  else if kind = 0x61 then (if n = 0 then some (.unclaim l) else none)
  else if kind = 0x62 then (if n = 1 then some (.capture l (byteAt b 0)) else none)
  else if kind = 0x63 then (if n = 2 then some (.cancel l (BitVec.ofNat 16 (field b 0 2))) else none)
  else if kind = 0x70 then (if n = 0 then some (.turnAsk l) else none)
  else if kind = 0x71 then (if n = 0 then some (.turnBegin l) else none)
  else if kind = 0x72 then (if n = 1 then some (.turnEnd l (byteAt b 0)) else none)
  else if kind = 0x73 then (if n = 1 then some (.armFault l (byteAt b 0)) else none)
  else none

/-- The command that takes a request frame on a link. A frame the dispatcher itself refuses (R186, checks 1
and 3) is taken by REQUEST_KIND_UNKNOWN (log 5). -/
def requestOf (l : LinkId) (f : Frame) : Instr :=
  (parseBody l f.kind.toNat f.body).getD (.requestKindUnknown l f.kind f.body)

/-- The link and the request frame of a request command (R195); none for the commands that are no request. -/
def frameOf : Instr → Option (LinkId × Frame)
  | .powerOnReset => none
  | .poll l => some (l, ⟨0x00, []⟩)
  | .ident l => some (l, ⟨0x01, []⟩)
  | .portReset l => some (l, ⟨0x02, []⟩)
  | .requestKindUnknown l kind body => some (l, ⟨kind, body⟩)
  | .register l mark n leafCap volumeCap settle turn life =>
    some (l, ⟨0x10, BitVec.ofNat 8 mark.length :: (mark ++ (be 2 n.toNat ++ (be 4 leafCap.toNat ++
      (be 6 volumeCap.toNat ++ (be 2 settle.toNat ++ (turn :: be 2 life.toNat))))))⟩)
  | .mount l index opening => some (l, ⟨0x11, index :: be 2 opening.toNat⟩)
  | .suspend l => some (l, ⟨0x12, []⟩)
  | .close l index => some (l, ⟨0x13, [index]⟩)
  | .clear l index => some (l, ⟨0x14, [index]⟩)
  | .setTiming l index settle turn life =>
    some (l, ⟨0x16, index :: (be 2 settle.toNat ++ (turn :: be 2 life.toNat))⟩)
  | .readVolume l index part => some (l, ⟨0x17, index :: part.toList⟩)
  | .readVolumeShelfMark l index => some (l, ⟨0x17, [index, 1]⟩)
  | .setBudget l index leafCap volumeCap =>
    some (l, ⟨0x15, index :: (be 4 leafCap.toNat ++ be 6 volumeCap.toNat)⟩)
  | .reshoot l leaf face => some (l, ⟨0x20, be 2 leaf.toNat ++ [face]⟩)
  | .exempt l leaf face reason => some (l, ⟨0x21, be 2 leaf.toNat ++ [face, reason]⟩)
  | .acceptSide l leaf face => some (l, ⟨0x22, be 2 leaf.toNat ++ [face]⟩)
  | .readLeaf l leaf view => some (l, ⟨0x23, be 2 leaf.toNat ++ [view]⟩)
  | .readExceptions l n => some (l, ⟨0x24, [n]⟩)
  | .seek l target => some (l, ⟨0x30, be 2 target.toNat⟩)
  | .resync l opening => some (l, ⟨0x31, be 2 opening.toNat⟩)
  | .abortOpening l => some (l, ⟨0x32, []⟩)
  | .park l => some (l, ⟨0x33, []⟩)
  | .wake l => some (l, ⟨0x34, []⟩)
  | .cradleReset l => some (l, ⟨0x35, []⟩)
  | .lampSetWrite l channel present side band eFull gDirect gSpill lMin maxDuration recharge =>
    some (l, ⟨0x40, [channel, present, side, band] ++ (be 2 eFull.toNat ++ (be 2 gDirect.toNat ++
      (be 2 gSpill.toNat ++ (lMin :: (be 3 maxDuration.toNat ++ be 2 recharge.toNat)))))⟩)
  | .lampSetRead l channel => some (l, ⟨0x40, [channel]⟩)
  | .lampSetStatus l => some (l, ⟨0x40, []⟩)
  | .programSetWrite l program mode stop count steps =>
    some (l, ⟨0x41, [program, mode, stop, count] ++ steps.flatMap stepArgBytes⟩)
  | .programSetRead l program => some (l, ⟨0x41, [program]⟩)
  | .doseQuery l program step => some (l, ⟨0x42, [program, step]⟩)
  | .drainOpen l slot first count auto =>
    some (l, ⟨0x50, slot :: (be 4 first.toNat ++ (be 4 count.toNat ++ [auto]))⟩)
  | .drainStop l slot => some (l, ⟨0x51, [slot]⟩)
  | .slotStatus l slot => some (l, ⟨0x53, [slot]⟩)
  | .release l slot discard => some (l, ⟨0x52, [slot, discard]⟩)
  | .claim l => some (l, ⟨0x60, []⟩)
  | .unclaim l => some (l, ⟨0x61, []⟩)
  | .capture l program => some (l, ⟨0x62, [program]⟩)
  | .cancel l id => some (l, ⟨0x63, be 2 id.toNat⟩)
  | .turnAsk l => some (l, ⟨0x70, []⟩)
  | .turnBegin l => some (l, ⟨0x71, []⟩)
  | .turnEnd l count => some (l, ⟨0x72, [count]⟩)
  | .armFault l code => some (l, ⟨0x73, [code]⟩)
  | .selectFalling _ => none
  | .selectRising _ => none
  | .frameHeader _ _ => none
  | .payloadWord _ _ => none
  | .trailerWord _ _ => none
  | .commit _ => none
  | .frameCompleteLimitExpiry _ => none
  | .frameStartLimitExpiry _ => none
  | .partnerWaitLimitExpiry _ => none
  | .slotWaitLimitExpiry _ => none
  | .claimLifetimeExpiry _ => none
  | .settleExpiry => none
  | .turnTimerExpiry => none
  | .confirmInput _ => none
  | .confirmWindowClose => none
  | .flashEnd => none
  | .interFlashGapExpiry => none
  | .rechargeExpiry _ => none
  | .burstCompletion => none
  | .refreshCompletion => none
  | .refreshTimerExpiry => none
  | .drainWordTaken => none
  | .readyFalling => none
  | .readyRising => none
  | .stallTimerExpiry => none
  | .byteClocked _ _ => none
  | .huntWord _ _ => none
  | .headerWord _ _ => none

/-- The roles of the request kinds (R186, 10.6). -/
inductive Role where
  | common | station | camera | arm
deriving DecidableEq, Repr

/-- The role of a request kind; none when the kind is no request kind (R186 checks 1 and 2, 10.6). -/
def roleOf (kind : Byte) : Option Role :=
  let k := kind.toNat
  if k ≤ 0x02 then some .common
  else if (0x10 ≤ k ∧ k ≤ 0x17) ∨ (0x20 ≤ k ∧ k ≤ 0x24) ∨ (0x30 ≤ k ∧ k ≤ 0x35) ∨ (0x40 ≤ k ∧ k ≤ 0x42) ∨
      (0x50 ≤ k ∧ k ≤ 0x53) then some .station
  else if 0x60 ≤ k ∧ k ≤ 0x63 then some .camera
  else if 0x70 ≤ k ∧ k ≤ 0x73 then some .arm
  else none

/-- Whether a link may send requests of a role (R186 check 2): links V and R share the camera role. -/
def roleAllows (r : Role) (l : LinkId) : Bool :=
  match r, l with
  | .common, _ => true
  | .station, .S => true
  | .camera, .V => true
  | .camera, .R => true
  | .arm, .A => true
  | _, _ => false

/-- The command a word of the opcode table spells: none, since the table gives its rows no bits. -/
def decodeTableWord (_nbits _w : Nat) : Option Instr :=
  none

end Sys2Proof
end

