-- ==== Sys2Proof/Config.lean ====
section
/-! DEFINITION. What the part fixes: the limits of the device numbers table and of the rules, and the free
values of the model (constants with no body). -/

namespace Sys2Proof.Config

/-- Fields that may hold "none" in a response and for which R193 lists no code (log 8). -/
inductive Uncoded where
  | slotStep | slotWidth | slotHeight | slotCamera | slotCrcComputed | slotCrcReceived
  | volumeWordsLeft | volumeOpeningState
  | drainFirst | drainCount | drainSent
  | lightStep
  | releaseSlotState
deriving DecidableEq, Repr

/-- FREE VALUE (log 8): the number that stands in a response for a "none" that R193 gives no code. It has no
body, so that no proof can rest on its value. -/
opaque uncodedNone : Uncoded → Nat

/-- Depth of the notice queue of link S (R181). -/
def stationDepth : Nat := 32
/-- Depth of the notice queues of links V, R and A (R181). -/
def otherDepth : Nat := 8
/-- Longest request body (R184). -/
def maxRequestBody : Nat := 58
/-- Records of the exception list (R177). -/
def exceptionDepth : Nat := 64
/-- Partner wait limit in ms (R65). -/
def partnerWaitMs : Nat := 2000
/-- Slot wait limit in ms (R56). -/
def slotWaitMs : Nat := 10000
/-- Frame start limit in ms (R58). -/
def frameStartMs : Nat := 1000
/-- Frame complete limit in ms (R118). -/
def frameCompleteMs : Nat := 8000
/-- Drain stall limit in ms (R137). -/
def stallMs : Nat := 100
/-- Inter-flash gap in us (R92). -/
def gapUs : Nat := 2000
/-- Confirm window in us (R88). -/
def confirmWindowUs : Nat := 50
/-- Refresh timer in tenths of a us (R127). -/
def refreshTenths : Nat := 78
/-- Refresh owed count at which refresh is urgent (R126, R127). -/
def refreshUrgent : Nat := 8
/-- Words of a slot (R110). -/
def slotWords : Nat := 33554432
/-- Words of a pixel link FIFO (R116). -/
def fifoDepth : Nat := 2048
/-- Words of a memory burst, at most (R126). -/
def burstWords : Nat := 64
/-- Words of the drain buffer (R133). -/
def drainBufferWords : Nat := 128
/-- Drains held, the active one counted (R134). -/
def drainDepth : Nat := 4
/-- Divisor of the irradiances: 1024 times 255 (R97). -/
def irradianceDivisor : Nat := 261120
/-- Start marker of a pixel-link frame (R115). -/
def startMarker : Word := 0x5AF0
/-- End marker of a pixel-link frame (R115). -/
def endMarker : Word := 0x0FA5
/-- The CRC generator in reversed bit order (R120). -/
def crcReversed : BitVec 32 := 0xEDB88320
/-- The kind that marks a read exchange (R184). -/
def readMarker : Byte := 0xFF
/-- Largest capture id (R53). -/
def maxCaptureId : Nat := 65535
/-- Saturation of the exception counts (R148). -/
def maxExceptionCount : Nat := 65535
/-- Saturation of the lost-notice and refused-header counts (R116, R181). -/
def maxByteCount : Nat := 255
/-- Saturation of the capture count of a side (R167). -/
def maxSideCaptures : Nat := 15

end Sys2Proof.Config
end

