-- ==== Sys2Proof/Machine/State.lean ====
section
/-! DEFINITION. The state of the part as plain data, block by block, and its value after power-on reset.
Timers are `none` when stopped and hold the time left when running (log 3). -/

namespace Sys2Proof.Machine

open Sys2Proof

/-! ### Names of the formats (R193) -/

/-- Faces of a leaf (Terms): the verso is the left page, the recto the right one. -/
inductive Face where
  | verso | recto
deriving DecidableEq, Repr

/-- A value for each half of the cradle. -/
structure Pair (α : Type) where
  left : α
  right : α
deriving DecidableEq, Repr

/-- Opening states (R2). -/
inductive OpeningState where
  | idle | settling | ready | exposing | turnable | turning | finished | fault | parked
deriving DecidableEq, Repr

/-- Directions of a turn (R1 note 1). -/
inductive Direction where
  | forward | backward
deriving DecidableEq, Repr

/-- Fault causes (R16). -/
inductive FaultCause where
  | turnTimeout | armFault | ungrantedMotion | lostPosition | lampFault | reset
deriving DecidableEq, Repr

/-- Park return (R1 note 4). -/
inductive ParkReturn where
  | volume | nothing
deriving DecidableEq, Repr

/-- Statuses of responses (R194). -/
inductive Status where
  | ok | accepted | wait | grant | notReady | role | malformed | range | state | noVolume | busy | fault
  | tooLate | endOfVolume | noSide | sideDone | sideHeld | claimed | badProgram | lampUnavailable | noSlot
  | duplicate | duplicateMark | tableFull | notSealed | queueFull | undrained | notMounted | framesHeld
deriving DecidableEq, Repr

/-! ### The opening controller (R1) -/

/-- The opening record. -/
structure Opening where
  /-- index of the MOUNTED volume-table entry, or none -/
  volume : Option (Fin 16)
  /-- the opening number k -/
  k : Nat
  state : OpeningState
  seek : Option Nat
  /-- settle timer, ms left -/
  settle : Option Nat
  /-- turn timer, ms left -/
  turn : Option Nat
  direction : Option Direction
  cause : Option FaultCause
  armCode : Byte
  parkReturn : ParkReturn
deriving DecidableEq, Repr

/-! ### The account unit (R93, R148, R166, R167, R177) -/

/-- Side states (Terms, R168). -/
inductive SideState where
  | wanted | claimed | capturing | captured | reshoot | exempt | held
deriving DecidableEq, Repr

/-- The prior state of a claim or a capture: WANTED or RESHOOT (R44, R167). -/
inductive Undone where
  | wanted | reshoot
deriving DecidableEq, Repr

/-- Seal statuses (R110). -/
inductive Seal where
  | good | damagedCrc | damagedLength | damagedTimeout | cancelled
deriving DecidableEq, Repr

/-- Outcomes of a capture summary (R64, R173). -/
inductive CaptureOutcome where
  | inProgress | complete | shortened | failed | held | cancelled | aborted | stationAccepted
deriving DecidableEq, Repr

/-- One step of a capture summary (R64). -/
structure StepSummary where
  step : Nat
  slot : Option (Fin 8)
  sealStatus : Option Seal
  level : Nat
  dimmed : Bool
  clamped : Bool
deriving DecidableEq, Repr

/-- The capture summary (R64). Dimmed-any is computed from the steps. -/
structure Summary where
  captureId : Nat
  outcome : CaptureOutcome
  program : Option Nat
  steps : List StepSummary
  dose : Nat
  discarded : Bool
deriving DecidableEq, Repr

/-- A side record (R167). The owner is given by the half its camera serves: left for V, right for R. -/
structure SideRec where
  state : SideState
  owner : Option Half
  prior : Option Undone
  reason : Option Nat
  captures : Nat
  summary : Option Summary
deriving DecidableEq, Repr

/-- A leaf entry (R166). -/
structure LeafEntry where
  dose : Nat
  recto : SideRec
  verso : SideRec
deriving DecidableEq, Repr

/-- The seven side-state counts (R148, R175). -/
structure SideCounts where
  wanted : Nat
  claimed : Nat
  capturing : Nat
  captured : Nat
  reshoot : Nat
  exempt : Nat
  held : Nat
deriving DecidableEq, Repr

/-- Exception kinds (R177). -/
inductive ExcKind where
  | missedTurn | doubleTurn | captureFailed | frameMissing | frameTooLarge | partnerLate | lampUnavailable
  | doseHeld | frameDiscarded | noSlot
deriving DecidableEq, Repr

/-- An exception record (R177, R196): `extra` is the limiting cap's code or the leaf count of a turn. -/
structure ExcRecord where
  kind : ExcKind
  side : Option (Face × Nat)
  opening : Nat
  captureId : Option Nat
  slot : Option (Fin 8)
  extra : Nat
deriving DecidableEq, Repr

/-- Volume states (R148). -/
inductive VolumeState where
  | empty | pending | mounted | suspending | suspended | resuming | closed
deriving DecidableEq, Repr

/-- A volume-table entry (R148). Settle time and claim lifetime are in ms, the turn timeout in s. -/
structure Volume where
  state : VolumeState
  mark : List Byte
  n : Nat
  leafCap : Nat
  volumeCap : Nat
  doseUsed : Nat
  settle : Nat
  turn : Nat
  life : Nat
  counts : SideCounts
  excCount : Nat
  excLost : Nat
  lastOpening : Option Nat
  saveSlot : Option (Fin 8)
deriving DecidableEq, Repr

/-- The account unit: volume table, and the leaf table and exception list on chip. -/
structure Account where
  volumes : Vector Volume 16
  /-- leaf entries, leaf 1 first -/
  leaves : List LeafEntry
  /-- exception records, oldest first -/
  exceptions : List ExcRecord
deriving DecidableEq, Repr

/-! ### The light unit (R71, R78, R81, R87) -/

/-- A lamp table entry (R71). -/
structure LampEntry where
  present : Bool
  side : Half
  band : Nat
  eFull : Nat
  gDirect : Nat
  gSpill : Nat
  lMin : Nat
  maxDuration : Nat
  recharge : Nat
deriving DecidableEq, Repr

/-- Lamp states (R75). -/
inductive LampState where
  | absent | charging | charged | firing | faulted | discharged
deriving DecidableEq, Repr

/-- A lamp channel: entry, lamp state and recharge timer (ms left). -/
structure Lamp where
  entry : LampEntry
  state : LampState
  recharge : Option Nat
deriving DecidableEq, Repr

/-- Program modes (R78). -/
inductive Mode where
  | unpaired | paired
deriving DecidableEq, Repr

/-- Stop rules (R61, R78). -/
inductive StopRule where
  | never | onDamage | onDim | onEither
deriving DecidableEq, Repr

/-- A step of a light program (R78): lamp mask with bit i for lamp Li, level, duration in us. -/
structure ProgStep where
  mask : Byte
  level : Nat
  duration : Nat
deriving DecidableEq, Repr

/-- A light program (R78). The step count is the number of steps: steps above it are empty. -/
structure Program where
  mode : Mode
  stop : StopRule
  steps : List ProgStep
deriving DecidableEq, Repr

/-- Whom a light request or a flash serves (R81, R87). -/
inductive Served where
  | left | right | pair
deriving DecidableEq, Repr

/-- A light request held (R81, R82): the capture ids of the halves served, step number and mask. -/
structure LightRequest where
  served : Served
  leftId : Option Nat
  rightId : Option Nat
  step : Nat
  mask : Byte
deriving DecidableEq, Repr

/-- Confirm marks of a flash record (R87). -/
inductive Confirm where
  | pending | confirmed | missed
deriving DecidableEq, Repr

/-- One lamp of a flash record (R87): side, irradiances at the level used, confirm mark. -/
structure FlashLamp where
  lamp : Fin 8
  side : Half
  direct : Nat
  spill : Nat
  confirm : Confirm
deriving DecidableEq, Repr

/-- The flash record (R87), with the flash timer and the confirm window (R88), in us left. -/
structure Flash where
  served : Served
  leftId : Option Nat
  rightId : Option Nat
  step : Nat
  mask : Byte
  levelRequested : Nat
  levelUsed : Nat
  duration : Nat
  dimmed : Bool
  clamped : Bool
  leftLeaf : Option Nat
  rightLeaf : Option Nat
  lamps : List FlashLamp
  timer : Nat
  window : Option Nat
deriving DecidableEq, Repr

/-- The last-flash part of the light status (R74). -/
structure LastFlash where
  served : Served
  level : Nat
  duration : Nat
  confirmed : Byte
  unconfirmed : Byte
deriving DecidableEq, Repr

/-- The light unit. -/
structure Light where
  lamps : Vector Lamp 8
  programs : Vector Program 16
  held : List LightRequest
  grant : Option LightRequest
  flash : Option Flash
  /-- inter-flash gap, us left -/
  gap : Option Nat
  lastServed : Half
  lastFlash : Option LastFlash
deriving DecidableEq, Repr

/-! ### The capture unit (R44, R45) -/

/-- A claim record (R44): leaf, prior state and lifetime timer (ms left); owner and face are the half's. -/
structure Claim where
  leaf : Nat
  prior : Undone
  life : Nat
deriving DecidableEq, Repr

/-- Context states (R54). -/
inductive CtxState where
  | waitSettle | waitPartner | waitSlot | waitLight | firing | awaitFrame | receiving
deriving DecidableEq, Repr

/-- Limiting caps (R101). -/
inductive Cap where
  | leafLeft | leafRight | volume
deriving DecidableEq, Repr

/-- End causes (R45). -/
inductive EndCause where
  | stop | held | noSlot | lampUnavailable | frameMissing | frameTooLarge | partnerLate | partnerEnded
deriving DecidableEq, Repr

/-- An end ordered (R45, "end pending"; R62 rows 1 and 2). -/
inductive EndOrder where
  | cancelled | aborted
deriving DecidableEq, Repr

/-- The result of a step whose flash has fired (R45). -/
structure StepResult where
  step : Nat
  slot : Option (Fin 8)
  sealStatus : Option Seal
  level : Nat
  dimmed : Bool
  clamped : Bool
  left : Nat
  right : Nat
deriving DecidableEq, Repr

/-- A capture context that holds a capture (R45). Steps remaining is the step count less the step number. -/
structure Ctx where
  id : Nat
  leaf : Nat
  prior : Undone
  program : Nat
  copy : Program
  step : Nat
  state : CtxState
  slot : Option (Fin 8)
  results : List StepResult
  /-- pair link: the other half's context is the partner -/
  linked : Bool
  order : Option EndOrder
  cause : Option EndCause
  heldCap : Option Cap
  /-- partner wait limit, ms left -/
  partnerTimer : Option Nat
  /-- slot wait limit, ms left -/
  slotTimer : Option Nat
  /-- frame start limit, ms left -/
  frameTimer : Option Nat
  /-- the seal report handed on and not yet taken (R124 step 4) -/
  report : Option (Fin 8 × Seal)
deriving DecidableEq, Repr

/-- The capture unit (R44). -/
structure Capture where
  claims : Pair (Option Claim)
  ctxs : Pair (Option Ctx)
  idCounter : Nat
  waitOrder : List Half
deriving DecidableEq, Repr

/-! ### The frame memory controller (R110, R116, R126 to R129) -/

/-- Slot states (R111). -/
inductive SlotState where
  | free | open' | sealed | draining | save
deriving DecidableEq, Repr

/-- A slot record (R110). `deferred` is the deferred release with its discard flag. -/
structure Slot where
  state : SlotState
  volume : Option (Fin 16)
  captureId : Option Nat
  side : Option (Half × Nat)
  step : Option Nat
  size : Option (Nat × Nat)
  camera : Option (Word × Word × Word)
  words : Nat
  crcComputed : Option (BitVec 32)
  crcReceived : Option (BitVec 32)
  sealStatus : Option Seal
  committed : Bool
  drainedFully : Bool
  deferred : Option Bool
  image : Option Nat
deriving DecidableEq, Repr

/-- Receiver states (R116). -/
inductive RxState where
  | hunt | header | payload | trailer | sealing
deriving DecidableEq, Repr

/-- Header refusal reasons (R117). -/
inductive HeaderRefusal where
  | noFrameWanted | wrongSide | noMatch | badSize | tooLarge
deriving DecidableEq, Repr

/-- A pixel-link receiver (R116, R121). -/
structure Receiver where
  state : RxState
  fifo : List Word
  header : List Word
  crc : Option (BitVec 32)
  taken : Nat
  due : Nat
  /-- frame complete limit, ms left -/
  limit : Option Nat
  refusedCount : Nat
  lastRefusal : Option HeaderRefusal
  cancelMark : Bool
  /-- the slot of the frame being received (R118) -/
  slot : Option (Fin 8)
  /-- the end marker has been taken (R121) -/
  marker : Bool
  /-- CRC high word held (R121) -/
  crcHigh : Option Word
  /-- the CRC received, once both CRC words were taken (R121) -/
  crcReceived : Option (BitVec 32)
  /-- the check result of a frame in SEALING (R121, R122) -/
  result : Option Seal
deriving DecidableEq, Repr

/-- A burst or refresh operation in progress (R126). A pixel burst holds the words it took from the FIFO;
`stale` marks a burst of an abandoned transfer (R131). -/
inductive Burst where
  | refresh
  | pixel (h : Half) (words : List Word)
  | engine (n : Nat) (stale : Bool)
  | drain (n : Nat)
deriving DecidableEq, Repr

/-- Memory modes (R128). -/
inductive MemMode where
  | active | entering | retention
deriving DecidableEq, Repr

/-- Save/restore engine states (R129). -/
inductive EngineState where
  | idle | saving | restoring
deriving DecidableEq, Repr

/-- The save/restore engine (R129). `abandoned`: a cradle reset abandoned the transfer and its last burst
still runs (R131). -/
structure Engine where
  state : EngineState
  slot : Option (Fin 8)
  length : Nat
  left : Nat
  abandoned : Bool
deriving DecidableEq, Repr

/-- The frame memory controller. -/
structure FrameMemory where
  slots : Vector Slot 8
  rx : Pair Receiver
  burst : Option Burst
  owed : Nat
  /-- refresh timer, tenths of a us left -/
  refreshTimer : Option Nat
  mode : MemMode
  engine : Engine
deriving DecidableEq, Repr

/-! ### The drain unit (R133) -/

/-- Drain end statuses (R140, R146). -/
inductive DrainStatus where
  | complete | stopped | stalled | reset
deriving DecidableEq, Repr

/-- A waiting drain (R133). -/
structure DrainJob where
  slot : Fin 8
  first : Nat
  count : Nat
  auto : Bool
deriving DecidableEq, Repr

/-- The active drain (R133). -/
structure ActiveDrain where
  job : DrainJob
  sent : Nat
  left : Nat
  next : Nat
  unread : Nat
  /-- stall timer, ms left -/
  stall : Option Nat
  /-- the end ordered, if any (R139) -/
  ordered : Option DrainStatus
deriving DecidableEq, Repr

/-- The drain unit, with the level of the station's ready line. -/
structure Drain where
  queue : List DrainJob
  active : Option ActiveDrain
  buffer : List Word
  readyIn : Bool
deriving DecidableEq, Repr

/-! ### The control links (R181) -/

/-- What became of the releases of a drain end (R144). -/
inductive DrainRelease where
  | none | freedAuto | freedDeferred | deferred | dropped
deriving DecidableEq, Repr

/-- The close report (R161). -/
structure CloseReport where
  index : Fin 16
  n : Nat
  fromMounted : Bool
  counts : SideCounts
  doseUsed : Nat
  volumeCap : Nat
  excCount : Nat
  excLost : Nat
  unread : Nat
  lastOpening : Option Nat
deriving DecidableEq, Repr

/-- Notices (R188), with the fields of R196. -/
inductive Notice where
  | captureDone (id : Nat) (half : Half) (leaf : Nat) (outcome : CaptureOutcome) (results : Nat) (dimmedAny : Bool)
      (exception : Option ExcKind)
  | slotSealed (slot : Fin 8) (volume : Option (Fin 16)) (id : Option Nat) (side : Option (Half × Nat))
      (step : Option Nat) (sealStatus : Seal) (size : Option (Nat × Nat)) (words : Nat)
  | drainDone (slot : Fin 8) (volume : Option (Fin 16)) (id : Option Nat) (status : DrainStatus)
      (first count sent : Nat) (drainedFully : Bool) (release : DrainRelease)
  | releaseDropped (slot : Fin 8) (reason : Status) (discard : Bool) (sealStatus : Option Seal) (drainedFully : Bool)
  | exception (volume : Fin 16) (record : ExcRecord) (inList : Nat) (lost : Nat)
  | volumeSaved (index : Fin 16) (slot : Fin 8) (lastOpening : Option Nat) (length : Nat)
  | volumeRestored (index : Fin 16) (n k : Nat) (undoneAndHeld : Nat)
  | closeReport (report : CloseReport)
  | volumeEnd (index : Option (Fin 16)) (n : Nat)
  | fault (cause : FaultCause) (armCode : Byte) (volume : Option (Fin 16)) (k : Nat) (direction : Option Direction)
  | stepFired (id : Nat) (step levelRequested levelUsed : Nat) (dimmed clamped frameWanted : Bool) (duration : Nat)
      (confirmed missed : Byte) (dose : Nat)
  | claimExpired (leaf : Nat) (face : Face) (restored : Undone)
  | turnReady (direction : Direction) (k : Nat) (volume : Option (Fin 16))
deriving DecidableEq, Repr

/-- A response frame (R194) without its port flags byte, which is formed as it is clocked (R187). -/
structure Response where
  echo : Byte
  status : Status
  body : List Byte
deriving DecidableEq, Repr

/-- The outgoing frame chosen at select falling (R183). -/
inductive OutFrame where
  | response (r : Response)
  | notReady (kind : Byte)
  | notice (n : Notice)
  | empty
deriving DecidableEq, Repr

/-- An exchange in progress (R182): the whole bytes clocked in, the outgoing frame, whether what it was
chosen from is still in the link (R183), and the port flags byte once it is formed (R187). -/
structure Exchange where
  incoming : List Byte
  out : OutFrame
  live : Bool
  flags : Option Byte
deriving DecidableEq, Repr

/-- The state of one control link (R181). `dropAnswer` is the mark of R191 step 2. -/
structure Link where
  exchange : Option Exchange
  request : Option Frame
  answerDue : Option Byte
  dropAnswer : Bool
  response : Option Response
  /-- notices, oldest first -/
  notices : List Notice
  lost : Nat
  overrun : Bool
  cut : Bool
  malformed : Bool
  shortRead : Bool
  noticeLost : Bool
deriving DecidableEq, Repr

/-- The four links. -/
structure Links where
  S : Link
  V : Link
  R : Link
  A : Link
deriving DecidableEq, Repr

/-! ### The whole part -/

/-- The state of the part, and the queue of the commands that wait (log 1). -/
structure State where
  opening : Opening
  account : Account
  capture : Capture
  light : Light
  memory : FrameMemory
  /-- contents of the stacked DRAM (log 6) -/
  mem : List Host.Cell
  drain : Drain
  links : Links
  pending : List Instr
deriving DecidableEq, Repr

/-- Faults: none. The spec names no behaviour of the part undefined, so no command stops it; the FAULT of
the manual is an opening state (R16), which a next state enters. -/
inductive Fault where
deriving DecidableEq, Repr

/-- Refusals. -/
inductive Refusal where
  /-- raised by an arm of `exec` whose command has no meaning yet; no arm uses it; safe, since nothing can be
  proved of a refused command's next state -/
  | notModelled (mnemonic : String)
deriving DecidableEq, Repr

/-! ### Values after power-on reset -/

/-- The opening record after power-on reset (R1, R25). -/
def Opening.reset : Opening :=
  { volume := none, k := 0, state := .idle, seek := none, settle := none, turn := none, direction := none,
    cause := none, armCode := 0, parkReturn := .nothing }

/-- Counts of no side. -/
def SideCounts.zero : SideCounts :=
  { wanted := 0, claimed := 0, capturing := 0, captured := 0, reshoot := 0, exempt := 0, held := 0 }

/-- An EMPTY volume entry (R148). -/
def Volume.empty : Volume :=
  { state := .empty, mark := [], n := 0, leafCap := 0, volumeCap := 0, doseUsed := 0, settle := 0, turn := 0,
    life := 0, counts := .zero, excCount := 0, excLost := 0, lastOpening := none, saveSlot := none }

/-- A side record at the MOUNT of a PENDING entry (R167). -/
def SideRec.fresh : SideRec :=
  { state := .wanted, owner := none, prior := none, reason := none, captures := 0, summary := none }

/-- A leaf entry at the MOUNT of a PENDING entry (R154). -/
def LeafEntry.fresh : LeafEntry :=
  { dose := 0, recto := .fresh, verso := .fresh }

/-- The account unit after power-on reset (R148, R166, R180). -/
def Account.reset : Account :=
  { volumes := Vector.replicate 16 .empty, leaves := [], exceptions := [] }

/-- A lamp table entry after power-on reset (R71). -/
def LampEntry.reset : LampEntry :=
  { present := false, side := .left, band := 0, eFull := 1, gDirect := 0, gSpill := 0, lMin := 1,
    maxDuration := 100, recharge := 1 }

/-- A lamp after power-on reset (R71, R77). -/
def Lamp.reset : Lamp :=
  { entry := .reset, state := .absent, recharge := none }

/-- An empty program (R78). -/
def Program.empty : Program :=
  { mode := .unpaired, stop := .never, steps := [] }

/-- The light unit after power-on reset (R71, R78, R81). -/
def Light.reset : Light :=
  { lamps := Vector.replicate 8 .reset, programs := Vector.replicate 16 .empty, held := [], grant := none,
    flash := none, gap := none, lastServed := .left, lastFlash := none }

/-- The capture unit after power-on reset (R44). -/
def Capture.reset : Capture :=
  { claims := ⟨none, none⟩, ctxs := ⟨none, none⟩, idCounter := 0, waitOrder := [] }

/-- A FREE slot (R110). -/
def Slot.free : Slot :=
  { state := .free, volume := none, captureId := none, side := none, step := none, size := none, camera := none,
    words := 0, crcComputed := none, crcReceived := none, sealStatus := none, committed := false, drainedFully := false,
    deferred := none, image := none }

/-- A receiver after power-on reset (R116). -/
def Receiver.reset : Receiver :=
  { state := .hunt, fifo := [], header := [], crc := none, taken := 0, due := 0, limit := none, refusedCount := 0,
    lastRefusal := none, cancelMark := false, slot := none, marker := false, crcHigh := none, crcReceived := none,
    result := none }

/-- The engine with no transfer (R129): IDLE with no slot. Its image length and words left are then 0 (DESIGN CHOICE,
log 34). -/
def Engine.idle : Engine :=
  { state := .idle, slot := none, length := 0, left := 0, abandoned := false }

/-- The frame memory controller after power-on reset (R110, R116, R127 to R129). -/
def FrameMemory.reset : FrameMemory :=
  { slots := Vector.replicate 8 .free, rx := ⟨.reset, .reset⟩, burst := none, owed := 0,
    refreshTimer := some Config.refreshTenths, mode := .active, engine := .idle }

/-- The drain unit after power-on reset (R133); the ready input is taken as high (log 7). -/
def Drain.reset : Drain :=
  { queue := [], active := none, buffer := [], readyIn := true }

/-- A link after power-on reset (R181). -/
def Link.reset : Link :=
  { exchange := none, request := none, answerDue := none, dropAnswer := false, response := none, notices := [],
    lost := 0, overrun := false, cut := false, malformed := false, shortRead := false, noticeLost := false }

/-- The links after power-on reset (R181). -/
def Links.reset : Links :=
  { S := .reset, V := .reset, R := .reset, A := .reset }

/-- The part right after power-on reset, with no command waiting. -/
def State.reset : State :=
  { opening := .reset, account := .reset, capture := .reset, light := .reset, memory := .reset, mem := [],
    drain := .reset, links := .reset, pending := [] }

end Sys2Proof.Machine
end

