-- ==== Sys2Proof/Machine/Codes.lean ====
section
/-! DEFINITION. The codes of the enumerations (R193), of the statuses (R194) and of the none values, and the
fixed relations between links, halves and faces. -/

namespace Sys2Proof.Machine

open Sys2Proof

/-- The other half of the cradle. -/
def otherHalf : Half → Half
  | .left => .right
  | .right => .left

/-- The face a half shows (R4): the left page is a verso, the right page a recto. -/
def faceOf : Half → Face
  | .left => .verso
  | .right => .recto

/-- The half that shows a face (R4). -/
def halfOf : Face → Half
  | .verso => .left
  | .recto => .right

/-- The camera link of a half (R4). -/
def cameraLink : Half → LinkId
  | .left => .V
  | .right => .R

/-- The half of a camera link (R186): V the left one, R the right one; none for S and A. -/
def linkHalf : LinkId → Option Half
  | .V => some .left
  | .R => some .right
  | .S => none
  | .A => none

/-- The halves a light request or a flash serves. -/
def Served.halves : Served → List Half
  | .left => [.left]
  | .right => [.right]
  | .pair => [.left, .right]

/-- Whether a served code takes in a half. -/
def Served.serves : Served → Half → Bool
  | .left, .left => true
  | .right, .right => true
  | .pair, _ => true
  | _, _ => false

/-- The served code of one half. -/
def servedOf : Half → Served
  | .left => .left
  | .right => .right

/-- The side state of a prior state. -/
def Undone.toSide : Undone → SideState
  | .wanted => .wanted
  | .reshoot => .reshoot

/-- The prior state that a side state is, when undone (Terms). -/
def SideState.undone? : SideState → Option Undone
  | .wanted => some .wanted
  | .reshoot => some .reshoot
  | _ => none

/-- Done means CAPTURED or EXEMPT (Terms). -/
def SideState.done : SideState → Bool
  | .captured => true
  | .exempt => true
  | _ => false

def OpeningState.code : OpeningState → Nat
  | .idle => 0 | .settling => 1 | .ready => 2 | .exposing => 3 | .turnable => 4 | .turning => 5 | .finished => 6
  | .fault => 7 | .parked => 8

def SideState.code : SideState → Nat
  | .wanted => 0 | .claimed => 1 | .capturing => 2 | .captured => 3 | .reshoot => 4 | .exempt => 5 | .held => 6

def Undone.code (u : Undone) : Nat := u.toSide.code

def Face.code : Face → Nat
  | .verso => 0 | .recto => 1

/-- Code of a half (R193). -/
def halfCode : Half → Nat
  | .left => 0 | .right => 1

/-- The face a code names; none outside the enumeration (R193). -/
def faceOfCode (b : Byte) : Option Face :=
  if b = 0 then some .verso else if b = 1 then some .recto else none

def directionCode : Option Direction → Nat
  | none => 0 | some .forward => 1 | some .backward => 2

def FaultCause.code : FaultCause → Nat
  | .turnTimeout => 1 | .armFault => 2 | .ungrantedMotion => 3 | .lostPosition => 4 | .lampFault => 5 | .reset => 6

def causeCode : Option FaultCause → Nat
  | none => 0 | some c => c.code

def CaptureOutcome.code : CaptureOutcome → Nat
  | .inProgress => 0 | .complete => 1 | .shortened => 2 | .failed => 3 | .held => 4 | .cancelled => 5 | .aborted => 6
  | .stationAccepted => 7

def Seal.code : Seal → Nat
  | .good => 0 | .damagedCrc => 1 | .damagedLength => 2 | .damagedTimeout => 3 | .cancelled => 4

def SlotState.code : SlotState → Nat
  | .free => 0 | .open' => 1 | .sealed => 2 | .draining => 3 | .save => 4

def VolumeState.code : VolumeState → Nat
  | .empty => 0 | .pending => 1 | .mounted => 2 | .suspending => 3 | .suspended => 4 | .resuming => 5 | .closed => 6

def capCode : Option Cap → Nat
  | none => 0 | some .leafLeft => 1 | some .leafRight => 2 | some .volume => 3

def ExcKind.code : ExcKind → Nat
  | .missedTurn => 1 | .doubleTurn => 2 | .captureFailed => 3 | .frameMissing => 4 | .frameTooLarge => 5
  | .partnerLate => 6 | .lampUnavailable => 7 | .doseHeld => 8 | .frameDiscarded => 9 | .noSlot => 10

def LampState.code : LampState → Nat
  | .absent => 0 | .charging => 1 | .charged => 2 | .firing => 3 | .faulted => 4 | .discharged => 5

def CtxState.code : CtxState → Nat
  | .waitSettle => 1 | .waitPartner => 2 | .waitSlot => 3 | .waitLight => 4 | .firing => 5 | .awaitFrame => 6
  | .receiving => 7

def DrainStatus.code : DrainStatus → Nat
  | .complete => 0 | .stopped => 1 | .stalled => 2 | .reset => 3

def DrainRelease.code : DrainRelease → Nat
  | .none => 0 | .freedAuto => 1 | .freedDeferred => 2 | .deferred => 3 | .dropped => 4

def Served.code : Served → Nat
  | .left => 0 | .right => 1 | .pair => 2

def Mode.code : Mode → Nat
  | .unpaired => 0 | .paired => 1

def StopRule.code : StopRule → Nat
  | .never => 0 | .onDamage => 1 | .onDim => 2 | .onEither => 3

/-- The mode a code names (R79 check 2, R195). -/
def modeOfCode (b : Byte) : Option Mode :=
  if b = 0 then some .unpaired else if b = 1 then some .paired else none

/-- The stop rule a code names (R79 check 3, R195). -/
def stopOfCode (b : Byte) : Option StopRule :=
  if b = 0 then some .never else if b = 1 then some .onDamage else if b = 2 then some .onDim
  else if b = 3 then some .onEither else none

/-- The half a side code of LAMP_SET names (R72 check 2, R193). -/
def sideOfCode (b : Byte) : Option Half :=
  if b = 0 then some .left else if b = 1 then some .right else none

def RxState.code : RxState → Nat
  | .hunt => 0 | .header => 1 | .payload => 2 | .trailer => 3 | .sealing => 4

def refusalCode : Option HeaderRefusal → Nat
  | none => 0 | some .noFrameWanted => 1 | some .wrongSide => 2 | some .noMatch => 3 | some .badSize => 4
  | some .tooLarge => 5

def MemMode.code : MemMode → Nat
  | .active => 0 | .entering => 1 | .retention => 2

def EngineState.code : EngineState → Nat
  | .idle => 0 | .saving => 1 | .restoring => 2

/-- Link role codes (R193). -/
def roleCode : LinkId → Nat
  | .S => 0 | .V => 1 | .R => 2 | .A => 3

/-- Status codes (R194). -/
def Status.code : Status → Nat
  | .ok => 0x00 | .accepted => 0x01 | .wait => 0x02 | .grant => 0x03 | .notReady => 0x04 | .role => 0x10
  | .malformed => 0x11 | .range => 0x12 | .state => 0x13 | .noVolume => 0x14 | .busy => 0x15 | .fault => 0x16
  | .tooLate => 0x17 | .endOfVolume => 0x18 | .noSide => 0x19 | .sideDone => 0x1A | .sideHeld => 0x1B
  | .claimed => 0x1C | .badProgram => 0x1D | .lampUnavailable => 0x1E | .noSlot => 0x1F | .duplicate => 0x20
  | .duplicateMark => 0x21 | .tableFull => 0x22 | .notSealed => 0x23 | .queueFull => 0x24 | .undrained => 0x25
  | .notMounted => 0x26 | .framesHeld => 0x27

/-- A code in one byte. -/
def b1 (n : Nat) : Byte := BitVec.ofNat 8 n

/-- Fields that hold "none" as 0xFF (R193): slot, volume index, seal status, side state, face, half. -/
def noneFF : Option Nat → Byte
  | none => 0xFF
  | some n => b1 n

/-- An opening number, with 0xFFFF for none (R193). -/
def openingBytes : Option Nat → List Byte
  | none => be 2 0xFFFF
  | some k => be 2 k

/-- A leaf number or capture id, with 0 for none (R193). -/
def idBytes (n : Option Nat) : List Byte :=
  be 2 (n.getD 0)

/-- A number below `n` as an index; none at or above it. -/
def finOf (n v : Nat) : Option (Fin n) :=
  if h : v < n then some ⟨v, h⟩ else none

/-- The slots, lowest first. -/
def allSlots : List (Fin 8) := [0, 1, 2, 3, 4, 5, 6, 7]

/-- The lamp channels. -/
def allLamps : List (Fin 8) := [0, 1, 2, 3, 4, 5, 6, 7]

/-- The volume entries, lowest first. -/
def allVolumes : List (Fin 16) := [0, 1, 2, 3, 4, 5, 6, 7, 8, 9, 10, 11, 12, 13, 14, 15]

/-- The lamps of a mask (R193: bit i for lamp Li). -/
def lampsOf (mask : Byte) : List (Fin 8) :=
  allLamps.filter fun i => mask.getLsbD i.val

/-- The mask of a list of lamps (R193). -/
def maskOf (lamps : List (Fin 8)) : Byte :=
  bitsByte (allLamps.map fun i => decide (i ∈ lamps))

end Sys2Proof.Machine
end

