-- ==== Sys2Proof/Machine/Ops.lean ====
section
/-! DEFINITION. Named operations over the parts of the state: banks of halves, links, slots, lamps and
volumes; the stacked DRAM; notices and responses of the links. -/

namespace Sys2Proof.Machine

open Sys2Proof

/-! ### Banks -/

def Pair.get {α : Type} (p : Pair α) : Half → α
  | .left => p.left
  | .right => p.right

def Pair.set {α : Type} (p : Pair α) (h : Half) (a : α) : Pair α :=
  match h with
  | .left => { p with left := a }
  | .right => { p with right := a }

def Links.get (b : Links) : LinkId → Link
  | .S => b.S
  | .V => b.V
  | .R => b.R
  | .A => b.A

def Links.set (b : Links) (l : LinkId) (k : Link) : Links :=
  match l with
  | .S => { b with S := k }
  | .V => { b with V := k }
  | .R => { b with R := k }
  | .A => { b with A := k }

def State.link (s : State) (l : LinkId) : Link := s.links.get l

def State.setLink (s : State) (l : LinkId) (k : Link) : State :=
  { s with links := s.links.set l k }

def State.ctx (s : State) (h : Half) : Option Ctx := s.capture.ctxs.get h

def State.setCtx (s : State) (h : Half) (c : Option Ctx) : State :=
  { s with capture := { s.capture with ctxs := s.capture.ctxs.set h c } }

def State.claimOf (s : State) (h : Half) : Option Claim := s.capture.claims.get h

def State.setClaim (s : State) (h : Half) (c : Option Claim) : State :=
  { s with capture := { s.capture with claims := s.capture.claims.set h c } }

def State.setWaitOrder (s : State) (w : List Half) : State :=
  { s with capture := { s.capture with waitOrder := w } }

def State.rx (s : State) (h : Half) : Receiver := s.memory.rx.get h

def State.setRx (s : State) (h : Half) (r : Receiver) : State :=
  { s with memory := { s.memory with rx := s.memory.rx.set h r } }

def State.slot (s : State) (i : Fin 8) : Slot := s.memory.slots[i]

def State.setSlot (s : State) (i : Fin 8) (x : Slot) : State :=
  { s with memory := { s.memory with slots := s.memory.slots.set i.val x i.isLt } }

def State.setBurst (s : State) (b : Option Burst) : State :=
  { s with memory := { s.memory with burst := b } }

def State.setEngine (s : State) (e : Engine) : State :=
  { s with memory := { s.memory with engine := e } }

def State.lamp (s : State) (i : Fin 8) : Lamp := s.light.lamps[i]

def State.setLamp (s : State) (i : Fin 8) (x : Lamp) : State :=
  { s with light := { s.light with lamps := s.light.lamps.set i.val x i.isLt } }

def State.setHeld (s : State) (r : List LightRequest) : State :=
  { s with light := { s.light with held := r } }

def State.program (s : State) (i : Fin 16) : Program := s.light.programs[i]

def State.setProgram (s : State) (i : Fin 16) (p : Program) : State :=
  { s with light := { s.light with programs := s.light.programs.set i.val p i.isLt } }

def State.volume (s : State) (i : Fin 16) : Volume := s.account.volumes[i]

def State.setVolume (s : State) (i : Fin 16) (v : Volume) : State :=
  { s with account := { s.account with volumes := s.account.volumes.set i.val v i.isLt } }

def State.setLeaves (s : State) (t : List LeafEntry) : State :=
  { s with account := { s.account with leaves := t } }

def State.setExceptions (s : State) (t : List ExcRecord) : State :=
  { s with account := { s.account with exceptions := t } }

def State.setOpening (s : State) (o : Opening) : State :=
  { s with opening := o }

def State.setActive (s : State) (a : Option ActiveDrain) : State :=
  { s with drain := { s.drain with active := a } }

/-- Change every entry of a bank by one function (through its list, so that it evaluates). -/
def mapBank {α : Type} {n : Nat} (f : α → α) (v : Vector α n) : Vector α n :=
  ⟨⟨v.toArray.toList.map f⟩, by simp⟩

/-- Change every lamp by one function. -/
def State.mapLamps (s : State) (f : Lamp → Lamp) : State :=
  { s with light := { s.light with lamps := mapBank f s.light.lamps } }

/-- Change every slot record by one function. -/
def State.mapSlots (s : State) (f : Slot → Slot) : State :=
  { s with memory := { s.memory with slots := mapBank f s.memory.slots } }

/-! ### The stacked DRAM (R110, log 6)

Byte cells with strictly rising addresses, none of them 0; an address with no cell reads 0. -/

/-- What an address with no cell reads as (log 6). -/
def unlisted : Byte := 0

/-- The byte at an address. -/
def memRead : List Host.Cell → Nat → Byte
  | [], _ => unlisted
  | (x, y) :: t, a => if x = a then y else memRead t a

/-- Write the byte at an address, keeping the canonical form. -/
def memWrite : List Host.Cell → Nat → Byte → List Host.Cell
  | [], a, b => if b = unlisted then [] else [(a, b)]
  | (x, y) :: t, a, b =>
    if a < x then (if b = unlisted then (x, y) :: t else (a, b) :: (x, y) :: t)
    else if a = x then (if b = unlisted then t else (a, b) :: t)
    else (x, y) :: memWrite t a b

/-- The canonical form: addresses strictly rising and no cell holding what an unlisted address reads as. -/
def Memory.wf : List Host.Cell → Bool
  | [] => true
  | [(_, y)] => y != unlisted
  | (x, y) :: (x', y') :: t => y != unlisted && decide (x < x') && Memory.wf ((x', y') :: t)

/-- The byte address of a word of a slot (log 6). -/
def wordAddr (slot : Fin 8) (loc : Nat) : Nat :=
  2 * (Config.slotWords * slot.val + loc)

/-- The word at a location of a slot, high byte first (log 6). -/
def readWord (m : List Host.Cell) (slot : Fin 8) (loc : Nat) : Word :=
  wordOf (memRead m (wordAddr slot loc)) (memRead m (wordAddr slot loc + 1))

/-- Write the word at a location of a slot, high byte first (log 6). -/
def writeWord (m : List Host.Cell) (slot : Fin 8) (loc : Nat) (w : Word) : List Host.Cell :=
  memWrite (memWrite m (wordAddr slot loc) (BitVec.ofNat 8 (w.toNat / 256))) (wordAddr slot loc + 1)
    (BitVec.ofNat 8 w.toNat)

/-- Write words to consecutive locations of a slot (R119). -/
def writeWords (m : List Host.Cell) (slot : Fin 8) : Nat → List Word → List Host.Cell
  | _, [] => m
  | loc, w :: ws => writeWords (writeWord m slot loc w) slot (loc + 1) ws

/-- Read `n` words from consecutive locations of a slot (R130, R136). -/
def readWords (m : List Host.Cell) (slot : Fin 8) : Nat → Nat → List Word
  | _, 0 => []
  | loc, n + 1 => readWord m slot loc :: readWords m slot (loc + 1) n

/-! ### Notices and responses of a link (R181, R185, R188) -/

/-- Depth of a link's notice queue (R181). -/
def noticeDepth : LinkId → Nat
  | .S => Config.stationDepth
  | .V => Config.otherDepth
  | .R => Config.otherDepth
  | .A => Config.otherDepth

/-- Queue a notice on a link of that depth, or drop it and count it as lost (R188). -/
def Link.push (depth : Nat) (n : Notice) (k : Link) : Link :=
  if k.notices.length < depth then { k with notices := k.notices ++ [n] }
  else { k with lost := satAdd Config.maxByteCount k.lost, noticeLost := true }

/-- Queue a notice on a link (R188). -/
def State.notify (s : State) (l : LinkId) (n : Notice) : State :=
  s.setLink l ((s.link l).push (noticeDepth l) n)

/-- Empty a link's notice queue; a notice being clocked out is no longer its head (R183, R189). -/
def Link.emptyNotices (k : Link) : Link :=
  { k with
    notices := []
    exchange := k.exchange.map fun e =>
      match e.out with
      | .notice _ => { e with live := false }
      | _ => e }

/-- The attention line of a link is asserted while its notice queue holds a notice (R188). -/
def Link.attention (k : Link) : Bool := !k.notices.isEmpty

/-- The byte counter of a link (R181): whole bytes clocked in the exchange in progress, saturating at 255. -/
def Link.byteCounter (k : Link) : Nat :=
  match k.exchange with
  | none => 0
  | some e => min e.incoming.length Config.maxByteCount

/-- The cradle fault line is asserted exactly in FAULT (R17). -/
def State.faultLine (s : State) : Bool := decide (s.opening.state = .fault)

/-- The body of the link status (R190, R196). -/
def linkStatusBody (l : LinkId) (s : State) : List Byte :=
  [b1 (roleCode l), b1 (s.link l).notices.length, b1 (s.link l).lost, flag s.faultLine]

/-! ### Output lines (log 29) -/

/-- A strobe is driven exactly while its lamp is FIRING (R75, R87 to R89). -/
def State.strobe (s : State) (i : Fin 8) : Bool := decide ((s.lamp i).state = .firing)

/-- A trigger line is asserted exactly while a flash that serves its half runs (R44, R87). -/
def State.trigger (s : State) (h : Half) : Bool :=
  match s.light.flash with
  | none => false
  | some f => f.served.serves h

/-- The ready line of a pixel link (R116). -/
def Receiver.ready (r : Receiver) : Bool :=
  match r.state with
  | .payload => decide (r.fifo.length < Config.fifoDepth)
  | .sealing => false
  | _ => true

/-- Valid on the drain link (R136): the buffer holds a word and no end is ordered. -/
def State.drainValid (s : State) : Bool :=
  match s.drain.active with
  | none => false
  | some a => a.ordered.isNone && !s.drain.buffer.isEmpty

/-- Terminal count (R136): high with valid on the word that brings words left to 0. -/
def State.terminalCount (s : State) : Bool :=
  match s.drain.active with
  | none => false
  | some a => s.drainValid && decide (a.left = 1)

/-- Data of the drain link: the buffer's oldest word (R136). -/
def State.drainData (s : State) : Option Word :=
  if s.drainValid then s.drain.buffer.head? else none

end Sys2Proof.Machine
end

