-- ==== Sys2Proof/Machine/AccountOps.lean ====
section
/-! DEFINITION. Shared operations of the account unit: the mounted entry, side records and their counts
(R166 to R169, R175), the exception list (R178), headrooms (R94). -/

namespace Sys2Proof.Machine

open Sys2Proof

/-- The MOUNTED entry (R149). -/
def State.mounted (s : State) : Option (Fin 16) :=
  allVolumes.find? fun i => decide ((s.volume i).state = .mounted)

/-- The entry that is SUSPENDING or RESUMING (R149). -/
def State.moving (s : State) : Option (Fin 16) :=
  allVolumes.find? fun i => decide ((s.volume i).state = .suspending ∨ (s.volume i).state = .resuming)

/-! ### The leaf table -/

/-- The entry of leaf `j`, 1 first. -/
def leafAt (t : List LeafEntry) (j : Nat) : Option LeafEntry :=
  if j = 0 then none else t[j - 1]?

/-- Change the entry of leaf `j`. -/
def modifyLeaf (t : List LeafEntry) (j : Nat) (f : LeafEntry → LeafEntry) : List LeafEntry :=
  if j = 0 then t else t.modify (j - 1) f

def LeafEntry.side (e : LeafEntry) : Face → SideRec
  | .recto => e.recto
  | .verso => e.verso

def LeafEntry.setSide (e : LeafEntry) (f : Face) (r : SideRec) : LeafEntry :=
  match f with
  | .recto => { e with recto := r }
  | .verso => { e with verso := r }

/-- The side record of a face of a leaf; none for a leaf outside the table. -/
def State.side (s : State) (f : Face) (j : Nat) : Option SideRec :=
  (leafAt s.account.leaves j).map (·.side f)

/-! ### Side-state counts (R175) -/

def SideCounts.get (c : SideCounts) : SideState → Nat
  | .wanted => c.wanted
  | .claimed => c.claimed
  | .capturing => c.capturing
  | .captured => c.captured
  | .reshoot => c.reshoot
  | .exempt => c.exempt
  | .held => c.held

def SideCounts.set (c : SideCounts) (x : SideState) (n : Nat) : SideCounts :=
  match x with
  | .wanted => { c with wanted := n }
  | .claimed => { c with claimed := n }
  | .capturing => { c with capturing := n }
  | .captured => { c with captured := n }
  | .reshoot => { c with reshoot := n }
  | .exempt => { c with exempt := n }
  | .held => { c with held := n }

/-- A side leaves one state and enters another (R175). -/
def SideCounts.move (c : SideCounts) (a b : SideState) : SideCounts :=
  if a = b then c
  else
    let c' := c.set a (c.get a - 1)
    c'.set b (c'.get b + 1)

/-- WANTED plus RESHOOT plus HELD (R161, R176). -/
def SideCounts.outstanding (c : SideCounts) : Nat :=
  c.wanted + c.reshoot + c.held

/-- Change a side record, and the counts of the MOUNTED entry with its state, as one action (R168, R175). -/
def State.changeSide (s : State) (f : Face) (j : Nat) (g : SideRec → SideRec) : State :=
  match s.side f j with
  | none => s
  | some r =>
    let s1 := s.setLeaves (modifyLeaf s.account.leaves j fun e => e.setSide f (g r))
    match s1.mounted with
    | none => s1
    | some i =>
      let v := s1.volume i
      s1.setVolume i { v with counts := v.counts.move r.state (g r).state }

/-- Give a side back its prior state when a claim ends without a capture (R168): owner and prior state none. -/
def SideRec.unclaimed (prior : Undone) (r : SideRec) : SideRec :=
  { r with state := prior.toSide, owner := none, prior := none }

/-! ### Exceptions (R178) -/

/-- Hand an exception to the account unit: added with its notice on link S, or lost when the list is full. -/
def State.addException (s : State) (x : ExcRecord) : State :=
  match s.mounted with
  | none => s
  | some i =>
    let v := s.volume i
    if s.account.exceptions.length < Config.exceptionDepth then
      let s1 := (s.setExceptions (s.account.exceptions ++ [x])).setVolume i
        { v with excCount := satAdd Config.maxExceptionCount v.excCount }
      s1.notify .S (.exception i x s1.account.exceptions.length v.excLost)
    else
      s.setVolume i { v with excLost := satAdd Config.maxExceptionCount v.excLost }

/-! ### Headrooms (R94) -/

/-- H(j): leaf cap less leaf dose, or 0. -/
def State.leafHeadroom (s : State) (j : Nat) : Nat :=
  match s.mounted, leafAt s.account.leaves j with
  | some i, some e => (s.volume i).leafCap - e.dose
  | _, _ => 0

/-- Headroom of a volume entry: volume cap less volume dose used, or 0. -/
def Volume.headroom (v : Volume) : Nat :=
  v.volumeCap - v.doseUsed

/-- H_vol of the MOUNTED entry. -/
def State.volumeHeadroom (s : State) : Nat :=
  match s.mounted with
  | some i => (s.volume i).headroom
  | none => 0

/-- Apply a charge to the two leaves and to the volume as one event (R103). -/
def State.charge (s : State) (leftLeaf rightLeaf : Option Nat) (dl dr : Nat) : State :=
  let add (t : List LeafEntry) (j : Option Nat) (d : Nat) : List LeafEntry :=
    match j with
    | none => t
    | some j => modifyLeaf t j fun e => { e with dose := e.dose + d }
  let s1 := s.setLeaves (add (add s.account.leaves leftLeaf dl) rightLeaf dr)
  match s1.mounted with
  | none => s1
  | some i =>
    let v := s1.volume i
    s1.setVolume i { v with doseUsed := v.doseUsed + (dl + dr) }

end Sys2Proof.Machine
end

