-- ==== Sys2Proof/Machine/OpeningOps.lean ====
section
/-! DEFINITION. Shared operations of the opening controller: present sides (R4), the turn condition and the
evaluation of a settled opening (R5 to R10). -/

namespace Sys2Proof.Machine

open Sys2Proof

/-- N of the volume in the cradle, or 0 when there is none (R3). -/
def State.leaves (s : State) : Nat :=
  match s.opening.volume with
  | none => 0
  | some i => (s.volume i).n

/-- The leaf of the present side of a half, if it has one (R4): leaf k on the left when k ≥ 1, leaf k+1 on the
right when k ≤ N−1. -/
def State.presentLeaf (s : State) (h : Half) : Option Nat :=
  match s.opening.volume with
  | none => none
  | some _ =>
    match h with
    | .left => if 1 ≤ s.opening.k then some s.opening.k else none
    | .right => if s.opening.k + 1 ≤ s.leaves then some (s.opening.k + 1) else none

/-- The state of the present side of a half. -/
def State.presentState (s : State) (h : Half) : Option SideState :=
  match s.presentLeaf h with
  | none => none
  | some j => (s.side (faceOf h) j).map (·.state)

/-- Whether a face of a leaf is a present side of the current opening (R4). -/
def State.isPresent (s : State) (f : Face) (j : Nat) : Bool :=
  decide (s.presentLeaf (halfOf f) = some j)

/-- READY, EXPOSING, TURNABLE and FINISHED (R2). -/
def OpeningState.settled : OpeningState → Bool
  | .ready => true
  | .exposing => true
  | .turnable => true
  | .finished => true
  | _ => false

/-- The state's refusal (R2); SETTLING and the settled states but FINISHED have none. -/
def OpeningState.refusal : OpeningState → Option Status
  | .idle => some .noVolume
  | .turning => some .state
  | .finished => some .state
  | .fault => some .fault
  | .parked => some .state
  | _ => none

/-- All present sides done (R5). -/
def State.allDone (s : State) : Bool :=
  [Half.left, Half.right].all fun h =>
    match s.presentLeaf h with
    | none => true
    | some j =>
      match s.side (faceOf h) j with
      | none => false
      | some r => r.state.done

/-- A claim record exists for either half (R5). -/
def State.claimHeld (s : State) : Bool :=
  (s.claimOf .left).isSome || (s.claimOf .right).isSome

/-- Either capture context holds a capture in flight (R5). -/
def State.inFlight (s : State) : Bool :=
  (s.ctx .left).isSome || (s.ctx .right).isSome

/-- The direction of R6: toward the seek target when one is set, FORWARD otherwise. -/
def State.turnDirection (s : State) : Direction :=
  match s.opening.seek with
  | none => .forward
  | some t => if t < s.opening.k then .backward else .forward

/-- Whether a turn in that direction is possible (R6). -/
def State.turnPossible (s : State) : Direction → Bool
  | .forward => decide (s.opening.k < s.leaves)
  | .backward => decide (0 < s.opening.k)

/-- The turn condition (R6). -/
def State.turnCondition (s : State) : Bool :=
  s.allDone ||
    (match s.opening.seek with
     | none => false
     | some t => decide (t ≠ s.opening.k))

/-- The state the evaluation gives: the first row of R7 that holds. -/
def State.evaluated (s : State) : OpeningState :=
  if s.inFlight then .exposing
  else if !s.claimHeld && s.turnCondition && s.turnPossible s.turnDirection then .turnable
  else if decide (s.opening.k = s.leaves) && s.opening.seek.isNone && s.allDone then .finished
  else .ready

/-- Take the evaluated state, with the direction of R10 and the notices of R9 and R31. -/
def State.takeEvaluated (s : State) : State :=
  let st := s.evaluated
  let dir := if st = .turnable then some s.turnDirection else none
  let entry := s.opening.state ≠ st ∨ (st = .turnable ∧ s.opening.direction ≠ dir)
  let s1 := s.setOpening { s.opening with state := st, direction := dir }
  if entry ∧ st = .turnable then
    s1.notify .A (.turnReady s.turnDirection s.opening.k s.opening.volume)
  else if entry ∧ st = .finished then
    s1.notify .S (.volumeEnd s.opening.volume s.leaves)
  else s1

/-- An evaluation event: an evaluation in a settled state, nothing in any other (R8). -/
def State.evaluate (s : State) : State :=
  if s.opening.state.settled then s.takeEvaluated else s

/-- A side-state change taken by the account unit, and the evaluation it causes when the side is present
(R8, R169). -/
def State.evaluateSide (s : State) (f : Face) (j : Nat) : State :=
  if s.isPresent f j then s.evaluate else s

/-- The settle time in force in the entry of the volume in the cradle (R11). -/
def State.settleTime (s : State) : Nat :=
  match s.opening.volume with
  | none => 0
  | some i => (s.volume i).settle

/-- Entry to SETTLING (R11). A settle time of 0 expires as it starts: the opening is evaluated at once. -/
def State.enterSettling (s : State) : State :=
  let t := s.settleTime
  let s1 := s.setOpening { s.opening with state := .settling, settle := some t, direction := none }
  if t = 0 then (s1.setOpening { s1.opening with settle := none }).takeEvaluated else s1

/-- The opening goes to IDLE at SUSPEND or CLOSE (R15): k is kept. -/
def State.enterIdle (s : State) : State :=
  s.setOpening
    { s.opening with volume := none, seek := none, settle := none, direction := none, state := .idle }

end Sys2Proof.Machine
end

