-- ==== Sys2Proof/Machine/CaptureOps.lean ====
section
/-! DEFINITION. Shared operations of the capture unit: slots bound, returned and offered (R55, R112, R113),
light requests placed and withdrawn (R82), step starts (R55, R66), captures ended (R62, R63, R67), claims
ended (R48 to R50). -/

namespace Sys2Proof.Machine

open Sys2Proof

/-! ### Light requests (R82) -/

/-- The step of a program copy, numbered from 1. -/
def Program.stepAt (p : Program) (n : Nat) : Option ProgStep :=
  if n = 0 then none else p.steps[n - 1]?

/-- The mask of the step in progress. -/
def Ctx.mask (c : Ctx) : Byte :=
  match c.copy.stepAt c.step with
  | none => 0
  | some p => p.mask

/-- The light request of an unpaired step (R57, R82). -/
def Ctx.request (c : Ctx) (h : Half) : LightRequest :=
  match h with
  | .left => { served := .left, leftId := some c.id, rightId := none, step := c.step, mask := c.mask }
  | .right => { served := .right, leftId := none, rightId := some c.id, step := c.step, mask := c.mask }

/-- Place the light request of a half that has entered WAIT_LIGHT; a pair places one request when both members
are in WAIT_LIGHT (R66, R82). -/
def State.placeRequest (s : State) (h : Half) : State :=
  match s.ctx h with
  | none => s
  | some c =>
    if c.linked then
      match s.ctx .left, s.ctx .right with
      | some a, some b =>
        if a.state = .waitLight ∧ b.state = .waitLight then
          s.setHeld (s.light.held ++
            [{ served := .pair, leftId := some a.id, rightId := some b.id, step := a.step, mask := a.mask }])
        else s
      | _, _ => s
    else s.setHeld (s.light.held ++ [c.request h])

/-- Withdraw the light requests that serve a half (R82). -/
def State.withdraw (s : State) (h : Half) : State :=
  s.setHeld (s.light.held.filter fun r => !r.served.serves h)

/-! ### Slots (R55, R112, R113) -/

/-- The lowest-numbered FREE slot (R112). -/
def State.lowestFree (s : State) : Option (Fin 8) :=
  allSlots.find? fun i => decide ((s.slot i).state = .free)

/-- Bind a slot to the step of a half's context (R55): the slot becomes OPEN with its tags, the context
records it and enters WAIT_LIGHT. -/
def State.bindSlot (s : State) (h : Half) (i : Fin 8) : State :=
  match s.ctx h with
  | none => s
  | some c =>
    (s.setSlot i
      { Slot.free with
        state := .open', volume := s.opening.volume, captureId := some c.id, side := some (h, c.leaf),
        step := some c.step }).setCtx h (some { c with slot := some i, state := .waitLight })

/-- Stop the slot wait limit of a half's step once it has every slot it needs (R56). -/
def State.stopSlotLimit (s : State) (h : Half) : State :=
  match s.ctx h with
  | none => s
  | some c =>
    if c.linked then
      match s.ctx (otherHalf h) with
      | none => s.setCtx h (some { c with slotTimer := none })
      | some d =>
        if d.state = .waitSlot then s
        else (s.setCtx h (some { c with slotTimer := none })).setCtx (otherHalf h) (some { d with slotTimer := none })
    else s.setCtx h (some { c with slotTimer := none })

/-- Offer the lowest-numbered FREE slot to the oldest context in the wait order (R112), which binds it,
leaves the wait order and enters WAIT_LIGHT (R55). -/
def State.offerOnce (s : State) : State :=
  match s.capture.waitOrder with
  | [] => s
  | h :: rest =>
    match s.lowestFree with
    | none => s
    | some i => (((s.setWaitOrder rest).bindSlot h i).stopSlotLimit h).placeRequest h

/-- Offer FREE slots to the waiting contexts, of which there are at most two (R112). -/
def State.offerSlots (s : State) : State :=
  s.offerOnce.offerOnce

/-- A slot becomes FREE: its record is set as after power-on reset, and it is offered (R112, R113). -/
def State.freeSlot (s : State) (i : Fin 8) : State :=
  (s.setSlot i .free).offerSlots

/-- Return the slot bound to a step that ends before its header (R113); only a slot in OPEN is returned. -/
def State.returnSlot (s : State) (slot : Option (Fin 8)) : State :=
  match slot with
  | none => s
  | some i => if (s.slot i).state = .open' then s.freeSlot i else s

/-! ### Step starts (R55, R66) -/

/-- Bind the lowest FREE slot, or enter WAIT_SLOT at the end of the wait order with the slot wait limit
running (R55, R56). -/
def State.bindOrWait (s : State) (h : Half) : State :=
  match s.lowestFree with
  | some i => s.bindSlot h i
  | none =>
    match s.ctx h with
    | none => s
    | some c =>
      (s.setCtx h (some { c with state := .waitSlot, slotTimer := some Config.slotWaitMs })).setWaitOrder
        (s.capture.waitOrder ++ [h])

/-- Whether a half's context is in a given state. -/
def State.ctxIn (s : State) (h : Half) (st : CtxState) : Bool :=
  match s.ctx h with
  | none => false
  | some c => decide (c.state = st)

/-- Start the step of an unpaired context (R55). -/
def State.startStep (s : State) (h : Half) : State :=
  let s1 := s.bindOrWait h
  if s1.ctxIn h .waitLight then s1.placeRequest h else s1

/-- Run the slot wait limit in both members of a pair of which one waits for a slot: one limit serves both
(R56). -/
def State.sharePairLimit (s : State) : State :=
  if s.ctxIn .left .waitSlot || s.ctxIn .right .waitSlot then
    match s.ctx .left, s.ctx .right with
    | some a, some b =>
      (s.setCtx .left (some { a with slotTimer := some Config.slotWaitMs })).setCtx .right
        (some { b with slotTimer := some Config.slotWaitMs })
    | _, _ => s
  else s.placeRequest .left

/-- Start the step of a pair (R66): the left context binds first and the right one second. -/
def State.startPair (s : State) : State :=
  ((s.bindOrWait .left).bindOrWait .right).sharePairLimit

/-- Step 1 of the contexts in WAIT_SETTLE, when the opening leaves SETTLING for a settled state (R12, R54). -/
def State.startWaiting (s : State) : State :=
  let l := s.ctxIn .left .waitSettle
  let r := s.ctxIn .right .waitSettle
  let pair := match s.ctx .left with
    | none => false
    | some c => c.linked
  if l && r && pair then s.startPair
  else
    let s1 := if l then s.startStep .left else s
    if r then s1.startStep .right else s1

/-! ### Claims (R48 to R50) -/

/-- End a claim without a capture: the side returns to its prior state and the record is emptied. The notice
CLAIM_EXPIRED is queued when `expired` (R48, R50). No evaluation. -/
def State.endClaim (s : State) (h : Half) (expired : Bool) : State :=
  match s.claimOf h with
  | none => s
  | some c =>
    let s1 := (s.changeSide (faceOf h) c.leaf (SideRec.unclaimed c.prior)).setClaim h none
    if expired then s1.notify (cameraLink h) (.claimExpired c.leaf (faceOf h) c.prior) else s1

/-- End the claims of both halves (R50). -/
def State.endClaims (s : State) (expired : Bool) : State :=
  (s.endClaim .left expired).endClaim .right expired

/-! ### Capture ends (R62 to R64, R67) -/

/-- Steps after the one in progress (R45). -/
def Ctx.remaining (c : Ctx) : Nat := c.copy.steps.length - c.step

/-- The result has a seal status other than GOOD (R62 row 4). -/
def StepResult.damaged (r : StepResult) : Bool :=
  match r.sealStatus with
  | none => false
  | some .good => false
  | some _ => true

def Ctx.anyDamaged (c : Ctx) : Bool := c.results.any StepResult.damaged

def Ctx.anySealed (c : Ctx) : Bool := c.results.any fun r => r.sealStatus.isSome

def Ctx.anyDimmed (c : Ctx) : Bool := c.results.any fun r => r.dimmed

/-- The step just recorded is DIMMED. -/
def Ctx.lastDimmed (c : Ctx) : Bool :=
  match c.results.getLast? with
  | none => false
  | some r => r.dimmed

/-- Stop rules that end a capture after a DIMMED step (R61). -/
def StopRule.onDimmed : StopRule → Bool
  | .onDim => true
  | .onEither => true
  | _ => false

/-- Stop rules that end a capture after a frame that is not GOOD (R61). -/
def StopRule.onDamaged : StopRule → Bool
  | .onDamage => true
  | .onEither => true
  | _ => false

/-- End causes that make a capture FAILED (R62 row 4), with the exception kind of that name (R63). -/
def EndCause.failure : EndCause → Option ExcKind
  | .noSlot => some .noSlot
  | .lampUnavailable => some .lampUnavailable
  | .frameMissing => some .frameMissing
  | .frameTooLarge => some .frameTooLarge
  | .partnerLate => some .partnerLate
  | _ => none

/-- The failure a context's end cause names, if any. -/
def Ctx.failure (c : Ctx) : Option ExcKind :=
  match c.cause with
  | none => none
  | some k => k.failure

/-- The outcome of a capture that ends: the first row of R62 that holds. -/
def Ctx.outcome (c : Ctx) : CaptureOutcome :=
  if c.order = some .aborted then .aborted
  else if c.order = some .cancelled then .cancelled
  else if c.cause = some .held then .held
  else if c.failure.isSome || c.anyDamaged then .failed
  else if c.cause = some .partnerEnded ∧ c.anySealed = false then .cancelled
  else if (c.cause = some .stop ∧ c.lastDimmed = true ∧ c.copy.stop.onDimmed = true) ∨
      (c.cause = some .partnerEnded ∧ 0 < c.remaining) then .shortened
  else .complete

/-- COMPLETE or SHORTENED: the side becomes CAPTURED (R62). -/
def CaptureOutcome.succeeds : CaptureOutcome → Bool
  | .complete => true
  | .shortened => true
  | _ => false

/-- The state the side takes at a capture's end (R62), with the frame discarded mark (R63). -/
def Ctx.sideAfter (c : Ctx) (discarded : Bool) : SideState :=
  if c.outcome.succeeds then (if discarded then .reshoot else .captured)
  else if c.outcome = .held then .held
  else c.prior.toSide

/-- The dose a step result charged to the side of a half. -/
def StepResult.doseOn (r : StepResult) : Half → Nat
  | .left => r.left
  | .right => r.right

/-- The capture summary of a context (R64). -/
def Ctx.summary (c : Ctx) (h : Half) (outcome : CaptureOutcome) (discarded : Bool) : Summary :=
  { captureId := c.id, outcome := outcome, program := some c.program,
    steps := c.results.map fun r =>
      { step := r.step, slot := r.slot, sealStatus := r.sealStatus, level := r.level, dimmed := r.dimmed,
        clamped := r.clamped },
    dose := (c.results.map fun r => r.doseOn h).sum,
    discarded := discarded }

/-- The frame discarded mark of a capture in flight: that of the summary its first commit wrote (R63, R64). -/
def State.discardedMark (s : State) (h : Half) (c : Ctx) : Bool :=
  if c.anySealed then
    match s.side (faceOf h) c.leaf with
    | none => false
    | some r =>
      match r.summary with
      | none => false
      | some m => m.discarded
  else false

/-- The exception a capture end adds: the first row of the table of R63 that matches. -/
def Ctx.exception (c : Ctx) (h : Half) (k : Nat) (discarded : Bool) : Option ExcRecord :=
  let base (kind : ExcKind) (slot : Option (Fin 8)) (extra : Nat) : ExcRecord :=
    { kind := kind, side := some (faceOf h, c.leaf), opening := k, captureId := some c.id, slot := slot,
      extra := extra }
  match c.outcome with
  | .failed =>
    match c.failure with
    | some kind => some (base kind none 0)
    | none => some (base .captureFailed ((c.results.find? StepResult.damaged).bind (·.slot)) 0)
  | .held => some (base .doseHeld none (capCode c.heldCap))
  | .complete => if discarded then some (base .frameDiscarded none 0) else none
  | .shortened => if discarded then some (base .frameDiscarded none 0) else none
  | _ => none

/-- Hand an exception on, if there is one. -/
def State.addException? (s : State) (x : Option ExcRecord) : State :=
  match x with
  | none => s
  | some r => s.addException r

/-- The end of one capture (R63), without its effect on a pair's other member: account unit, notices, context,
slot returned, opening controller. -/
def State.endOne (s : State) (h : Half) : State :=
  match s.ctx h with
  | none => s
  | some c =>
    let discarded := s.discardedMark h c
    let exc := c.exception h s.opening.k discarded
    let s1 := s.changeSide (faceOf h) c.leaf fun r =>
      { r with
        state := c.sideAfter discarded, owner := none, prior := none,
        captures := satAdd Config.maxSideCaptures r.captures,
        summary := some (c.summary h c.outcome discarded) }
    let s2 := s1.addException? exc
    let done : Notice :=
      .captureDone c.id h c.leaf c.outcome c.results.length c.anyDimmed (exc.map (·.kind))
    let s3 := (s2.notify (cameraLink h) done).notify .S done
    let s4 := ((s3.setCtx h none).setWaitOrder (s3.capture.waitOrder.filter fun x => decide (x ≠ h))).withdraw h
    (s4.returnSlot c.slot).evaluate

/-- Context states in which an end takes place at once (R67, R68). -/
def CtxState.waits : CtxState → Bool
  | .waitSettle => true
  | .waitPartner => true
  | .waitSlot => true
  | .waitLight => true
  | _ => false

/-- When one member of a pair ends, the other takes end cause PARTNER_ENDED, unless it already has a cause,
and is a partner no more (R67). A waiting one leaves the wait order, since it ends at once. -/
def State.partnerEnded (s : State) (h : Half) : State :=
  match s.ctx h with
  | none => s
  | some d =>
    let d' : Ctx := { d with linked := false, cause := d.cause.or (some .partnerEnded) }
    let s1 := s.setCtx h (some d')
    if d.state.waits then s1.setWaitOrder (s1.capture.waitOrder.filter fun x => decide (x ≠ h)) else s1

/-- The end of a capture, with its effect on the other member of a pair (R63, R67). -/
def State.endCapture (s : State) (h : Half) : State :=
  match s.ctx h with
  | none => s
  | some c =>
    if c.linked then
      let o := otherHalf h
      let s1 := (s.partnerEnded o).endOne h
      match s1.ctx o with
      | none => s1
      | some d => if d.state.waits then s1.endOne o else s1
    else s.endOne h

/-- Give a context an end cause, and a held cap with it. -/
def State.setCause (s : State) (h : Half) (cause : EndCause) (cap : Option Cap) : State :=
  match s.ctx h with
  | none => s
  | some c => s.setCtx h (some { c with cause := some cause, heldCap := cap })

/-- Order an end (R68, R69): ABORTED replaces a CANCELLED order, and an order given stands otherwise. -/
def State.orderEnd (s : State) (h : Half) (o : EndOrder) : State :=
  match s.ctx h with
  | none => s
  | some c =>
    match c.order, o with
    | some .cancelled, .aborted => s.setCtx h (some { c with order := some .aborted })
    | some _, _ => s
    | none, _ => s.setCtx h (some { c with order := some o })

/-- Context states in which an order ends the capture at once (R68). -/
def CtxState.endsNow : CtxState → Bool
  | .firing => false
  | .receiving => false
  | _ => true

/-- End a half's capture at once if an order ends it in its state (R68). -/
def State.endIfNow (s : State) (h : Half) : State :=
  match s.ctx h with
  | none => s
  | some c => if c.order.isSome && c.state.endsNow then s.endCapture h else s

/-- Set the receiver's cancel mark for a frame being received that has not sealed (R123). -/
def State.markCancel (s : State) (h : Half) : State :=
  match s.ctx h with
  | none => s
  | some c =>
    if c.state = .receiving ∧ c.report = none ∧ c.order = none then
      s.setRx h { s.rx h with cancelMark := true }
    else s

/-- A CANCEL taken for the capture in flight on a half (R68): an order already given stands. -/
def State.cancelCtx (s : State) (h : Half) : State :=
  (((s.markCancel h).orderEnd h .cancelled)).endIfNow h

/-- CANCEL with id 0 on both halves (R69): both ends are ordered before either takes place (log 24). -/
def State.cancelBoth (s : State) : State :=
  let s1 := ((s.markCancel .left).orderEnd .left .cancelled)
  let s2 := ((s1.markCancel .right).orderEnd .right .cancelled)
  (s2.endIfNow .left).endIfNow .right

/-- Every capture in flight ends ABORTED (R69): both ends are ordered before either takes place (log 24). -/
def State.abortBoth (s : State) : State :=
  (((s.orderEnd .left .aborted).orderEnd .right .aborted).endIfNow .left).endIfNow .right

end Sys2Proof.Machine
end

