-- ==== Sys2Proof/Machine/Dose.lean ====
section
/-! DEFINITION. The dose calculator: the dose check (R95 to R101) and the charge of a flash (R103). All
quantities are natural numbers and exact. -/

namespace Sys2Proof.Machine

open Sys2Proof

/-- E_dir(i, L): E_full times g_direct times L over 261,120, rounded up (R97). -/
def LampEntry.direct (e : LampEntry) (level : Nat) : Nat :=
  ceilDiv (e.eFull * e.gDirect * level) Config.irradianceDivisor

/-- E_sp(i, L): E_full times g_spill times L over 261,120, rounded up (R97). -/
def LampEntry.spill (e : LampEntry) (level : Nat) : Nat :=
  ceilDiv (e.eFull * e.gSpill * level) Config.irradianceDivisor

/-- The light of a lamp on a half: direct on its own half, spill on the other (R97). -/
def LampEntry.on (e : LampEntry) (h : Half) (level : Nat) : Nat :=
  if e.side = h then e.direct level else e.spill level

/-- Side irradiance E_S(L): the sum over the lamps of the mask (R98). -/
def irradiance (lamps : List LampEntry) (h : Half) (level : Nat) : Nat :=
  (lamps.map fun e => e.on h level).sum

/-- A dose in DU: effective lux times us over 1000, rounded up (R98). -/
def doseOf (e t : Nat) : Nat :=
  ceilDiv (e * t) 1000

/-- What a dose check reads (R95): the lamps' entries, the presence and headroom of each side, the headroom of
the volume, the requested level and the stored duration. -/
structure DoseInput where
  lamps : List LampEntry
  /-- headroom of leaf k, none when the left side is absent -/
  left : Option Nat
  /-- headroom of leaf k+1, none when the right side is absent -/
  right : Option Nat
  volume : Nat
  level : Nat
  stored : Nat
deriving DecidableEq, Repr

/-- The smallest max duration among the lamps (R96). -/
def DoseInput.bound (i : DoseInput) : Nat :=
  i.lamps.foldl (fun a e => min a e.maxDuration) 200000

/-- The duration used, t (R96). -/
def DoseInput.duration (i : DoseInput) : Nat :=
  if i.stored < 100 then 100 else if i.stored ≤ i.bound then i.stored else i.bound

/-- CLAMPED (R96). -/
def DoseInput.clamped (i : DoseInput) : Bool :=
  decide (i.stored < 100) || decide (i.bound < i.stored)

/-- The level floor: the largest L_min among the lamps (R96). -/
def DoseInput.floor (i : DoseInput) : Nat :=
  i.lamps.foldl (fun a e => max a e.lMin) 0

/-- D_left(L); 0 when the left side is absent (R98). -/
def DoseInput.dLeft (i : DoseInput) (level : Nat) : Nat :=
  if i.left.isSome then doseOf (irradiance i.lamps .left level) i.duration else 0

/-- D_right(L); 0 when the right side is absent (R98). -/
def DoseInput.dRight (i : DoseInput) (level : Nat) : Nat :=
  if i.right.isSome then doseOf (irradiance i.lamps .right level) i.duration else 0

/-- Within a headroom; an absent side passes (R99). -/
def within (d : Nat) : Option Nat → Bool
  | none => true
  | some h => decide (d ≤ h)

/-- The first test of R99 that fails at a level; none when the level fits. -/
def DoseInput.failing (i : DoseInput) (level : Nat) : Option Cap :=
  if !within (i.dLeft level) i.left then some .leafLeft
  else if !within (i.dRight level) i.right then some .leafRight
  else if i.dLeft level + i.dRight level ≤ i.volume then none
  else some .volume

/-- A level fits when the three tests of R99 hold. -/
def DoseInput.fits (i : DoseInput) (level : Nat) : Bool :=
  (i.failing level).isNone

/-- The largest level from `floor` up to `n - 1` that fits (R100 step 2). -/
def largestFitting (fits : Nat → Bool) (floor : Nat) : Nat → Option Nat
  | 0 => none
  | n + 1 => if n < floor then none else if fits n then some n else largestFitting fits floor n

/-- What a dose check decides (R100, R101). -/
inductive DoseDecision where
  | fits (level : Nat)
  | dimmed (level : Nat)
  | held (cap : Option Cap)
deriving DecidableEq, Repr

/-- The lowest level tested: the floor when the range of R100 is not empty, the requested level otherwise
(R101). -/
def DoseInput.lowestTested (i : DoseInput) : Nat :=
  if i.floor < i.level then i.floor else i.level

/-- The dose check (R100, R101). -/
def DoseInput.check (i : DoseInput) : DoseDecision :=
  if i.fits i.level then .fits i.level
  else
    match largestFitting i.fits i.floor i.level with
    | some l => .dimmed l
    | none => .held (i.failing i.lowestTested)

/-- The input of a dose check on the current opening, as the state stands (R95). -/
def State.doseInput (s : State) (mask : Byte) (level stored : Nat) : DoseInput :=
  { lamps := (lampsOf mask).map fun i => (s.lamp i).entry,
    left := (s.presentLeaf .left).map s.leafHeadroom,
    right := (s.presentLeaf .right).map s.leafHeadroom,
    volume := s.volumeHeadroom, level := level, stored := stored }

/-- A lamp's recorded irradiance on a half (R103). -/
def FlashLamp.on (x : FlashLamp) (h : Half) : Nat :=
  if x.side = h then x.direct else x.spill

/-- E′ of a half: the sum over the CONFIRMED lamps of the record (R103). -/
def Flash.irradiance (f : Flash) (h : Half) : Nat :=
  ((f.lamps.filter fun x => decide (x.confirm = .confirmed)).map fun x => x.on h).sum

/-- D′_left: taken only when the left side was present at the grant (R103). -/
def Flash.chargeLeft (f : Flash) : Nat :=
  if f.leftLeaf.isSome then doseOf (f.irradiance .left) f.duration else 0

/-- D′_right: taken only when the right side was present at the grant (R103). -/
def Flash.chargeRight (f : Flash) : Nat :=
  if f.rightLeaf.isSome then doseOf (f.irradiance .right) f.duration else 0

end Sys2Proof.Machine
end

