-- ==== Sys2Proof/Machine/Formats.lean ====
section
/-! DEFINITION. The bodies of responses and notices (R193, R194, R196), and the bytes of an outgoing frame
(R194). -/

namespace Sys2Proof.Machine

open Sys2Proof

/-! ### Parts -/

/-- A slot, volume index or seal status that may be none (R193). -/
def finByte {n : Nat} (i : Option (Fin n)) : Byte := noneFF (i.map (·.val))

/-- A seal status that may be none (R193). -/
def sealByte (x : Option Seal) : Byte := noneFF (x.map Seal.code)

/-- A number that may be none in a field with no code for none (R193, log 8). -/
def uncodedOr (u : Config.Uncoded) (n : Option Nat) : Nat := n.getD (Config.uncodedNone u)

/-- The seven counts in side-state code order, two bytes each (R196). -/
def countsBytes (c : SideCounts) : List Byte :=
  be 2 c.wanted ++ be 2 c.claimed ++ be 2 c.capturing ++ be 2 c.captured ++ be 2 c.reshoot ++ be 2 c.exempt ++
    be 2 c.held

/-- A half and leaf that may be none: half 0xFF, leaf 0 (R193). -/
def sideBytes (x : Option (Half × Nat)) : List Byte :=
  match x with
  | none => 0xFF :: be 2 0
  | some (h, j) => b1 (halfCode h) :: be 2 j

/-- A leaf and face that may be none: leaf 0, face 0xFF (R193). -/
def leafFaceBytes (x : Option (Nat × Face)) : List Byte :=
  match x with
  | none => be 2 0 ++ [0xFF]
  | some (j, f) => be 2 j ++ [b1 f.code]

/-! ### Records -/

/-- One step of a capture summary: four bytes (R196). Bits 4 and 5 of the first are 0 (DESIGN CHOICE, log 40). -/
def StepSummary.bytes (x : StepSummary) : List Byte :=
  [b1 (x.step % 16 + (if x.dimmed then 64 else 0) + (if x.clamped then 128 else 0)), finByte x.slot,
    sealByte x.sealStatus, b1 x.level]

/-- Dimmed-any of a summary: set when any step is DIMMED (R64). -/
def Summary.dimmedAny (x : Summary) : Bool := x.steps.any fun r => r.dimmed

/-- A capture summary (R196). -/
def Summary.bytes (x : Summary) : List Byte :=
  be 2 x.captureId ++ [b1 x.outcome.code, noneFF x.program, b1 x.steps.length,
    bitsByte [x.dimmedAny, x.discarded]] ++ be 4 x.dose ++ x.steps.flatMap StepSummary.bytes

/-- The absent capture summary (R193). -/
def absentSummary : List Byte := be 2 0 ++ [0xFF, 0xFF, 0, 0] ++ be 4 0

/-- A capture summary that may be none (R193, R196). -/
def summaryBytes (x : Option Summary) : List Byte :=
  match x with
  | none => absentSummary
  | some y => y.bytes

/-- Claim owner: none 0, V 1, R 2 (R196). -/
def ownerCode : Option Half → Byte
  | none => 0
  | some .left => 1
  | some .right => 2

/-- A side record without its leaf and face (R196): state, owner, prior state, reason, count, summary. -/
def SideRec.bytes (r : SideRec) : List Byte :=
  [b1 r.state.code, ownerCode r.owner, noneFF (r.prior.map Undone.code), noneFF r.reason, b1 r.captures] ++
    summaryBytes r.summary

/-- An exception record: ten bytes (R196). -/
def ExcRecord.bytes (x : ExcRecord) : List Byte :=
  [b1 x.kind.code] ++
    (match x.side with
     | none => 0xFF :: be 2 0
     | some (f, j) => b1 f.code :: be 2 j) ++
    be 2 x.opening ++ idBytes x.captureId ++ [finByte x.slot, b1 x.extra]

/-! ### Bodies of responses -/

/-- Leaf and side state of a half in the opening status; leaf 0 and state 0xFF when no side is present. -/
def State.halfStatus (s : State) (h : Half) : List Byte :=
  idBytes (s.presentLeaf h) ++ [noneFF ((s.presentState h).map SideState.code)]

/-- The opening status (R3, R196): 17 bytes. -/
def State.openingStatus (s : State) : List Byte :=
  let o := s.opening
  [b1 o.state.code, finByte o.volume] ++ be 2 s.leaves ++ be 2 o.k ++ openingBytes o.seek ++
    [b1 (directionCode o.direction), b1 (causeCode o.cause), o.armCode] ++ s.halfStatus .left ++ s.halfStatus .right

/-- The arm view (R26, R196): 13 bytes. -/
def State.armView (s : State) : List Byte :=
  let o := s.opening
  [b1 o.state.code, finByte o.volume] ++ be 2 s.leaves ++ be 2 o.k ++ [b1 (directionCode o.direction)] ++
    be 2 (o.turn.getD 0) ++ be 2 (o.settle.getD 0) ++ [b1 (causeCode o.cause), o.armCode]

/-- The volume status (R150, R196): 53 bytes. Words left are those of a SUSPENDING or RESUMING entry; opening
state and k are those of the MOUNTED entry. -/
def State.volumeStatus (s : State) (i : Fin 16) : List Byte :=
  let v := s.volume i
  let moving : Bool := decide (v.state = .suspending ∨ v.state = .resuming)
  let here : Bool := decide (v.state = .mounted)
  [b1 i.val, b1 v.state.code] ++ be 2 v.n ++ be 4 v.leafCap ++ be 6 v.volumeCap ++ be 6 v.doseUsed ++
    be 2 v.settle ++ [b1 v.turn] ++ be 2 v.life ++ countsBytes v.counts ++ be 2 v.excCount ++ be 2 v.excLost ++
    openingBytes v.lastOpening ++ [finByte v.saveSlot] ++
    be 4 (uncodedOr .volumeWordsLeft (if moving then some s.memory.engine.left else none)) ++
    [b1 (uncodedOr .volumeOpeningState (if here then some s.opening.state.code else none))] ++
    openingBytes (if here then some s.opening.k else none)

/-- The volume status with the CLAMPED flag of REGISTER and SET_TIMING (R151, R152; log 25). -/
def State.volumeStatusClamped (s : State) (i : Fin 16) (clamped : Bool) : List Byte :=
  s.volumeStatus i ++ [bitsByte [clamped]]

/-- A pixel link's part of the slot status (R114, R196): five bytes. -/
def Receiver.statusBytes (r : Receiver) : List Byte :=
  [b1 r.state.code] ++ be 2 r.fifo.length ++ [b1 r.refusedCount, b1 (refusalCode r.lastRefusal)]

/-- The slot status (R114, R196): 50 bytes. -/
def State.slotStatusBody (s : State) (i : Fin 8) : List Byte :=
  let x := s.slot i
  let camera : List Byte :=
    match x.camera with
    | none => be 6 (Config.uncodedNone .slotCamera)
    | some (a, b, c) => bytesOf [a, b, c]
  let words : Nat := if x.state = .save then x.image.getD 0 else x.words
  [b1 i.val, b1 x.state.code, finByte x.volume] ++ idBytes x.captureId ++ sideBytes x.side ++
    [b1 (uncodedOr .slotStep x.step)] ++ be 2 (uncodedOr .slotWidth (x.size.map (·.1))) ++
    be 2 (uncodedOr .slotHeight (x.size.map (·.2))) ++ camera ++ be 4 words ++
    be 4 (uncodedOr .slotCrcComputed (x.crcComputed.map (·.toNat))) ++
    be 4 (uncodedOr .slotCrcReceived (x.crcReceived.map (·.toNat))) ++
    [sealByte x.sealStatus,
      bitsByte [x.committed, x.drainedFully, x.deferred.isSome, x.deferred.getD false, x.crcComputed.isSome,
        x.crcReceived.isSome]] ++
    (s.rx .left).statusBytes ++ (s.rx .right).statusBytes ++
    [b1 s.memory.mode.code, b1 s.memory.owed, b1 s.memory.engine.state.code] ++ be 4 s.memory.engine.left

/-- A lamp's part of the light status: lamp state and recharge time left (R74). -/
def Lamp.statusBytes (x : Lamp) : List Byte :=
  [b1 x.state.code] ++ be 2 (x.recharge.getD 0)

/-- The request held that serves a half, if any. -/
def State.heldFor (s : State) (h : Half) : Option LightRequest :=
  s.light.held.find? fun r => r.served.serves h

/-- The capture id of a half in a light request. -/
def LightRequest.idOf (r : LightRequest) : Half → Option Nat
  | .left => r.leftId
  | .right => r.rightId

/-- A half's capture id and step number among the requests held (R74, R196). -/
def State.heldBytes (s : State) (h : Half) : List Byte :=
  idBytes ((s.heldFor h).bind fun r => r.idOf h) ++ [b1 (uncodedOr .lightStep ((s.heldFor h).map (·.step)))]

/-- Whether a request of this served code is held. -/
def State.holds (s : State) (x : Served) : Bool := s.light.held.any fun r => decide (r.served = x)

/-- The light status (R74, R196): 42 bytes. It holds no band code, which R71 returns in the light status and neither R74
nor R196 lists there; `State.lampBody` shows it (DEDUCED, log 44). -/
def State.lightStatus (s : State) : List Byte :=
  (allLamps.flatMap fun i => (s.lamp i).statusBytes) ++
    [noneFF (s.light.flash.map fun f => f.served.code)] ++ be 2 (s.light.gap.getD 0) ++
    [b1 (halfCode s.light.lastServed), bitsByte [s.holds .left, s.holds .right, s.holds .pair]] ++
    s.heldBytes .left ++ s.heldBytes .right ++
    (match s.light.lastFlash with
     | none => [0xFF, 0] ++ be 3 0 ++ [0, 0]
     | some f => [b1 f.served.code, b1 f.level] ++ be 3 f.duration ++ [f.confirmed, f.unconfirmed])

/-- The LAMP_SET response of the write and read forms (R72, R74, R196): 20 bytes, the band code among them (DEDUCED,
log 44). The light status is not in it (DEDUCED, log 9). -/
def State.lampBody (s : State) (i : Fin 8) (clamped : Bool) : List Byte :=
  let x := s.lamp i
  let e := x.entry
  [b1 i.val, flag e.present, b1 (halfCode e.side), b1 e.band] ++ be 2 e.eFull ++ be 2 e.gDirect ++ be 2 e.gSpill ++
    [b1 e.lMin] ++ be 3 e.maxDuration ++ be 2 e.recharge ++ [bitsByte [clamped]] ++ x.statusBytes

/-- A program step: five bytes (R196). -/
def ProgStep.bytes (x : ProgStep) : List Byte := [x.mask, b1 x.level] ++ be 3 x.duration

/-- The PROGRAM_SET response (R79, R80, R196). The light status is not in it (DEDUCED, log 9). -/
def State.programBody (s : State) (i : Fin 16) : List Byte :=
  let p := s.program i
  [b1 i.val, b1 p.mode.code, b1 p.stop.code, b1 p.steps.length] ++ p.steps.flatMap ProgStep.bytes

/-- The DOSE_QUERY result (R109, R196): 45 bytes. -/
def State.doseBody (s : State) (program step : Nat) (i : DoseInput) : List Byte :=
  let d := i.check
  let code : Nat := match d with
    | .fits _ => 0
    | .dimmed _ => 1
    | .held _ => 2
  let chosen : Nat := match d with
    | .fits l => l
    | .dimmed l => l
    | .held _ => 0
  let cap : Option Cap := match d with
    | .held c => c
    | _ => none
  -- the level the figures are given at: the level chosen, or L_req for HELD (R109)
  let at' : Nat := match d with
    | .fits l => l
    | .dimmed l => l
    | .held _ => i.level
  let e (h : Half) (x : Option Nat) : Nat := if x.isSome then irradiance i.lamps h at' else 0
  [b1 program, b1 step] ++ idBytes (s.presentLeaf .left) ++ idBytes (s.presentLeaf .right) ++
    [b1 i.level, b1 i.floor] ++ be 3 i.stored ++ be 3 i.duration ++
    [b1 (code + (if i.clamped then 4 else 0)), b1 chosen, b1 (capCode cap)] ++
    be 3 (e .left i.left) ++ be 3 (e .right i.right) ++ be 4 (i.dLeft at') ++ be 4 (i.dRight at') ++
    be 4 (i.left.getD 0) ++ be 4 (i.right.getD 0) ++ be 6 i.volume

/-- A present side's part of the budget status: leaf, leaf dose and headroom; all 0 for an absent side or a
volume not MOUNTED (R106, R196). -/
def State.budgetSide (s : State) (here : Bool) (h : Half) : List Byte :=
  match here, s.presentLeaf h with
  | true, some j =>
    be 2 j ++ be 4 ((leafAt s.account.leaves j).map (·.dose) |>.getD 0) ++ be 4 (s.leafHeadroom j)
  | _, _ => be 2 0 ++ be 4 0 ++ be 4 0

/-- The budget status (R106, R196): 43 bytes. -/
def State.budgetBody (s : State) (i : Fin 16) : List Byte :=
  let v := s.volume i
  let here : Bool := decide (v.state = .mounted)
  [b1 i.val] ++ be 4 v.leafCap ++ be 6 v.volumeCap ++ be 6 v.doseUsed ++ be 6 v.headroom ++
    s.budgetSide here .left ++ s.budgetSide here .right

/-- The drain status (R134, R196): 18 bytes. -/
def State.drainStatusBody (s : State) : List Byte :=
  (match s.drain.active with
   | none =>
     [0xFF] ++ be 4 (Config.uncodedNone .drainFirst) ++ be 4 (Config.uncodedNone .drainCount) ++
       be 4 (Config.uncodedNone .drainSent) ++ [0xFF]
   | some a => [b1 a.job.slot.val] ++ be 4 a.job.first ++ be 4 a.job.count ++ be 4 a.sent ++ [noneFF a.stall]) ++
    ([0, 1, 2, 3].map fun n => noneFF ((s.drain.queue[n]?).map fun j => j.slot.val))

/-- The DRAIN_OPEN response (R134, R196): 29 bytes. -/
def State.drainOpenBody (s : State) (j : DrainJob) (clamped : Bool) : List Byte :=
  [b1 j.slot.val] ++ be 4 j.first ++ be 4 j.count ++ [flag j.auto, bitsByte [clamped]] ++ s.drainStatusBody

/-- The side report (R170, R196): 22 bytes. -/
def sideReport (leaf : Nat) (f : Face) (i : Fin 16) (before : SideState) (after : SideRec) (changed : Bool)
    (counts : SideCounts) : List Byte :=
  be 2 leaf ++ [b1 f.code, b1 i.val, b1 before.code, b1 after.state.code, flag changed, noneFF after.reason] ++
    countsBytes counts

/-- A side's part of the leaf view (R174, R196): 11 bytes. -/
def SideRec.viewBytes (r : SideRec) (present : Bool) : List Byte :=
  [b1 r.state.code, ownerCode r.owner, noneFF (r.prior.map Undone.code), noneFF r.reason, b1 r.captures] ++
    (match r.summary with
     | none => be 2 0 ++ [0xFF, 0, 0]
     | some x => be 2 x.captureId ++ [b1 x.outcome.code, b1 x.steps.length, flag x.dimmedAny]) ++
    [flag present]

/-- The leaf view (R174, R196): 32 bytes. -/
def State.leafView (s : State) (j : Nat) (e : LeafEntry) : List Byte :=
  be 2 j ++ be 4 e.dose ++ be 4 (s.leafHeadroom j) ++ e.recto.viewBytes (s.isPresent .recto j) ++
    e.verso.viewBytes (s.isPresent .verso j)

/-- The face view of READ_LEAF (R174, R196). -/
def faceView (j : Nat) (f : Face) (r : SideRec) : List Byte :=
  be 2 j ++ [b1 f.code] ++ r.bytes

/-- The close report (R161, R196): 39 bytes. -/
def CloseReport.bytes (x : CloseReport) : List Byte :=
  [b1 x.index.val] ++ be 2 x.n ++ [flag (!x.fromMounted)] ++ countsBytes x.counts ++ be 2 x.counts.outstanding ++
    be 6 x.doseUsed ++ be 6 x.volumeCap ++ be 2 x.excCount ++ be 2 x.excLost ++ [b1 x.unread] ++
    openingBytes x.lastOpening

/-! ### Notices (R188, R195, R196) -/

/-- The notice kinds (R195). -/
def Notice.kind : Notice → Byte
  | .captureDone _ _ _ _ _ _ _ => 0x80
  | .slotSealed _ _ _ _ _ _ _ _ => 0x81
  | .drainDone _ _ _ _ _ _ _ _ _ => 0x82
  | .releaseDropped _ _ _ _ _ => 0x83
  | .exception _ _ _ _ => 0x84
  | .volumeSaved _ _ _ _ => 0x85
  | .volumeRestored _ _ _ _ => 0x86
  | .closeReport _ => 0x87
  | .volumeEnd _ _ => 0x88
  | .fault _ _ _ _ _ => 0x89
  | .stepFired _ _ _ _ _ _ _ _ _ _ _ => 0x8A
  | .claimExpired _ _ _ => 0x8B
  | .turnReady _ _ _ => 0x8C

/-- The body of a notice (R196). -/
def Notice.body : Notice → List Byte
  | .captureDone id h leaf outcome results dimmedAny exc =>
    be 2 id ++ [b1 (halfCode h)] ++ be 2 leaf ++
      [b1 outcome.code, b1 results, flag dimmedAny, b1 ((exc.map ExcKind.code).getD 0)]
  | .slotSealed slot volume id side step sealStatus size words =>
    [b1 slot.val, finByte volume] ++ idBytes id ++ sideBytes side ++
      [b1 (uncodedOr .slotStep step), b1 sealStatus.code] ++ be 2 (uncodedOr .slotWidth (size.map (·.1))) ++
      be 2 (uncodedOr .slotHeight (size.map (·.2))) ++ be 4 words
  | .drainDone slot volume id status first count sent full release =>
    [b1 slot.val, finByte volume] ++ idBytes id ++ [b1 status.code] ++ be 4 first ++ be 4 count ++ be 4 sent ++
      [flag full, b1 release.code]
  | .releaseDropped slot reason discard sealStatus full =>
    [b1 slot.val, b1 reason.code, flag discard, sealByte sealStatus, flag full]
  | .exception volume record inList lost => [b1 volume.val] ++ record.bytes ++ [b1 inList] ++ be 2 lost
  | .volumeSaved index slot lastOpening length =>
    [b1 index.val, b1 slot.val] ++ openingBytes lastOpening ++ be 4 length
  | .volumeRestored index n k undoneAndHeld => [b1 index.val] ++ be 2 n ++ be 2 k ++ be 2 undoneAndHeld
  | .closeReport report => report.bytes
  | .volumeEnd index n => [finByte index] ++ be 2 n
  | .fault cause armCode volume k direction =>
    [b1 cause.code, armCode, finByte volume] ++ be 2 k ++ [b1 (directionCode direction)]
  | .stepFired id step levelRequested levelUsed dimmed clamped frameWanted duration confirmed missed dose =>
    be 2 id ++ [b1 step, b1 levelRequested, b1 levelUsed, bitsByte [dimmed, clamped, frameWanted]] ++
      be 3 duration ++ [confirmed, missed] ++ be 4 dose
  | .claimExpired leaf face restored => be 2 leaf ++ [b1 face.code, b1 restored.code]
  | .turnReady direction k volume => [b1 (directionCode (some direction))] ++ be 2 k ++ [finByte volume]

/-! ### Frames (R194) -/

/-- An outgoing frame's kind, status and body (R194). -/
def OutFrame.parts : OutFrame → Byte × Status × List Byte
  | .response r => (r.echo, r.status, r.body)
  | .notReady kind => (kind, .notReady, [])
  | .notice n => (n.kind, .ok, n.body)
  | .empty => (0, .ok, [])

/-- The length of an outgoing frame in bytes. -/
def OutFrame.length (f : OutFrame) : Nat := 4 + f.parts.2.2.length

/-- The bytes of an outgoing frame with its port flags byte (R194). -/
def OutFrame.bytes (f : OutFrame) (flags : Byte) : List Byte :=
  [f.parts.1, b1 f.parts.2.1.code, flags, b1 f.parts.2.2.length] ++ f.parts.2.2

/-- The byte on data out at a position of an exchange: 0xFF beyond the frame (R183). -/
def OutFrame.byteOut (f : OutFrame) (flags : Byte) (n : Nat) : Byte :=
  ((f.bytes flags)[n]?).getD 0xFF

end Sys2Proof.Machine
end

