-- ==== Sys2Proof/Machine/Image.lean ====
section
/-! DEFINITION. The save image of a suspended volume (R129, R196): the words a save writes and how a restore
reads them back. -/

namespace Sys2Proof.Machine

open Sys2Proof

/-! ### Writing -/

/-- A side record in the image: the face-view record without leaf and face, zero bytes up to 48 (R196). -/
def SideRec.imageBytes (r : SideRec) : List Byte :=
  r.bytes ++ List.replicate (48 - r.bytes.length) 0

/-- A leaf entry in the image: 100 bytes (R196). -/
def LeafEntry.imageBytes (e : LeafEntry) : List Byte :=
  be 4 e.dose ++ e.recto.imageBytes ++ e.verso.imageBytes

/-- The image header: ten words (R196). -/
def imageHeader (n : Nat) (counts : SideCounts) (lost records : Nat) : List Byte :=
  be 2 n ++ countsBytes counts ++ be 2 lost ++ be 2 records

/-- The words of the image of a volume with its leaf table and exception list (R129, R196). -/
def imageWords (v : Volume) (leaves : List LeafEntry) (exceptions : List ExcRecord) : List Word :=
  wordsOf (imageHeader v.n v.counts v.excLost exceptions.length ++ leaves.flatMap LeafEntry.imageBytes ++
    exceptions.flatMap ExcRecord.bytes)

/-- The image length in words: 10 + 50 N + 5 × records (R196). -/
def imageLength (n records : Nat) : Nat := 10 + 50 * n + 5 * records

/-! ### Reading -/

/-- The first name of a list whose code is the byte. -/
def nameOf {α : Type} (code : α → Nat) (names : List α) (b : Byte) : Option α :=
  names.find? fun x => decide (b1 (code x) = b)

/-- A number that holds 0xFF for none (R193). -/
def unFF (b : Byte) : Option Nat := if b = 0xFF then none else some b.toNat

def allSideStates : List SideState := [.wanted, .claimed, .capturing, .captured, .reshoot, .exempt, .held]

def allOutcomes : List CaptureOutcome :=
  [.inProgress, .complete, .shortened, .failed, .held, .cancelled, .aborted, .stationAccepted]

def allSeals : List Seal := [.good, .damagedCrc, .damagedLength, .damagedTimeout, .cancelled]

def allExcKinds : List ExcKind :=
  [.missedTurn, .doubleTurn, .captureFailed, .frameMissing, .frameTooLarge, .partnerLate, .lampUnavailable,
    .doseHeld, .frameDiscarded, .noSlot]

/-- A summary step from its four bytes. -/
def stepOfBytes (b : List Byte) : StepSummary :=
  { step := (byteAt b 0).toNat % 16, slot := (unFF (byteAt b 1)).bind (finOf 8),
    sealStatus := nameOf Seal.code allSeals (byteAt b 2), level := (byteAt b 3).toNat,
    dimmed := (byteAt b 0).getLsbD 6, clamped := (byteAt b 0).getLsbD 7 }

/-- Summary steps, four bytes each. -/
def stepsOfBytes : Nat → List Byte → List StepSummary
  | 0, _ => []
  | n + 1, b => stepOfBytes b :: stepsOfBytes n (b.drop 4)

/-- A capture summary from its bytes; none for the absent summary (R193). -/
def summaryOfBytes (b : List Byte) : Option Summary :=
  (nameOf CaptureOutcome.code allOutcomes (byteAt b 2)).map fun o =>
    { captureId := field b 0 2, outcome := o, program := unFF (byteAt b 3),
      steps := stepsOfBytes (byteAt b 4).toNat (b.drop 10), dose := field b 6 4,
      discarded := (byteAt b 5).getLsbD 1 }

/-- A side record from its 48 bytes. -/
def sideOfBytes (b : List Byte) : SideRec :=
  { state := (nameOf SideState.code allSideStates (byteAt b 0)).getD .wanted,
    owner := if byteAt b 1 = 1 then some .left else if byteAt b 1 = 2 then some .right else none,
    prior := nameOf Undone.code [.wanted, .reshoot] (byteAt b 2), reason := unFF (byteAt b 3),
    captures := (byteAt b 4).toNat, summary := summaryOfBytes (b.drop 5) }

/-- A leaf entry from its 100 bytes. -/
def leafOfBytes (b : List Byte) : LeafEntry :=
  { dose := field b 0 4, recto := sideOfBytes (b.drop 4), verso := sideOfBytes (b.drop 52) }

/-- Leaf entries, 100 bytes each. -/
def leavesOfBytes : Nat → List Byte → List LeafEntry
  | 0, _ => []
  | n + 1, b => leafOfBytes b :: leavesOfBytes n (b.drop 100)

/-- An exception record from its ten bytes. -/
def excOfBytes (b : List Byte) : ExcRecord :=
  { kind := (nameOf ExcKind.code allExcKinds (byteAt b 0)).getD .missedTurn,
    side := (faceOfCode (byteAt b 1)).map fun f => (f, field b 2 2),
    opening := field b 4 2,
    captureId := if field b 6 2 = 0 then none else some (field b 6 2),
    slot := (unFF (byteAt b 8)).bind (finOf 8), extra := (byteAt b 9).toNat }

/-- Exception records, ten bytes each. -/
def excsOfBytes : Nat → List Byte → List ExcRecord
  | 0, _ => []
  | n + 1, b => excOfBytes b :: excsOfBytes n (b.drop 10)

/-- The seven counts from their 14 bytes. -/
def countsOfBytes (b : List Byte) : SideCounts :=
  { wanted := field b 0 2, claimed := field b 2 2, capturing := field b 4 2, captured := field b 6 2,
    reshoot := field b 8 2, exempt := field b 10 2, held := field b 12 2 }

/-- What a restore reads from an image (R159). -/
structure Restored where
  leaves : List LeafEntry
  exceptions : List ExcRecord
  counts : SideCounts
  lost : Nat
deriving DecidableEq, Repr

/-- Read an image back (R130, R159). -/
def readImage (ws : List Word) : Restored :=
  let b := bytesOf ws
  let n := field b 0 2
  { leaves := leavesOfBytes n (b.drop 20), exceptions := excsOfBytes (field b 18 2) (b.drop (20 + 100 * n)),
    counts := countsOfBytes (b.drop 2), lost := field b 16 2 }

end Sys2Proof.Machine
end

