-- ==== Sys2Proof/Machine/VolumeOps.lean ====
section
/-! DEFINITION. Shared operations of the account unit over volumes: volumes entering the cradle (R15), the
tables emptied, save and restore completions (R157, R159), the close report (R161), timings (R152), marks
(R170 to R173). -/

namespace Sys2Proof.Machine

open Sys2Proof

/-- A volume enters the cradle at opening k when its mount or resume completes (R15): the opening enters
SETTLING, or stays PARKED with park return VOLUME. -/
def State.enterCradle (s : State) (i : Fin 16) (k : Nat) : State :=
  let o := { s.opening with volume := some i, k := k, seek := none }
  if s.opening.state = .parked then s.setOpening { o with parkReturn := .volume }
  else (s.setOpening o).enterSettling

/-- The leaf table and the exception list on chip are emptied (R157, R160, R163). -/
def State.emptyTables (s : State) : State := (s.setLeaves []).setExceptions []

/-- The leaf table of a MOUNT from PENDING: leaves 1..n, every side WANTED (R154, R167). -/
def freshLeaves (n : Nat) : List LeafEntry := List.replicate n .fresh

/-- The save completion at the account unit (R157). -/
def State.saveCompleted (s : State) (i : Fin 16) : State :=
  let v := s.volume i
  let length := (v.saveSlot.bind fun x => (s.slot x).image).getD 0
  let s1 := (s.setVolume i { v with state := .suspended }).emptyTables
  match v.saveSlot with
  | none => s1
  | some x => s1.notify .S (.volumeSaved i x v.lastOpening length)

/-- Undone and HELD sides of a volume (R159). -/
def SideCounts.undoneAndHeld (c : SideCounts) : Nat := c.wanted + c.reshoot + c.held

/-- The restore completion (R130, R159): tables from the image, slot FREE and offered, entry MOUNTED, opening,
notice. -/
def State.restoreCompleted (s : State) (i : Fin 16) (x : Fin 8) (length : Nat) : State :=
  let r := readImage (readWords s.mem x 0 length)
  let v := { s.volume i with counts := r.counts, excLost := r.lost, saveSlot := none }
  let s1 := ((s.setLeaves r.leaves).setExceptions r.exceptions).setVolume i v
  let s2 := s1.freeSlot x
  let k := v.lastOpening.getD 0
  let s3 := (s2.setVolume i { v with state := .mounted }).enterCradle i k
  s3.notify .S (.volumeRestored i v.n k v.counts.undoneAndHeld)

/-- The close report of an entry (R161): of the MOUNTED entry with the k of the opening and the records
unread, of a SUSPENDED entry with its last opening and no records unread, since the list on chip holds none of its
records (DEDUCED, log 38). -/
def State.closeReport (s : State) (i : Fin 16) (fromMounted : Bool) : CloseReport :=
  let v := s.volume i
  { index := i, n := v.n, fromMounted := fromMounted, counts := v.counts, doseUsed := v.doseUsed,
    volumeCap := v.volumeCap, excCount := v.excCount, excLost := v.excLost,
    unread := if fromMounted then s.account.exceptions.length else 0,
    lastOpening := if fromMounted then some s.opening.k else v.lastOpening }

/-- The image of a SUSPENDED entry is taken out of use (R161): its slot becomes FREE and is offered, its save
slot field becomes none, and the report is queued. -/
def State.dropImage (s : State) (i : Fin 16) : State :=
  let v := s.volume i
  let s1 := match v.saveSlot with
    | none => s
    | some x => s.freeSlot x
  (s1.setVolume i { v with saveSlot := none }).notify .S (.closeReport (s.closeReport i false))

/-- The lowest EMPTY entry (R151). -/
def State.lowestEmpty (s : State) : Option (Fin 16) :=
  allVolumes.find? fun i => decide ((s.volume i).state = .empty)

/-- The entry in use that carries a shelf-mark (R151 check 3). -/
def State.markHolder (s : State) (mark : List Byte) : Option (Fin 16) :=
  allVolumes.find? fun i => decide ((s.volume i).state ≠ .empty ∧ (s.volume i).mark = mark)

/-- A shelf-mark of 1..40 printable characters (R148, R151 check 1). -/
def printable (mark : List Byte) : Bool :=
  decide (1 ≤ mark.length ∧ mark.length ≤ 40) && mark.all fun c => decide (0x20 ≤ c.toNat ∧ c.toNat ≤ 0x7E)

/-- The slots that hold frames: SEALED or DRAINING (R155, R162). -/
def State.frameSlots (s : State) : List (Fin 8) :=
  allSlots.filter fun i => decide ((s.slot i).state = .sealed ∨ (s.slot i).state = .draining)

/-- The slots that hold frames of a volume (R162). -/
def State.framesOf (s : State) (v : Fin 16) : List (Fin 8) :=
  s.frameSlots.filter fun i => decide ((s.slot i).volume = some v)

end Sys2Proof.Machine
end

