-- ==== Sys2Proof/Machine/MemoryOps.lean ====
section
/-! DEFINITION. Shared operations of the frame memory controller: the CRC (R120), the seal (R124), the memory
arbiter (R126, R127), retention (R128), the save/restore engine (R129 to R131). -/

namespace Sys2Proof.Machine

open Sys2Proof

/-! ### The frame check (R120) -/

/-- One bit of the CRC: compare with the lowest bit, shift, and combine with the generator if they differ. -/
def crcBit (acc : BitVec 32) (b : Bool) : BitVec 32 :=
  if acc.getLsbD 0 = b then acc >>> 1 else (acc >>> 1) ^^^ Config.crcReversed

/-- One byte, least significant bit first. -/
def crcByte (acc : BitVec 32) (b : Byte) : BitVec 32 :=
  ([0, 1, 2, 3, 4, 5, 6, 7].map fun i => b.getLsbD i).foldl crcBit acc

/-- One payload word, high byte first. -/
def crcWord (acc : BitVec 32) (w : Word) : BitVec 32 :=
  (wordBytes w).foldl crcByte acc

/-- The accumulator at header acceptance: all ones. -/
def crcStart : BitVec 32 := 0xFFFFFFFF

/-- The CRC of payload words: the accumulator after the last word, inverted in every bit. -/
def crcOf (ws : List Word) : BitVec 32 := ~~~(ws.foldl crcWord crcStart)

/-! ### The seal (R124) -/

/-- A pixel burst of a half is in progress. -/
def State.pixelBurst (s : State) (h : Half) : Bool :=
  match s.memory.burst with
  | some (.pixel h' _) => decide (h' = h)
  | _ => false

/-- The receiver after the seal: cancel mark clear, HUNT, ready high (R124 step 5). -/
def Receiver.afterSeal (r : Receiver) : Receiver :=
  { r with
    state := .hunt, cancelMark := false, slot := none, marker := false, crcHigh := none, crcReceived := none,
    result := none }

/-- Hand the seal report to the context in RECEIVING (R124 step 4). -/
def State.handReport (s : State) (h : Half) (i : Fin 8) (st : Seal) : State :=
  match s.ctx h with
  | none => s
  | some c => if c.state = .receiving then s.setCtx h (some { c with report := some (i, st) }) else s

/-- The seal of a half's frame with its check result (R124). -/
def State.sealFrame (s : State) (h : Half) (result : Seal) : State :=
  let r := s.rx h
  match r.slot with
  | none => s.setRx h r.afterSeal
  | some i =>
    let x := s.slot i
    let st : Seal := if r.cancelMark then .cancelled else result
    let x' : Slot :=
      { x with
        state := .sealed, sealStatus := some st, crcComputed := r.crc.map (~~~ ·), crcReceived := r.crcReceived,
        committed := false }
    let s1 := s.setSlot i x'
    let s2 := s1.notify .S (.slotSealed i x.volume x.captureId x.side x.step st x.size x.words)
    (s2.handReport h i st).setRx h r.afterSeal

/-- The seal takes place when the receiver is in SEALING with its FIFO written (R124): the FIFO is empty and no
burst of its words is in progress (log 12). -/
def State.sealIfReady (s : State) (h : Half) : State :=
  match (s.rx h).state, (s.rx h).result with
  | .sealing, some res => if (s.rx h).fifo.isEmpty && !s.pixelBurst h then s.sealFrame h res else s
  | _, _ => s

/-! ### The memory arbiter (R126, R127) -/

/-- The requesters of the memory arbiter (R126). -/
inductive Requester where
  | refreshUrgent | pixel (h : Half) | engine | drain | refreshOwed
deriving DecidableEq, Repr

/-- The requesters in the fixed priority order of R126: link V is the left half's. -/
def requesters : List Requester :=
  [.refreshUrgent, .pixel .left, .pixel .right, .engine, .drain, .refreshOwed]

/-- The words of the next burst of the active drain (R136). -/
def ActiveDrain.burst (a : ActiveDrain) : Nat := min Config.burstWords a.unread

/-- Whether a requester requests (R126, R136). -/
def State.requests (s : State) : Requester → Bool
  | .refreshUrgent => decide (Config.refreshUrgent ≤ s.memory.owed)
  | .pixel h => !(s.rx h).fifo.isEmpty
  | .engine =>
    decide (s.memory.engine.state ≠ .idle) && !s.memory.engine.abandoned && decide (0 < s.memory.engine.left)
  | .drain =>
    match s.drain.active with
    | none => false
    | some a =>
      a.ordered.isNone && decide (0 < a.unread) &&
        decide (s.drain.buffer.length + a.burst ≤ Config.drainBufferWords)
  | .refreshOwed => decide (1 ≤ s.memory.owed)

/-- The arbiter is free: nothing in progress, and the memory mode is ACTIVE or ENTERING (R126). -/
def State.memFree (s : State) : Bool :=
  s.memory.burst.isNone && decide (s.memory.mode ≠ .retention)

/-- A refresh operation granted subtracts one from the owed count (R127). -/
def State.grantRefresh (s : State) : State :=
  { s with memory := { s.memory with burst := some .refresh, owed := s.memory.owed - 1 } }

/-- Grant one burst to a requester (R126). -/
def State.grantBurst (s : State) : Requester → State
  | .refreshUrgent => s.grantRefresh
  | .pixel h =>
    let r := s.rx h
    (s.setRx h { r with fifo := r.fifo.drop Config.burstWords }).setBurst
      (some (.pixel h (r.fifo.take Config.burstWords)))
  | .engine => s.setBurst (some (.engine (min Config.burstWords s.memory.engine.left) false))
  | .drain =>
    match s.drain.active with
    | none => s
    | some a => s.setBurst (some (.drain a.burst))
  | .refreshOwed => s.grantRefresh

/-- The arbiter's decision: the highest-priority requester then requesting is granted (R126). -/
def State.decideMemory (s : State) : State :=
  if s.memFree then
    match requesters.find? s.requests with
    | none => s
    | some r => s.grantBurst r
  else s

/-- The arbiter decides when an event has made a requester begin to request (R126). -/
def State.decideIfBegan (before after : State) : State :=
  if requesters.any fun r => after.requests r && !before.requests r then after.decideMemory else after

/-! ### Retention (R128) -/

/-- Entry to RETENTION: the refresh timer stops and the owed count becomes 0. -/
def State.enterRetention (s : State) : State :=
  { s with memory := { s.memory with mode := .retention, refreshTimer := none, owed := 0 } }

/-- PARK accepted (R128): RETENTION with the engine IDLE, ENTERING otherwise. -/
def State.parkMemory (s : State) : State :=
  if s.memory.engine.state = .idle then s.enterRetention
  else { s with memory := { s.memory with mode := .entering } }

/-- The engine's transfer has completed or was abandoned: ENTERING becomes RETENTION (R128). -/
def State.engineDone (s : State) : State :=
  if s.memory.mode = .entering then s.enterRetention else s

/-- WAKE accepted (R128): ACTIVE, the refresh timer restarts in full and the owed count is 0 (log 17). -/
def State.wakeMemory (s : State) : State :=
  { s with
    memory := { s.memory with mode := .active, refreshTimer := some Config.refreshTenths, owed := 0 } }

/-! ### The save/restore engine (R129 to R131) -/

/-- The image words of the entry that is SUSPENDING, from the tables on chip (R129). -/
def State.saveImage (s : State) (i : Fin 16) : List Word :=
  imageWords (s.volume i) s.account.leaves s.account.exceptions

/-- A save begins (R129): the engine enters SAVING with words left the image length. -/
def State.beginSave (s : State) (x : Fin 8) (length : Nat) : State :=
  s.setEngine { state := .saving, slot := some x, length := length, left := length, abandoned := false }

/-- A restore begins (R130): the engine enters RESTORING with words left the slot's image length. -/
def State.beginRestore (s : State) (x : Fin 8) : State :=
  let length := ((s.slot x).image).getD 0
  s.setEngine { state := .restoring, slot := some x, length := length, left := length, abandoned := false }

/-- Write the words of a save burst to the slot (R129). -/
def State.saveWords (s : State) (n : Nat) : State :=
  let e := s.memory.engine
  match e.slot, s.moving with
  | some x, some i =>
    let done := e.length - e.left
    { s with mem := writeWords s.mem x done (((s.saveImage i).drop done).take n) }
  | _, _ => s

/-- The completion of a transfer (R129, R130): the engine returns to IDLE and the account unit completes. -/
def State.engineCompleted (s : State) (e : Engine) : State :=
  let s1 := s.setEngine .idle
  match s.moving, e.state, e.slot with
  | some i, .saving, _ => s1.saveCompleted i
  | some i, .restoring, some x => s1.restoreCompleted i x e.length
  | _, _, _ => s1

/-- The completion of a burst of the engine (R129, R130). -/
def State.engineBurst (s : State) (n : Nat) : State :=
  let e := s.memory.engine
  let s1 := if e.state = .saving then s.saveWords n else s
  let e' := { e with left := e.left - n }
  if e'.left = 0 then (s1.engineCompleted e').engineDone else s1.setEngine e'

/-- A transfer is abandoned by a cradle reset (R131, log 20): with a burst of it in progress the engine returns
to IDLE at that burst's completion, and at once otherwise. -/
def State.abandonTransfer (s : State) : State :=
  match s.memory.burst with
  | some (.engine n _) =>
    (s.setBurst (some (.engine n true))).setEngine { s.memory.engine with abandoned := true }
  | _ => (s.setEngine .idle).engineDone

/-- The completion of a burst of an abandoned transfer: it changes nothing more, and the engine returns to IDLE
(R131, log 20). A transfer that a SUSPEND or MOUNT has begun since then goes on as it is (DESIGN CHOICE, log 35). -/
def State.staleBurst (s : State) : State :=
  if s.memory.engine.abandoned then (s.setEngine .idle).engineDone else s

end Sys2Proof.Machine
end

