-- ==== Sys2Proof/Machine/DrainOps.lean ====
section
/-! DEFINITION. Shared operations of the drain unit: activation (R135), releases (R141 to R143), the drain end
(R139, R140). -/

namespace Sys2Proof.Machine

open Sys2Proof

/-- The slot is in the drain queue. -/
def State.queued (s : State) (i : Fin 8) : Bool := s.drain.queue.any fun j => decide (j.slot = i)

/-- The active drain is on the slot. -/
def State.drains (s : State) (i : Fin 8) : Bool :=
  match s.drain.active with
  | none => false
  | some a => decide (a.job.slot = i)

/-- The drain unit is idle: empty queue and no active drain (R133). -/
def State.drainIdle (s : State) : Bool := s.drain.queue.isEmpty && s.drain.active.isNone

/-- The active drain of an entry: the stall timer starts if ready is low (R135). -/
def DrainJob.activate (j : DrainJob) (ready : Bool) : ActiveDrain :=
  { job := j, sent := 0, left := j.count, next := j.first, unread := j.count,
    stall := if ready then none else some Config.stallMs, ordered := none }

/-- The activation of R135: the head of the queue becomes the active drain when none is active and the memory
mode is ACTIVE. -/
def State.activateDrain (s : State) : State :=
  if s.drain.active.isNone && decide (s.memory.mode = .active) then
    match s.drain.queue with
    | [] => s
    | j :: rest =>
      let s1 := s.setSlot j.slot { s.slot j.slot with state := .draining }
      { s1 with
        drain := { s1.drain with queue := rest, active := some (j.activate s1.drain.readyIn), buffer := [] } }
  else s

/-! ### Releases (R141 to R143) -/

/-- What a discard did to the side (R143, R193). -/
inductive DiscardEffect where
  | none | reshoot | marked
deriving DecidableEq, Repr

def DiscardEffect.code : DiscardEffect → Nat
  | .none => 0 | .reshoot => 1 | .marked => 2

/-- What the discard rule does to the side of a slot's frame (R143 step 2). A side that is still CAPTURED with its
summary after an ACCEPT_SIDE, which leaves both (R173), becomes RESHOOT (DEDUCED against R145, log 36). -/
def State.discardEffect (s : State) (x : Slot) : DiscardEffect :=
  match x.side with
  | none => .none
  | some (h, j) =>
    match s.side (faceOf h) j with
    | none => .none
    | some r =>
      match r.summary with
      | none => .none
      | some m =>
        if some m.captureId = x.captureId then
          (match r.state with
           | .captured => .reshoot
           | .capturing => .marked
           | _ => .none)
        else .none

/-- Mark a side's summary frame discarded (R143). -/
def SideRec.markDiscarded (r : SideRec) : SideRec :=
  { r with summary := r.summary.map fun m => { m with discarded := true } }

/-- The side's part of the discard rule, with the evaluation of a present side (R143). -/
def State.discardSide (s : State) (x : Slot) : State :=
  match x.side with
  | none => s
  | some (h, j) =>
    match s.discardEffect x with
    | .none => s
    | .marked => s.changeSide (faceOf h) j SideRec.markDiscarded
    | .reshoot => (s.changeSide (faceOf h) j fun r => { r with state := .reshoot }).evaluateSide (faceOf h) j

/-- The FRAME_DISCARDED record of a discard that made a side RESHOOT (R143). -/
def State.discardRecord (s : State) (i : Fin 8) (x : Slot) : Option ExcRecord :=
  match s.discardEffect x with
  | .reshoot =>
    some
      { kind := .frameDiscarded, side := x.side.map fun p => (faceOf p.1, p.2), opening := s.opening.k,
        captureId := x.captureId, slot := some i, extra := 0 }
  | _ => none

/-- What a release did: the state without the exception's record, the exception to hand on, and the refusal. -/
structure Released where
  state : State
  exception : Option ExcRecord
  refusal : Option Status
  effect : DiscardEffect

/-- Rows 6 to 9 of R141 on a SEALED and committed slot, with the discard rule (R143). -/
def State.releaseNow (s : State) (i : Fin 8) (discard : Bool) : Released :=
  let x := s.slot i
  if x.drainedFully then ⟨s.freeSlot i, none, none, .none⟩
  else if !discard then ⟨s, none, some .undrained, .none⟩
  else if x.sealStatus ≠ some .good then ⟨s.freeSlot i, none, none, .none⟩
  else if s.mounted = none ∨ x.volume ≠ s.mounted then ⟨s, none, some .notMounted, .none⟩
  else ⟨(s.discardSide x).freeSlot i, s.discardRecord i x, none, s.discardEffect x⟩

/-- The evaluation of a slot's deferred release, without its notices (R142). -/
def State.evaluateDeferred (s : State) (i : Fin 8) (discard : Bool) : Released :=
  let r := s.releaseNow i discard
  match r.refusal with
  | none => r
  | some _ => { r with state := r.state.setSlot i { r.state.slot i with deferred := none } }

/-- The RELEASE_DROPPED of a deferred release that was refused (R142). -/
def State.notifyDropped (s : State) (i : Fin 8) (x : Slot) (discard : Bool) (refusal : Option Status) : State :=
  match refusal with
  | none => s
  | some reason => s.notify .S (.releaseDropped i reason discard x.sealStatus x.drainedFully)

/-- A held release is evaluated when the last condition that holds it has ended: the slot is committed and
neither DRAINING nor in the queue (R142). -/
def State.runDeferred (s : State) (i : Fin 8) : State :=
  let x := s.slot i
  match x.deferred with
  | none => s
  | some d =>
    if decide (x.state = .sealed) && x.committed && !s.queued i then
      let r := s.evaluateDeferred i d
      (r.state.addException? r.exception).notifyDropped i x d r.refusal
    else s

/-! ### The drain end (R139, R140) -/

/-- The slot after steps 2 and 3 of R140. -/
def Slot.afterDrain (x : Slot) (j : DrainJob) (status : DrainStatus) : Slot :=
  { x with
    state := .sealed,
    drainedFully :=
      x.drainedFully || (decide (status = .complete) && decide (j.first = 0) && decide (j.first + j.count = x.words)) }

/-- What steps 4 and 5 of R140 did to the slot. -/
structure DrainOutcome where
  state : State
  release : DrainRelease
  exception : Option ExcRecord
  refusal : Option Status
  discard : Bool

/-- Steps 4 and 5 of R140 on the SEALED slot: the auto-release, then the deferred release. -/
def State.drainReleases (s : State) (j : DrainJob) (status : DrainStatus) : DrainOutcome :=
  let x := s.slot j.slot
  let auto : Bool := decide (status = .complete) && j.auto && x.drainedFully
  if auto && x.committed then ⟨s.freeSlot j.slot, .freedAuto, none, none, false⟩
  else if auto then ⟨s.setSlot j.slot { x with deferred := some false }, .deferred, none, none, false⟩
  else
    match x.deferred with
    | none => ⟨s, .none, none, none, false⟩
    | some d =>
      if x.committed then
        let r := s.evaluateDeferred j.slot d
        ⟨r.state, if r.refusal.isNone then .freedDeferred else .dropped, r.exception, r.refusal, d⟩
      else ⟨s, .none, none, none, false⟩

/-- The drain end (R140). With status RESET no DRAIN_DONE is queued (R146). The volume and capture id of DRAIN_DONE are
those of the slot record before a release of step 4 or 5 clears it (DEDUCED, log 43). -/
def State.drainEnd (s : State) (status : DrainStatus) : State :=
  match s.drain.active with
  | none => s
  | some a =>
    let j := a.job
    let s1 : State := { s with drain := { s.drain with active := none, buffer := [] } }
    let x := (s1.slot j.slot).afterDrain j status
    let o := (s1.setSlot j.slot x).drainReleases j status
    let s2 :=
      if status = .reset then o.state
      else
        o.state.notify .S
          (.drainDone j.slot x.volume x.captureId status j.first j.count a.sent x.drainedFully o.release)
    ((s2.addException? o.exception).notifyDropped j.slot x o.discard o.refusal).activateDrain

/-- A burst of the drain is in progress (R139). -/
def State.drainBurst (s : State) : Bool :=
  match s.memory.burst with
  | some (.drain _) => true
  | _ => false

/-- Order the active drain to end (R137 to R139, R146): valid falls, the request is withdrawn and the stall
timer stops; the end follows at once, or at the completion of its burst in progress. -/
def State.orderDrain (s : State) (status : DrainStatus) : State :=
  match s.drain.active with
  | none => s
  | some a =>
    let s1 := s.setActive (some { a with stall := none, ordered := some status })
    if s1.drainBurst then s1 else s1.drainEnd status

/-- The completion of a burst of the drain (R136, R139): the words join the buffer, and an end ordered follows. -/
def State.drainBurstDone (s : State) (n : Nat) : State :=
  match s.drain.active with
  | none => s
  | some a =>
    let ws := readWords s.mem a.job.slot a.next n
    let s1 : State :=
      { s with
        drain :=
          { s.drain with
            active := some { a with next := a.next + n, unread := a.unread - n }, buffer := s.drain.buffer ++ ws } }
    match a.ordered with
    | none => s1
    | some status => s1.drainEnd status

end Sys2Proof.Machine
end

