-- ==== Sys2Proof/Machine/Flags.lean ====
section
/-! DEFINITION. The flag computations: the port flags byte and its reporting (R187), the flags of a CLAIM (R46). -/

namespace Sys2Proof.Machine

open Sys2Proof

/-- MORE (R187): the queue holds a notice other than the one the frame of the exchange carries. -/
def Link.more (k : Link) (e : Exchange) : Bool :=
  match e.out, e.live with
  | .notice _, true => decide (1 < k.notices.length)
  | _, _ => !k.notices.isEmpty

/-- The port flags byte (R187, R194): bit 0 OVERRUN, 1 CUT, 2 MALFORMED, 3 SHORT_READ, 4 NOTICE_LOST, 5 FAULT,
6 MORE, bit 7 always 0. -/
def Link.portFlags (k : Link) (e : Exchange) (fault : Bool) : Byte :=
  bitsByte [k.overrun, k.cut, k.malformed, k.shortRead, k.noticeLost, fault, k.more e, false]

/-- A port flags byte has been clocked in full: each sticky flag it showed as set is cleared (R187). -/
def Link.reported (k : Link) (flags : Byte) : Link :=
  { k with
    overrun := k.overrun && !flags.getLsbD 0
    cut := k.cut && !flags.getLsbD 1
    malformed := k.malformed && !flags.getLsbD 2
    shortRead := k.shortRead && !flags.getLsbD 3
    noticeLost := k.noticeLost && !flags.getLsbD 4 }

/-- The flags of a CLAIM (R46, R196): bit 0 WAS_UNDONE, 1 WAS_CLAIMED_BY_YOU, 2 WAS_DONE, 3 WAS_HELD, 4 NO_SIDE. -/
def claimFlags : Option SideState → Byte
  | none => bitsByte [false, false, false, false, true]
  | some .wanted => bitsByte [true, false, false, false, false]
  | some .reshoot => bitsByte [true, false, false, false, false]
  | some .claimed => bitsByte [false, true, false, false, false]
  | some .captured => bitsByte [false, false, true, false, false]
  | some .exempt => bitsByte [false, false, true, false, false]
  | some .held => bitsByte [false, false, false, true, false]
  | some .capturing => 0

end Sys2Proof.Machine
end

