-- ==== Sys2Proof/Machine/LightOps.lean ====
section
/-! DEFINITION. Shared operations of the light unit: the light arbiter's decision and grant (R83, R84, R86),
the beginning of a flash (R87). -/

namespace Sys2Proof.Machine

open Sys2Proof

/-- The arbiter is free when no flash is in progress and the inter-flash gap is stopped (R83). -/
def State.lightFree (s : State) : Bool :=
  s.light.flash.isNone && s.light.gap.isNone

/-- A lamp of a mask that does not hold its request back: CHARGED, ABSENT or FAULTED (R83). -/
def LampState.ready : LampState → Bool
  | .charged => true
  | .absent => true
  | .faulted => true
  | _ => false

/-- A request is eligible when the opening is EXPOSING and every lamp of its mask, of which there is at least
one, is CHARGED, ABSENT or FAULTED (R83). -/
def State.eligible (s : State) (r : LightRequest) : Bool :=
  decide (s.opening.state = .exposing) && !(lampsOf r.mask).isEmpty &&
    (lampsOf r.mask).all fun i => (s.lamp i).state.ready

/-- The arbiter's choice among the eligible requests: of two, the half that is not the last-served half
(R83, R84). -/
def State.chooseRequest (s : State) : Option LightRequest :=
  match s.light.held.filter s.eligible with
  | [] => none
  | [r] => some r
  | r :: rs =>
    match (r :: rs).find? fun x => decide (x.served = servedOf (otherHalf s.light.lastServed)) with
    | some x => some x
    | none => some r

/-- A grant that ends without a flash (R86): the capture ends, or both members of the pair do, each with the
cause and the limiting cap (R57, R66). -/
def State.failGrant (s : State) (served : Served) (cause : EndCause) (cap : Option Cap) : State :=
  match served with
  | .left => (s.setCause .left cause cap).endCapture .left
  | .right => (s.setCause .right cause cap).endCapture .right
  | .pair =>
    let unlink (s : State) (h : Half) : State :=
      match s.ctx h with
      | none => s
      | some c => s.setCtx h (some { c with linked := false })
    let s1 := unlink (s.setCause .left cause cap) .left
    let s2 := unlink (s1.setCause .right cause cap) .right
    (s2.endOne .left).endOne .right

/-- The state of the last-served half after a flash fires for a request (R84). -/
def lastServedAfter (served : Served) (before : Half) : Half :=
  match served with
  | .left => .left
  | .right => .right
  | .pair => before

/-- A lamp joins a flash: it leaves CHARGED for FIRING (R75, R87). -/
def Lamp.fire (x : Lamp) : Lamp := { x with state := .firing, recharge := none }

/-- Put a context in FIRING (R57, R87). -/
def State.fireCtx (s : State) (h : Half) : State :=
  match s.ctx h with
  | none => s
  | some c => s.setCtx h (some { c with state := .firing })

/-- The flash record of a request that fits at a level (R87, R102). -/
def State.flashRecord (s : State) (r : LightRequest) (i : DoseInput) (used : Nat) (dimmed : Bool) : Flash :=
  { served := r.served, leftId := r.leftId, rightId := r.rightId, step := r.step, mask := r.mask,
    levelRequested := i.level, levelUsed := used, duration := i.duration, dimmed := dimmed, clamped := i.clamped,
    leftLeaf := s.presentLeaf .left, rightLeaf := s.presentLeaf .right,
    lamps := (lampsOf r.mask).map fun x =>
      { lamp := x, side := (s.lamp x).entry.side, direct := (s.lamp x).entry.direct used,
        spill := (s.lamp x).entry.spill used, confirm := .pending },
    timer := i.duration, window := some Config.confirmWindowUs }

/-- A flash begins (R87): record, lamps, contexts, confirm window, flash timer, last-served half (R84). -/
def State.beginFlash (s : State) (r : LightRequest) (i : DoseInput) (used : Nat) (dimmed : Bool) : State :=
  let f := s.flashRecord r i used dimmed
  let s1 := (lampsOf r.mask).foldl (fun a x => a.setLamp x (a.lamp x).fire) s
  let s2 : State :=
    { s1 with
      light :=
        { s1.light with
          grant := some r, flash := some f, lastServed := lastServedAfter r.served s1.light.lastServed } }
  r.served.halves.foldl State.fireCtx s2

/-- The context whose program copy gives a request's level and duration: the half served, the left one for a
pair (both run one copy, R65). -/
def Served.leader : Served → Half
  | .left => .left
  | .right => .right
  | .pair => .left

/-- A grant (R86): the request leaves the requests held; lamp check, then dose check (R57). -/
def State.grantRequest (s : State) (r : LightRequest) : State :=
  let s1 := s.setHeld (s.light.held.filter fun x => decide (x ≠ r))
  match (s1.ctx r.served.leader).bind fun c => c.copy.stepAt c.step with
  | none => s1
  | some p =>
    if (lampsOf r.mask).any fun i => decide ((s1.lamp i).state = .absent ∨ (s1.lamp i).state = .faulted) then
      s1.failGrant r.served .lampUnavailable none
    else
      let i := s1.doseInput r.mask p.level p.duration
      match i.check with
      | .fits l => s1.beginFlash r i l false
      | .dimmed l => s1.beginFlash r i l true
      | .held cap => s1.failGrant r.served .held cap

/-- The arbiter decides, and decides again after a grant that ends without a flash (R83, R86). Each such grant
ends at least one of the at most two captures in flight, so that four decisions are enough. -/
def lightDecisions : Nat → State → State
  | 0, s => s
  | n + 1, s =>
    if s.lightFree then
      match s.chooseRequest with
      | none => s
      | some r => lightDecisions n (s.grantRequest r)
    else s

/-- The light arbiter decides (R83). -/
def State.decideLight (s : State) : State := lightDecisions 4 s

/-- The arbiter decides when an event has placed a request, seeing the state as the event leaves it (R83). -/
def State.decideIfPlaced (before after : State) : State :=
  if after.light.held.any fun r => decide (r ∉ before.light.held) then after.decideLight else after

end Sys2Proof.Machine
end

