-- ==== Sys2Proof/Machine/Requests.lean ====
section
/-! DEFINITION. Requests of the control links: offered, taken, checked and answered (R184 to R186), port reset
(R191), the exchange (R182, R183, R187); and the arbiters' decisions at the end of an event (R83, R126). -/

namespace Sys2Proof.Machine

open Sys2Proof

/-- Both arbiters at the end of an event: the light arbiter decides if the event has placed a light request
(R83), the memory arbiter if it has made a requester begin to request (R126). -/
def State.arbitrate (before after : State) : State :=
  before.decideIfBegan (before.decideIfPlaced after)

/-- What an owning block answers: the state after the request's effect, the status and the body. -/
structure Reply where
  state : State
  status : Status
  body : List Byte

/-- The kinds of TURN_ASK, TURN_BEGIN, TURN_END and ARM_FAULT (R26, R195). -/
def armKinds : List Byte := [0x70, 0x71, 0x72, 0x73]

/-- The kinds of SEEK, RESYNC, ABORT_OPENING, PARK, WAKE and CRADLE_RESET (R3, R195). -/
def openingKinds : List Byte := [0x30, 0x31, 0x32, 0x33, 0x34, 0x35]

/-- A refusal without a body: no other effect (00_scope, Requests and responses; log 10). -/
def State.refuse (s : State) (st : Status) : Reply := ⟨s, st, []⟩

/-- Place a response on a link: the answer due becomes none. An answer marked to be dropped is dropped, and the
PORT_RESET response is placed after it (R185, R191). -/
def State.placeResponse (s : State) (l : LinkId) (r : Response) : State :=
  let k := s.link l
  if k.dropAnswer then
    s.setLink l
      { k with
        answerDue := none, dropAnswer := false,
        response := some { echo := 0x02, status := .ok, body := linkStatusBody l s } }
  else s.setLink l { k with answerDue := none, response := some r }

/-- The body of a refusal by the dispatcher: every response to an arm request carries the arm view, whatever its
status (R26); the refusals of SEEK, RESYNC, ABORT_OPENING, PARK, WAKE and CRADLE_RESET carry the opening status, read
from R3 for the dispatcher's refusals too (DEDUCED, log 32); every other is empty (log 10). -/
def State.dispatchBody (s : State) (kind : Byte) : List Byte :=
  if kind ∈ armKinds then s.armView else if kind ∈ openingKinds then s.openingStatus else []

/-- A refusal by the dispatcher (R186). -/
def State.turnAway (s : State) (kind : Byte) (st : Status) : Reply := ⟨s, st, s.dispatchBody kind⟩

/-- The dispatcher's checks (R186), then the owning block. -/
def State.dispatch (s : State) (l : LinkId) (f : Frame) (act : State → Reply) : Reply :=
  match roleOf f.kind with
  | none => s.turnAway f.kind .malformed
  | some r =>
    if !roleAllows r l then s.turnAway f.kind .role
    else if (parseBody l f.kind.toNat f.body).isNone then s.turnAway f.kind .malformed
    else act s

/-- The dispatcher takes a request, and its response is placed (R185). -/
def State.takeRequest (s : State) (l : LinkId) (f : Frame) (act : State → Reply) : State :=
  let s1 := s.setLink l { s.link l with request := none, answerDue := some f.kind }
  let r := s1.dispatch l f act
  r.state.placeResponse l { echo := f.kind, status := r.status, body := r.body }

/-- A request command (log 2): the frame is in the request buffer, or enters it when the buffer is empty; with
the response buffer empty and no answer due the dispatcher takes it. A frame that meets another request in the
buffer is discarded with OVERRUN (R185); one too long for a request is discarded with MALFORMED (R184). -/
def State.request (s : State) (l : LinkId) (f : Frame) (act : State → Reply) : State :=
  let k := s.link l
  if Config.maxRequestBody < f.body.length then s.setLink l { k with malformed := true }
  else if k.request.isSome && decide (k.request ≠ some f) then s.setLink l { k with overrun := true }
  else if k.response.isNone && k.answerDue.isNone then s.takeRequest l f act
  else s.setLink l { k with request := some f }

/-- A request command with its owning block's rules, and the arbiters at the end of the event. -/
def State.ask (s : State) (c : Instr) (act : State → Reply) : State :=
  match frameOf c with
  | none => s
  | some (l, f) => s.arbitrate (s.request l f act)

/-- PORT_RESET taken on a link (R191). The exchange that carried it has ended (log 22). -/
def State.portReset (s : State) (l : LinkId) : State :=
  let k := s.link l
  let s1 := s.setLink l
    { k with
      exchange := none, request := none, response := none, dropAnswer := k.answerDue.isSome, notices := [],
      lost := 0, overrun := false, cut := false, malformed := false, shortRead := false, noticeLost := false }
  if k.answerDue.isSome then s1
  else s1.placeResponse l { echo := 0x02, status := .ok, body := linkStatusBody l s1 }

/-! ### The exchange (R182, R183) -/

/-- The outgoing frame chosen at select falling (R183). -/
def Link.chooseFrame (k : Link) : OutFrame :=
  match k.response with
  | some r => .response r
  | none =>
    match k.request, k.answerDue with
    | some f, _ => .notReady f.kind
    | none, some kind => .notReady kind
    | none, none =>
      match k.notices with
      | n :: _ => .notice n
      | [] => .empty

/-- Select falls: the outgoing frame is chosen (R183). -/
def Link.selectFalls (k : Link) : Link :=
  match k.exchange with
  | some _ => k
  | none => { k with exchange := some { incoming := [], out := k.chooseFrame, live := true, flags := none } }

/-- The last byte of the outgoing frame has been clocked: a response is consumed, a notice leaves its queue
(R183). -/
def Link.delivered (k : Link) (e : Exchange) : Link :=
  if e.live then
    match e.out with
    | .response _ => { k with response := none }
    | .notice _ => { k with notices := k.notices.drop 1 }
    | _ => k
  else k

/-- A byte is completed (R182): the incoming frame grows; after the second byte the port flags byte is formed
(R187, log 21); with the third its flags are reported; with the frame's last byte the frame is delivered. -/
def Link.clock (k : Link) (b : Byte) (fault : Bool) : Link :=
  match k.exchange with
  | none => k
  | some e =>
    let incoming := e.incoming ++ [b]
    let n := incoming.length
    let flags := if n = 2 then some (k.portFlags e fault) else e.flags
    let k1 := if n = 3 then k.reported (flags.getD 0) else k
    let last : Bool := decide (n = e.out.length)
    let k2 := if last then k1.delivered e else k1
    { k2 with exchange := some { e with incoming := incoming, flags := flags, live := e.live && !last } }

/-- The outgoing frame settled at select rising: a response cut before its last byte is lost with SHORT_READ
(R183). -/
def Link.settleOut (k : Link) (e : Exchange) : Link :=
  match e.out, e.live with
  | .response _, true => { k with response := none, shortRead := true }
  | _, _ => k

/-- How the link judges the incoming bytes (R184). -/
inductive Judged where
  | nothing | cut | malformed | frame (f : Frame)
deriving DecidableEq, Repr

/-- The first row of R184 that holds. -/
def judge : List Byte → Judged
  | [] => .nothing
  | [kind] => if kind = Config.readMarker then .nothing else .cut
  | kind :: len :: body =>
    if kind = Config.readMarker then .nothing
    else if body.length < len.toNat then .cut
    else if Config.maxRequestBody < len.toNat then .malformed
    else if len.toNat < body.length then .malformed
    else .frame { kind := kind, body := body }

/-- A frame offered to the request buffer (R185). -/
def Link.offer (k : Link) (f : Frame) : Link :=
  if k.request.isSome then { k with overrun := true } else { k with request := some f }

/-- Select rises on a link (R182): the outgoing frame is settled, then the incoming bytes are judged. -/
def State.selectRises (s : State) (l : LinkId) : State :=
  let k := s.link l
  match k.exchange with
  | none => s
  | some e =>
    let k1 := { k with exchange := none }
    if e.incoming.isEmpty then s.setLink l k1
    else
      let k2 := k1.settleOut e
      match judge e.incoming with
      | .nothing => s.setLink l k2
      | .cut => s.setLink l { k2 with cut := true }
      | .malformed => s.setLink l { k2 with malformed := true }
      | .frame f =>
        if f.kind = 0x02 ∧ f.body = [] then (s.setLink l k2).portReset l else s.setLink l (k2.offer f)

/-- The byte now on data out (R183, R194); none while select is high. The flags byte shows 0 until it is
formed, when it is not yet clocked. -/
def Link.dataOut (k : Link) : Option Byte :=
  k.exchange.map fun e => e.out.byteOut (e.flags.getD 0) e.incoming.length

end Sys2Proof.Machine
end

