-- ==== Sys2Proof/Machine/Capture.lean ====
section
/-! DEFINITION. The commands of the capture unit: CLAIM, UNCLAIM, CAPTURE, CANCEL, the commit and the limits
(R46 to R68). -/

namespace Sys2Proof.Machine

open Sys2Proof

/-- The opening states in which CLAIM and CAPTURE are taken (R46, R51). -/
def OpeningState.works : OpeningState → Bool
  | .settling => true
  | .ready => true
  | .exposing => true
  | .turnable => true
  | _ => false

/-- The refusal of a state in which CLAIM and CAPTURE are not taken (R2). -/
def OpeningState.refusalOf (x : OpeningState) : Status := x.refusal.getD .state

/-! ### Claims -/

/-- The claim lifetime in force in the entry of the volume in the cradle, in ms (R47). -/
def State.claimLife (s : State) : Nat :=
  match s.opening.volume with
  | none => 0
  | some i => (s.volume i).life

/-- The capture id in flight on a half, or 0 (R46). -/
def State.idInFlight (s : State) (h : Half) : Nat :=
  match s.ctx h with
  | none => 0
  | some c => c.id

/-- The lifetime left of a half's claim, 0 without one (R46). -/
def State.lifeLeft (s : State) (h : Half) : Nat :=
  match s.claimOf h with
  | none => 0
  | some c => c.life

/-- Claim results (R46, R193). -/
inductive ClaimResult where
  | none | taken | renewed
deriving DecidableEq, Repr

def ClaimResult.code : ClaimResult → Nat
  | .none => 0 | .taken => 1 | .renewed => 2

/-- The CLAIM response (R46, R196): 10 bytes. -/
def State.claimBody (s : State) (h : Half) (result : ClaimResult) (side : Option (Nat × Face))
    (found : Option SideState) : List Byte :=
  [b1 result.code, claimFlags found] ++ leafFaceBytes side ++ [noneFF (found.map SideState.code)] ++
    be 2 (s.lifeLeft h) ++ be 2 (s.idInFlight h)

/-- A claim is TAKEN (R46, R47): the side becomes CLAIMED, the record is filled and the timer starts. -/
def State.takeClaim (s : State) (h : Half) (j : Nat) (prior : Undone) : State :=
  ((s.changeSide (faceOf h) j fun r =>
      { r with state := .claimed, owner := some h, prior := some prior }).setClaim h
    (some { leaf := j, prior := prior, life := s.claimLife })).evaluate

/-- A claim is RENEWED (R46, R47): the timer restarts. -/
def State.renewClaim (s : State) (h : Half) : State :=
  s.setClaim h ((s.claimOf h).map fun c => { c with life := s.claimLife })

/-- The test-and-set of a CLAIM (R46). -/
def State.testAndSet (s : State) (h : Half) : Reply :=
  match s.presentLeaf h, s.presentState h with
  | some j, some found =>
    let side := some (j, faceOf h)
    match found.undone? with
    | some prior =>
      let s1 := s.takeClaim h j prior
      ⟨s1, .ok, s1.claimBody h .taken side (some found)⟩
    | none =>
      if found = .claimed then
        let s1 := s.renewClaim h
        ⟨s1, .ok, s1.claimBody h .renewed side (some found)⟩
      else ⟨s, .ok, s.claimBody h .none side (some found)⟩
  | _, _ => ⟨s, .ok, s.claimBody h .none none none⟩

/-- CLAIM (R46). -/
def execClaim (l : LinkId) (s : State) : Host.Outcome State Fault Refusal :=
  .next (s.ask (.claim l) fun s =>
    match linkHalf l with
    | none => s.refuse .role
    | some h => if s.opening.state.works then s.testAndSet h else s.refuse s.opening.state.refusalOf)

/-- The UNCLAIM response (R49, R196): leaf, face and side state after; none without a side. -/
def State.unclaimBody (s : State) (side : Option (Nat × Face)) : List Byte :=
  leafFaceBytes side ++
    [noneFF ((side.bind fun p => s.side p.2 p.1).map fun r => r.state.code)]

/-- UNCLAIM on a half (R49). Without a claim it names the half's present side, none when there is none (DEDUCED,
log 33). -/
def State.unclaim (s : State) (h : Half) : Reply :=
  match s.claimOf h with
  | some c =>
    let s1 := (s.endClaim h false).evaluate
    ⟨s1, .ok, s1.unclaimBody (some (c.leaf, faceOf h))⟩
  | none => ⟨s, .ok, s.unclaimBody ((s.presentLeaf h).map fun j => (j, faceOf h))⟩

/-- UNCLAIM (R49). -/
def execUnclaim (l : LinkId) (s : State) : Host.Outcome State Fault Refusal :=
  .next (s.ask (.unclaim l) fun s =>
    match linkHalf l with
    | none => s.refuse .role
    | some h => s.unclaim h)

/-- The lifetime timer of a claim expires (R48). -/
def State.claimExpires (s : State) (h : Half) : State :=
  match s.claimOf h with
  | none => s
  | some _ => (s.endClaim h true).evaluate

/-- CLAIM_LIFETIME_EXPIRY (R48). -/
def execClaimLifetimeExpiry (h : Half) (s : State) : Host.Outcome State Fault Refusal :=
  .next (s.arbitrate (s.claimExpires h))

/-! ### Accepting a capture (R51, R52, R65) -/

/-- The waiting partner of a CAPTURE with a PAIRED program of that number (R65): the other half's context in
WAIT_PARTNER for its partner's acceptance. -/
def State.partnerFor (s : State) (h : Half) (number : Nat) (p : Program) : Option Ctx :=
  match s.ctx (otherHalf h) with
  | none => none
  | some d =>
    if p.mode = .paired ∧ d.state = .waitPartner ∧ d.linked = false ∧ d.partnerTimer.isSome ∧ d.program = number then
      some d
    else none

/-- Check 6 of R51: steps 1..8, no empty mask, and in an UNPAIRED program every present lamp of every mask on the
camera's half. -/
def State.programFits (s : State) (h : Half) (p : Program) : Bool :=
  decide (1 ≤ p.steps.length ∧ p.steps.length ≤ 8) &&
    p.steps.all (fun x => !(lampsOf x.mask).isEmpty) &&
    (decide (p.mode = .paired) ||
      p.steps.all fun x =>
        (lampsOf x.mask).all fun i => !(s.lamp i).entry.present || decide ((s.lamp i).entry.side = h))

/-- Check 7 of R51: no lamp of any mask is ABSENT or FAULTED. -/
def State.lampsAvailable (s : State) (p : Program) : Bool :=
  p.steps.all fun x =>
    (lampsOf x.mask).all fun i => decide ((s.lamp i).state ≠ .absent ∧ (s.lamp i).state ≠ .faulted)

/-- Check 5 of R51. -/
def doneRefusal : SideState → Option Status
  | .captured => some .sideDone
  | .exempt => some .sideDone
  | .held => some .sideHeld
  | _ => none

/-- The capture id after an accepted CAPTURE (R53). -/
def nextId (n : Nat) : Nat := if n < Config.maxCaptureId then n + 1 else 1

/-- A context as an acceptance fills it (R52). -/
def freshCtx (id leaf number : Nat) (prior : Undone) (p : Program) (st : CtxState) : Ctx :=
  { id := id, leaf := leaf, prior := prior, program := number, copy := p, step := 1, state := st, slot := none,
    results := [], linked := false, order := none, cause := none, heldCap := none, partnerTimer := none,
    slotTimer := none, frameTimer := none, report := none }

/-- The prior state an accepted capture records (R52): the claim's, or the state found. -/
def State.priorFor (s : State) (h : Half) (found : SideState) : Undone :=
  match s.claimOf h with
  | some c => c.prior
  | none => (found.undone?).getD .wanted

/-- Two contexts become a pair (R65): linked, the partner wait limit stopped. -/
def State.linkPair (s : State) (h : Half) (c d : Ctx) (st : CtxState) : State :=
  (s.setCtx h (some { c with linked := true, state := st })).setCtx (otherHalf h)
    (some { d with linked := true, partnerTimer := none, state := st })

/-- The first state of an accepted capture's context (R52 step 4, R65). -/
def State.beginCapture (s : State) (h : Half) (c : Ctx) (partner : Option Ctx) : State :=
  let settling : Bool := decide (s.opening.state = .settling)
  match partner with
  | some d => if settling then s.linkPair h c d .waitSettle else (s.linkPair h c d .waitSlot).startPair
  | none =>
    if c.copy.mode = .paired then
      s.setCtx h (some { c with state := .waitPartner, partnerTimer := some Config.partnerWaitMs })
    else if settling then s.setCtx h (some { c with state := .waitSettle })
    else (s.setCtx h (some c)).startStep h

/-- The context state code of a half, 0 without a capture (R193). -/
def State.ctxCode (s : State) (h : Half) : Nat :=
  match s.ctx h with
  | none => 0
  | some c => c.state.code

/-- The CAPTURE response, ACCEPTED (R52, R196): 7 bytes. The context state is the first state (log 16). -/
def State.captureBody (s : State) (h : Half) (id leaf steps : Nat) : List Byte :=
  be 2 id ++ be 2 leaf ++ [b1 (faceOf h).code, b1 steps, b1 (s.ctxCode h)]

/-- A CAPTURE accepted (R52): side CAPTURING, claim consumed, id, context, first state, then one evaluation. -/
def State.acceptCapture (s : State) (h : Half) (number j : Nat) (found : SideState) (p : Program)
    (partner : Option Ctx) : Reply :=
  let prior := s.priorFor h found
  let id := nextId s.capture.idCounter
  let s1 := (s.changeSide (faceOf h) j fun r =>
    { r with state := .capturing, owner := some h, prior := some prior }).setClaim h none
  let s2 : State := { s1 with capture := { s1.capture with idCounter := id } }
  let s3 := s2.beginCapture h (freshCtx id j number prior p .waitSlot) partner
  ⟨s3.evaluate, .accepted, s3.captureBody h id j p.steps.length⟩

/-- The checks 3 to 7 of R51, and the acceptance. -/
def State.tryCapture (s : State) (h : Half) (number : Fin 16) : Reply :=
  let table := s.program number
  match s.presentLeaf h, s.presentState h with
  | some j, some found =>
    if table.mode = .paired ∧ s.presentLeaf (otherHalf h) = none then s.refuse .noSide
    else if (s.ctx h).isSome then s.refuse .busy
    else
      match doneRefusal found with
      | some st => s.refuse st
      | none =>
        let partner := s.partnerFor h number.val table
        let p := match partner with
          | none => table
          | some d => d.copy
        if !s.programFits h p then s.refuse .badProgram
        else if !s.lampsAvailable p then s.refuse .lampUnavailable
        else s.acceptCapture h number.val j found p partner
  | _, _ => s.refuse .noSide

/-- CAPTURE (R51, R52, R65). -/
def execCapture (l : LinkId) (program : Byte) (s : State) : Host.Outcome State Fault Refusal :=
  .next (s.ask (.capture l program) fun s =>
    match linkHalf l with
    | none => s.refuse .role
    | some h =>
      if !s.opening.state.works then s.refuse s.opening.state.refusalOf
      else
        match finOf 16 program.toNat with
        | none => s.refuse .range
        | some i => s.tryCapture h i)

/-- CANCEL on a half (R68). -/
def State.cancel (s : State) (h : Half) (id : Nat) : Reply :=
  match s.ctx h with
  | none => if id = 0 then ⟨s, .ok, be 2 0 ++ [0]⟩ else s.refuse .tooLate
  | some c =>
    if id ≠ 0 ∧ id ≠ c.id then s.refuse .tooLate
    else ⟨s.cancelCtx h, .ok, be 2 c.id ++ [b1 c.state.code]⟩

/-- CANCEL (R68). -/
def execCancel (l : LinkId) (id : Word) (s : State) : Host.Outcome State Fault Refusal :=
  .next (s.ask (.cancel l id) fun s =>
    match linkHalf l with
    | none => s.refuse .role
    | some h => s.cancel h id.toNat)

/-! ### The commit (R60, R61, R66) -/

/-- The step result takes its slot and seal status (R60 step 1). -/
def sealResult (results : List StepResult) (step : Nat) (i : Fin 8) (st : Seal) : List StepResult :=
  results.map fun r => if r.step = step then { r with slot := some i, sealStatus := some st } else r

/-- The context after it has taken its seal report (R60 steps 1 and 2). -/
def Ctx.committed (c : Ctx) (i : Fin 8) (st : Seal) : Ctx :=
  { c with results := sealResult c.results c.step i st, slot := none, report := none }

/-- The commit at the account unit (R60): the summary, the slot's committed flag, and a deferred release. The
first commit writes a new summary; later ones keep its frame discarded mark. -/
def State.commitStep (s : State) (h : Half) (c : Ctx) (i : Fin 8) (st : Seal) : State :=
  let c' := c.committed i st
  let discarded := s.discardedMark h c
  let s1 := (s.setCtx h (some c')).changeSide (faceOf h) c.leaf fun r =>
    { r with summary := some (c'.summary h .inProgress discarded) }
  (s1.setSlot i { s1.slot i with committed := true }).runDeferred i

/-- A step gives its member a reason to stop under the stop rule (R61, R67). -/
def Ctx.stops (c : Ctx) : Bool :=
  let damaged : Bool := match c.results.getLast? with
    | none => false
    | some r => r.damaged
  (c.copy.stop.onDamaged && damaged) || (c.copy.stop.onDimmed && c.lastDimmed) || decide (c.remaining = 0)

/-- The next step of a context: step number up by one (R61). -/
def State.advance (s : State) (h : Half) : State :=
  match s.ctx h with
  | none => s
  | some c => s.setCtx h (some { c with step := c.step + 1 })

/-- A member of a pair at its joint end (R67): STOP with a reason of its own, PARTNER_ENDED without; no partner
any more. -/
def Ctx.jointEnd (c : Ctx) : Ctx :=
  { c with linked := false, cause := some (if c.stops then .stop else .partnerEnded) }

/-- Both members of a pair have committed (R66 step 6): the pair ends when either member has a reason, or both
begin the next step. -/
def State.jointDecision (s : State) : State :=
  match s.ctx .left, s.ctx .right with
  | some a, some b =>
    if a.stops || b.stops then
      (((s.setCtx .left (some a.jointEnd)).setCtx .right (some b.jointEnd)).endOne .left).endOne .right
    else ((s.advance .left).advance .right).startPair
  | _, _ => s

/-- What follows a commit (R60, R61, R66, R67). -/
def State.afterCommit (s : State) (h : Half) : State :=
  match s.ctx h with
  | none => s
  | some c =>
    if c.order.isSome then s.endCapture h
    else if c.cause = some .partnerEnded then s.endOne h
    else if c.linked then
      if s.ctxIn (otherHalf h) .waitPartner then s.jointDecision
      else s.setCtx h (some { c with state := .waitPartner })
    else if c.stops then (s.setCause h .stop none).endOne h
    else (s.advance h).startStep h

/-- The capture unit takes the seal report of a half's context (R60). -/
def State.commit (s : State) (h : Half) : State :=
  match s.ctx h with
  | none => s
  | some c =>
    match c.state, c.report with
    | .receiving, some (i, st) => (s.commitStep h c i st).afterCommit h
    | _, _ => s

/-- COMMIT (R60). -/
def execCommit (h : Half) (s : State) : Host.Outcome State Fault Refusal :=
  .next (s.arbitrate (s.commit h))

/-! ### Limits (R56, R59, R65) -/

/-- The frame start limit expires in AWAIT_FRAME (R59). -/
def State.frameMissing (s : State) (h : Half) : State :=
  match s.ctx h with
  | none => s
  | some c =>
    if c.state = .awaitFrame ∧ c.frameTimer.isSome then (s.setCause h .frameMissing none).endCapture h else s

/-- FRAME_START_LIMIT_EXPIRY (R59). -/
def execFrameStartLimitExpiry (h : Half) (s : State) : Host.Outcome State Fault Refusal :=
  .next (s.arbitrate (s.frameMissing h))

/-- The partner wait limit expires (R65). -/
def State.partnerLate (s : State) (h : Half) : State :=
  match s.ctx h with
  | none => s
  | some c =>
    if c.state = .waitPartner ∧ c.partnerTimer.isSome then (s.setCause h .partnerLate none).endCapture h else s

/-- PARTNER_WAIT_LIMIT_EXPIRY (R65). -/
def execPartnerWaitLimitExpiry (h : Half) (s : State) : Host.Outcome State Fault Refusal :=
  .next (s.arbitrate (s.partnerLate h))

/-- A member of a pair at the slot wait limit (R56): NO_SLOT without a slot, PARTNER_ENDED with one. -/
def Ctx.slotless (c : Ctx) : Ctx :=
  { c with linked := false, cause := some (if c.state = .waitSlot then .noSlot else .partnerEnded) }

/-- The slot wait limit of a pair expires (R56): both leave the wait order; the members without a slot end first,
then a member that holds one. -/
def State.pairSlotWait (s : State) : State :=
  match s.ctx .left, s.ctx .right with
  | some a, some b =>
    let s1 := ((s.setCtx .left (some a.slotless)).setCtx .right (some b.slotless)).setWaitOrder []
    if a.state = .waitSlot then (s1.endOne .left).endOne .right else (s1.endOne .right).endOne .left
  | _, _ => s

/-- The slot wait limit expires (R56). -/
def State.slotWaitEnds (s : State) (h : Half) : State :=
  match s.ctx h with
  | none => s
  | some c =>
    if c.slotTimer.isNone then s
    else if c.linked then s.pairSlotWait
    else if c.state = .waitSlot then (s.setCause h .noSlot none).endOne h
    else s

/-- SLOT_WAIT_LIMIT_EXPIRY (R56). -/
def execSlotWaitLimitExpiry (h : Half) (s : State) : Host.Outcome State Fault Refusal :=
  .next (s.arbitrate (s.slotWaitEnds h))

end Sys2Proof.Machine
end

