-- ==== Sys2Proof/Machine/Operands.lean ====
section
/-! DEFINITION. Operands of requests settled into their ranges: timings (R152), lamp fields (R72), drain counts
(R134), opening numbers (R153). Each answers the settled value and whether it was clamped. -/

namespace Sys2Proof.Machine

open Sys2Proof

/-- Settle time (R152): rounded down to a multiple of 10, above 2000 clamped; the default marker takes
`default`. A value of 2001 to 2009 counts as clamped: the value sent is compared with the range (DEDUCED, log 37). -/
def settleSettle (w : Word) (default : Nat) : Nat × Bool :=
  if w = 0xFFFF then (default, false)
  else if 2000 < w.toNat then (2000, true)
  else (w.toNat / 10 * 10, false)

/-- Turn timeout (R152): 0 becomes 1, above 30 clamped; the default marker takes `default`. A 0 that becomes 1
counts as clamped (log 30). -/
def settleTurn (b : Byte) (default : Nat) : Nat × Bool :=
  if b = 0xFF then (default, false)
  else if b = 0 then (1, true)
  else if 30 < b.toNat then (30, true)
  else (b.toNat, false)

/-- Claim lifetime (R152): clamped into 500..10,000; the default marker takes `default`. -/
def settleLife (w : Word) (default : Nat) : Nat × Bool :=
  if w = 0xFFFF then (default, false)
  else if w.toNat < 500 then (500, true)
  else if 10000 < w.toNat then (10000, true)
  else (w.toNat, false)

/-- The three timings settled (R152), with the CLAMPED flag. -/
structure Timings where
  settle : Nat
  turn : Nat
  life : Nat
  clamped : Bool
deriving DecidableEq, Repr

/-- The timings of REGISTER and SET_TIMING settled, given what the default markers stand for (R152). -/
def settleTimings (settle : Word) (turn : Byte) (life : Word) (dSettle dTurn dLife : Nat) : Timings :=
  let a := settleSettle settle dSettle
  let b := settleTurn turn dTurn
  let c := settleLife life dLife
  { settle := a.1, turn := b.1, life := c.1, clamped := a.2 || b.2 || c.2 }

/-- A value clamped into a range (R72). -/
def clampInto (low high v : Nat) : Nat × Bool :=
  if v < low then (low, true) else if high < v then (high, true) else (v, false)

/-- A drain count settled against the words available (R134). -/
def settleCount (count available : Nat) : Nat × Bool :=
  if count = 0 then (available, false)
  else if count ≤ available then (count, false)
  else (available, true)

/-- The last-opening marker of MOUNT (R153, R193). -/
def lastOpeningMarker : Word := 0xFFFF

/-- The views of READ_LEAF (R174, R195). -/
inductive LeafView where
  | leaf | recto | verso
deriving DecidableEq, Repr

/-- The view a code names (R195). -/
def viewOfCode (b : Byte) : Option LeafView :=
  if b = 0 then some .leaf else if b = 1 then some .recto else if b = 2 then some .verso else none

/-- The exempt reason a code names: 0..15 (R170 check 2). -/
def reasonOfCode (b : Byte) : Option Nat :=
  if b.toNat < 16 then some b.toNat else none

end Sys2Proof.Machine
end

