-- ==== Sys2Proof/Machine/Drains.lean ====
section
/-! DEFINITION. The commands of the drain unit: DRAIN_OPEN, DRAIN_STOP, RELEASE, SLOT_STATUS, the drain link and
the stall timer (R114, R134 to R144). -/

namespace Sys2Proof.Machine

open Sys2Proof

/-- Checks 2 to 5 of R134 on a slot; the first that fails. -/
def State.drainCheck (s : State) (i : Fin 8) (first : Nat) : Option Status :=
  let x := s.slot i
  if x.state ≠ .sealed ∧ x.state ≠ .draining then some .notSealed
  else if s.drains i || s.queued i then some .duplicate
  else if Config.drainDepth ≤ s.drain.queue.length + (if s.drain.active.isSome then 1 else 0) then some .queueFull
  else if x.words ≤ first then some .range
  else none

/-- DRAIN_OPEN (R134, R135). An auto-release code other than 0 and 1 is refused with RANGE (log 11). -/
def execDrainOpen (l : LinkId) (slot : Byte) (first count : BitVec 32) (auto : Byte) (s : State) :
    Host.Outcome State Fault Refusal :=
  .next (s.ask (.drainOpen l slot first count auto) fun s =>
    match finOf 8 slot.toNat, flagCode auto with
    | some i, some a =>
      match s.drainCheck i first.toNat with
      | some st => s.refuse st
      | none =>
        let c := settleCount count.toNat ((s.slot i).words - first.toNat)
        let j : DrainJob := { slot := i, first := first.toNat, count := c.1, auto := a }
        let s1 := ({ s with drain := { s.drain with queue := s.drain.queue ++ [j] } } : State).activateDrain
        ⟨s1, .ok, s1.drainOpenBody j c.2⟩
    | _, _ => s.refuse .range)

/-- A queue entry leaves the queue (R138): DRAIN_DONE STOPPED with 0 words sent, and a deferred release. The release
is evaluated first, so that DRAIN_DONE shows it as FREED_DEFERRED or DROPPED (DEDUCED, log 42); its volume and capture
id are those of the slot record before that (DEDUCED, log 43). -/
def State.removeQueued (s : State) (i : Fin 8) (j : DrainJob) : State :=
  let x := s.slot i
  let s1 : State := { s with drain := { s.drain with queue := s.drain.queue.filter fun y => decide (y.slot ≠ i) } }
  let done (release : DrainRelease) : Notice :=
    .drainDone i x.volume x.captureId .stopped j.first j.count 0 x.drainedFully release
  match x.deferred with
  | none => s1.notify .S (done .none)
  | some d =>
    if x.committed then
      let r := s1.evaluateDeferred i d
      let s2 := r.state.notify .S (done (if r.refusal.isNone then .freedDeferred else .dropped))
      (s2.addException? r.exception).notifyDropped i x d r.refusal
    else s1.notify .S (done .none)

/-- DRAIN_STOP on a slot (R138). -/
def State.drainStop (s : State) (i : Fin 8) : State :=
  match s.drain.active with
  | some a =>
    if a.job.slot = i then (if a.ordered.isSome then s else s.orderDrain .stopped)
    else
      match s.drain.queue.find? fun j => decide (j.slot = i) with
      | some j => s.removeQueued i j
      | none => s
  | none =>
    match s.drain.queue.find? fun j => decide (j.slot = i) with
    | some j => s.removeQueued i j
    | none => s

/-- DRAIN_STOP (R138): the response carries the drain status after the request, also in the refusal RANGE. -/
def execDrainStop (l : LinkId) (slot : Byte) (s : State) : Host.Outcome State Fault Refusal :=
  .next (s.ask (.drainStop l slot) fun s =>
    match finOf 8 slot.toNat with
    | none => ⟨s, .range, s.drainStatusBody⟩
    | some i =>
      let s1 := s.drainStop i
      ⟨s1, .ok, s1.drainStatusBody⟩)

/-- SLOT_STATUS (R114). -/
def execSlotStatus (l : LinkId) (slot : Byte) (s : State) : Host.Outcome State Fault Refusal :=
  .next (s.ask (.slotStatus l slot) fun s =>
    match finOf 8 slot.toNat with
    | none => s.refuse .range
    | some i => ⟨s, .ok, s.slotStatusBody i⟩)

/-- Release results (R141, R193). -/
inductive ReleaseResult where
  | alreadyFree | deferred | freed
deriving DecidableEq, Repr

def ReleaseResult.code : ReleaseResult → Nat
  | .alreadyFree => 0 | .deferred => 1 | .freed => 2

/-- The RELEASE response (R141, R196): 7 bytes; leaf and face when the discard rule changed a side or marked a
capture. -/
def State.releaseBody (s : State) (i : Fin 8) (result : Option ReleaseResult) (side : Option (Half × Nat))
    (effect : DiscardEffect) : List Byte :=
  let shown : Option (Nat × Face) :=
    if effect = .none then none else side.map fun p => (p.2, faceOf p.1)
  [b1 i.val, noneFF (result.map ReleaseResult.code), b1 (s.slot i).state.code] ++ leafFaceBytes shown ++
    [b1 effect.code]

/-- A RELEASE answered or refused without a discard: the slot's state as it stands. -/
def State.releaseReply (s : State) (i : Fin 8) (st : Status) (result : Option ReleaseResult) : Reply :=
  ⟨s, st, s.releaseBody i result none .none⟩

/-- RELEASE on a slot: the first row of R141 that matches. -/
def State.release (s : State) (i : Fin 8) (discard : Bool) : Reply :=
  let x := s.slot i
  match x.state with
  | .free => s.releaseReply i .ok (some .alreadyFree)
  | .open' => s.releaseReply i .state none
  | .save => s.releaseReply i .state none
  | .draining => (s.setSlot i { x with deferred := some discard }).releaseReply i .ok (some .deferred)
  | .sealed =>
    if s.queued i || !x.committed then
      (s.setSlot i { x with deferred := some discard }).releaseReply i .ok (some .deferred)
    else
      let r := s.releaseNow i discard
      let s1 := r.state.addException? r.exception
      match r.refusal with
      | some st => s1.releaseReply i st none
      | none => ⟨s1, .ok, s1.releaseBody i (some .freed) x.side r.effect⟩

/-- The body of a RELEASE of a slot number above 7: result 0xFF, no slot state, no side (R193, log 8). -/
def releaseRangeBody (slot : Byte) : List Byte :=
  [slot, 0xFF, b1 (Config.uncodedNone .releaseSlotState)] ++ leafFaceBytes none ++ [0]

/-- RELEASE (R141 to R143). A discard code other than 0 and 1 is refused with RANGE (log 11). -/
def execRelease (l : LinkId) (slot discard : Byte) (s : State) : Host.Outcome State Fault Refusal :=
  .next (s.ask (.release l slot discard) fun s =>
    match finOf 8 slot.toNat, flagCode discard with
    | some i, some d => s.release i d
    | some i, none => s.releaseReply i .range none
    | none, _ => ⟨s, .range, releaseRangeBody slot⟩)

/-- The station takes a word of the drain link with valid and ready high (R136); the last word ends the drain
COMPLETE (R140). -/
def State.takeDrainWord (s : State) : State :=
  match s.drain.active with
  | none => s
  | some a =>
    if s.drainValid && s.drain.readyIn then
      let s1 : State :=
        { s with
          drain :=
            { s.drain with
              active := some { a with sent := a.sent + 1, left := a.left - 1 }, buffer := s.drain.buffer.drop 1 } }
      if a.left = 1 then s1.drainEnd .complete else s1
    else s

/-- DRAIN_WORD_TAKEN (R136). -/
def execDrainWordTaken (s : State) : Host.Outcome State Fault Refusal :=
  .next (s.arbitrate s.takeDrainWord)

/-- Set the active drain's stall timer, unless it has been ordered to end (R137). -/
def State.setStall (s : State) (t : Option Nat) : State :=
  match s.drain.active with
  | none => s
  | some a => if a.ordered.isSome then s else s.setActive (some { a with stall := t })

/-- READY_FALLING (R137): the stall timer of an active drain starts. -/
def execReadyFalling (s : State) : Host.Outcome State Fault Refusal :=
  .next
    (if s.drain.readyIn then
      ({ s with drain := { s.drain with readyIn := false } } : State).setStall (some Config.stallMs)
     else s)

/-- READY_RISING (R137): the stall timer stops. -/
def execReadyRising (s : State) : Host.Outcome State Fault Refusal :=
  .next
    (if s.drain.readyIn then s
     else ({ s with drain := { s.drain with readyIn := true } } : State).setStall none)

/-- The stall timer expires (R137): the drain is ordered to end STALLED. -/
def State.stallExpires (s : State) : State :=
  match s.drain.active with
  | none => s
  | some a => if a.stall.isSome then s.orderDrain .stalled else s

/-- STALL_TIMER_EXPIRY (R137). -/
def execStallTimerExpiry (s : State) : Host.Outcome State Fault Refusal :=
  .next (s.arbitrate s.stallExpires)

end Sys2Proof.Machine
end

