-- ==== Sys2Proof/Machine/LeafTable.lean ====
section
/-! DEFINITION. The requests of the leaf table and the exception list: station marks, READ_LEAF, READ_EXCEPTIONS
(R170 to R179). -/

namespace Sys2Proof.Machine

open Sys2Proof

/-- A station mark's refusal: leaf, face and the state found (R170, R196). -/
def State.markRefusal (s : State) (st : Status) (leaf : Word) (face : Byte) (found : Option SideState) : Reply :=
  ⟨s, st, be 2 leaf.toNat ++ [face, noneFF (found.map SideState.code)]⟩

/-- What a mark does to a side: its record after, or refused with STATE (R171 to R173). -/
inductive Mark where
  | to (r : SideRec)
  | refused

/-- RESHOOT of a side (R171): CAPTURED, EXEMPT and HELD become RESHOOT; WANTED and RESHOOT stay. -/
def SideRec.reshoot (r : SideRec) : Mark :=
  match r.state with
  | .captured => .to { r with state := .reshoot }
  | .exempt => .to { r with state := .reshoot, reason := none }
  | .held => .to { r with state := .reshoot }
  | _ => .to r

/-- EXEMPT of a side with a reason (R172). -/
def SideRec.exemptFor (reason : Nat) (r : SideRec) : Mark :=
  .to { r with state := .exempt, reason := some reason }

/-- The station-accepted form of the summary (R173). -/
def stationAccepted : Summary :=
  { captureId := 0, outcome := .stationAccepted, program := none, steps := [], dose := 0, discarded := false }

/-- ACCEPT_SIDE of a side (R173). -/
def SideRec.accept (r : SideRec) : Mark :=
  match r.state with
  | .wanted => .to { r with state := .captured, summary := some stationAccepted }
  | .reshoot => .to { r with state := .captured, summary := some stationAccepted }
  | .held => .to { r with state := .captured, summary := some stationAccepted }
  | .exempt => .refused
  | _ => .to r

/-- The counts of the MOUNTED entry. -/
def State.countsOf (s : State) (i : Fin 16) : SideCounts := (s.volume i).counts

/-- A mark applied to a side (R168, R170): the record, the counts, and the evaluation of a present side whose
state changed. CHANGED when the state or the exempt reason changed. -/
def State.applyMark (s : State) (i : Fin 16) (f : Face) (j : Nat) (r r' : SideRec) : Reply :=
  let s1 := s.changeSide f j fun _ => r'
  let s2 := if r'.state = r.state then s1 else s1.evaluateSide f j
  let changed : Bool := decide (r'.state ≠ r.state ∨ r'.reason ≠ r.reason)
  ⟨s2, .ok, sideReport j f i r.state r' changed (s2.countsOf i)⟩

/-- A station mark: the checks of R170 in order, then its own rule. -/
def State.mark (s : State) (leaf : Word) (face : Byte) (rule : SideRec → Option Mark) : Reply :=
  match s.mounted with
  | none => s.markRefusal .noVolume leaf face none
  | some i =>
    match faceOfCode face with
    | none => s.markRefusal .range leaf face none
    | some f =>
      match s.side f leaf.toNat with
      | none => s.markRefusal .range leaf face none
      | some r =>
        match rule r with
        | none => s.markRefusal .range leaf face (some r.state)
        | some m =>
          if r.state = .claimed ∨ r.state = .capturing then s.markRefusal .claimed leaf face (some r.state)
          else
            match m with
            | .to r' => s.applyMark i f leaf.toNat r r'
            | .refused => s.markRefusal .state leaf face (some r.state)

/-- RESHOOT (R170, R171). -/
def execReshoot (l : LinkId) (leaf : Word) (face : Byte) (s : State) : Host.Outcome State Fault Refusal :=
  .next (s.ask (.reshoot l leaf face) fun s => s.mark leaf face fun r => some r.reshoot)

/-- EXEMPT (R170, R172). -/
def execExempt (l : LinkId) (leaf : Word) (face reason : Byte) (s : State) : Host.Outcome State Fault Refusal :=
  .next (s.ask (.exempt l leaf face reason) fun s =>
    s.mark leaf face fun r => (reasonOfCode reason).map fun n => r.exemptFor n)

/-- ACCEPT_SIDE (R170, R173). -/
def execAcceptSide (l : LinkId) (leaf : Word) (face : Byte) (s : State) : Host.Outcome State Fault Refusal :=
  .next (s.ask (.acceptSide l leaf face) fun s => s.mark leaf face fun r => some r.accept)

/-- READ_LEAF on a leaf entry by view (R174). -/
def State.readLeaf (s : State) (leaf : Nat) (e : LeafEntry) : LeafView → List Byte
  | .leaf => s.leafView leaf e
  | .recto => faceView leaf .recto e.recto
  | .verso => faceView leaf .verso e.verso

/-- READ_LEAF (R174). -/
def execReadLeaf (l : LinkId) (leaf : Word) (view : Byte) (s : State) : Host.Outcome State Fault Refusal :=
  .next (s.ask (.readLeaf l leaf view) fun s =>
    if s.mounted.isNone then s.refuse .noVolume
    else
      match leafAt s.account.leaves leaf.toNat, viewOfCode view with
      | some e, some v => ⟨s, .ok, s.readLeaf leaf.toNat e v⟩
      | _, _ => s.refuse .range)

/-- READ_EXCEPTIONS (R179): the oldest min(n, records held) records leave the list. -/
def execReadExceptions (l : LinkId) (n : Byte) (s : State) : Host.Outcome State Fault Refusal :=
  .next (s.ask (.readExceptions l n) fun s =>
    match s.mounted with
    | none => s.refuse .noVolume
    | some i =>
      if n.toNat < 1 ∨ 4 < n.toNat then s.refuse .range
      else
        let out := s.account.exceptions.take n.toNat
        let rest := s.account.exceptions.drop n.toNat
        let v := s.volume i
        ⟨s.setExceptions rest, .ok,
          [b1 out.length] ++ out.flatMap ExcRecord.bytes ++ [b1 rest.length] ++ be 2 v.excCount ++ be 2 v.excLost⟩)

end Sys2Proof.Machine
end

