-- ==== Sys2Proof/Machine/FaultOps.lean ====
section
/-! DEFINITION. Entry to FAULT (R16 to R19). -/

namespace Sys2Proof.Machine

open Sys2Proof

/-- Queue one FAULT notice on each of the four links (R18). -/
def State.notifyFault (s : State) (cause : FaultCause) (dir : Option Direction) : State :=
  let n : Notice := .fault cause s.opening.armCode s.opening.volume s.opening.k dir
  (((s.notify .S n).notify .V n).notify .R n).notify .A n

/-- Entry to FAULT, one event with every effect of R16: state and cause, timers, direction, notices, claims
dropped without a notice, captures ended ABORTED. The fault line follows the state (R17), and the light
arbiter grants nothing, since it grants only in EXPOSING (R85). -/
def State.enterFault (s : State) (cause : FaultCause) : State :=
  let dir := s.opening.direction
  let s1 := s.setOpening
    { s.opening with state := .fault, cause := some cause, settle := none, turn := none, direction := none }
  ((s1.notifyFault cause dir).abortBoth).endClaims false

/-- A fault cause is taken (R16): it enters FAULT in every state but IDLE, PARKED and FAULT, which it leaves
as they are. -/
def State.takeCause (s : State) (cause : FaultCause) : State :=
  match s.opening.state with
  | .idle => s
  | .parked => s
  | .fault => s
  | _ => s.enterFault cause

end Sys2Proof.Machine
end

