-- ==== Sys2Proof/Machine/Lights.lean ====
section
/-! DEFINITION. The commands of the light unit: LAMP_SET, PROGRAM_SET, DOSE_QUERY, the confirm inputs and window,
the flash end, the inter-flash gap and the recharge timers (R71 to R92, R103, R108). -/

namespace Sys2Proof.Machine

open Sys2Proof

/-! ### LAMP_SET (R72 to R74) -/

/-- A LAMP_SET write settled: the entry stored, and whether a field was clamped (R72). -/
def lampEntryOf (present : Bool) (side : Half) (band : Byte) (eFull gDirect gSpill : Word) (lMin : Byte)
    (maxDuration : BitVec 24) (recharge : Word) : LampEntry × Bool :=
  let gd := clampInto 0 1024 gDirect.toNat
  let gs := clampInto 0 1024 gSpill.toNat
  let md := clampInto 100 200000 maxDuration.toNat
  let rc := clampInto 1 2000 recharge.toNat
  ({ present := present, side := side, band := band.toNat, eFull := eFull.toNat, gDirect := gd.1, gSpill := gs.1,
     lMin := lMin.toNat, maxDuration := md.1, recharge := rc.1 },
   gd.2 || gs.2 || md.2 || rc.2)

/-- A lamp after a LAMP_SET write of its entry (R73). -/
def Lamp.write (x : Lamp) (e : LampEntry) (parked : Bool) : Lamp :=
  match x.state with
  | .firing => { x with entry := e }
  | _ =>
    if !e.present then { entry := e, state := .absent, recharge := none }
    else if parked then { entry := e, state := .discharged, recharge := none }
    else { entry := e, state := .charging, recharge := some e.recharge }

/-- LAMP_SET in its write form (R72, R73); the arbiter decides when it is taken (R83). A present code other than
0 and 1 is refused with RANGE (log 11). -/
def execLampSetWrite (l : LinkId) (channel present side band : Byte) (eFull gDirect gSpill : Word) (lMin : Byte)
    (maxDuration : BitVec 24) (recharge : Word) (s : State) : Host.Outcome State Fault Refusal :=
  .next (s.ask (.lampSetWrite l channel present side band eFull gDirect gSpill lMin maxDuration recharge) fun s =>
    match finOf 8 channel.toNat, flagCode present, sideOfCode side with
    | some i, some p, some h =>
      if 7 < band.toNat ∨ eFull = 0 ∨ lMin = 0 then s.refuse .range
      else
        let e := lampEntryOf p h band eFull gDirect gSpill lMin maxDuration recharge
        let s1 := s.setLamp i ((s.lamp i).write e.1 (decide (s.opening.state = .parked)))
        ⟨s1.decideLight, .ok, s1.lampBody i e.2⟩
    | _, _, _ => s.refuse .range)

/-- LAMP_SET in its read form (R74, log 9). It clamps nothing, and its CLAMPED bit is clear (DEDUCED, log 39). -/
def execLampSetRead (l : LinkId) (channel : Byte) (s : State) : Host.Outcome State Fault Refusal :=
  .next (s.ask (.lampSetRead l channel) fun s =>
    match finOf 8 channel.toNat with
    | none => s.refuse .range
    | some i => ⟨s, .ok, s.lampBody i false⟩)

/-- LAMP_SET in its status form: the light status (R74, R195, R196). -/
def execLampSetStatus (l : LinkId) (s : State) : Host.Outcome State Fault Refusal :=
  .next (s.ask (.lampSetStatus l) fun s => ⟨s, .ok, s.lightStatus⟩)

/-! ### PROGRAM_SET (R79, R80) -/

/-- A step as PROGRAM_SET stores it: as written (R79). -/
def StepArg.toStep (a : StepArg) : ProgStep :=
  { mask := a.mask, level := a.level.toNat, duration := a.duration.toNat }

/-- PROGRAM_SET in its write form (R79). -/
def execProgramSetWrite (l : LinkId) (program mode stop count : Byte) (steps : List StepArg) (s : State) :
    Host.Outcome State Fault Refusal :=
  .next (s.ask (.programSetWrite l program mode stop count steps) fun s =>
    match finOf 16 program.toNat, modeOfCode mode, stopOfCode stop with
    | some i, some m, some r =>
      if 8 < count.toNat then s.refuse .range
      else
        let s1 := s.setProgram i { mode := m, stop := r, steps := steps.map StepArg.toStep }
        ⟨s1, .ok, s1.programBody i⟩
    | _, _, _ => s.refuse .range)

/-- PROGRAM_SET in its read form (R80). -/
def execProgramSetRead (l : LinkId) (program : Byte) (s : State) : Host.Outcome State Fault Refusal :=
  .next (s.ask (.programSetRead l program) fun s =>
    match finOf 16 program.toNat with
    | none => s.refuse .range
    | some i => ⟨s, .ok, s.programBody i⟩)

/-! ### DOSE_QUERY (R108, R109) -/

/-- Checks 3 to 7 of R108, and the query result. -/
def State.doseQuery (s : State) (program step : Nat) : Reply :=
  match finOf 16 program with
  | none => s.refuse .range
  | some i =>
    if step < 1 ∨ 8 < step then s.refuse .range
    else
      let p := s.program i
      if p.steps.length < 1 ∨ 8 < p.steps.length then s.refuse .badProgram
      else
        match p.stepAt step with
        | none => s.refuse .range
        | some x =>
          if (lampsOf x.mask).isEmpty then s.refuse .badProgram
          else if (lampsOf x.mask).any fun i => decide ((s.lamp i).state = .absent ∨ (s.lamp i).state = .faulted) then
            s.refuse .lampUnavailable
          else ⟨s, .ok, s.doseBody program step (s.doseInput x.mask x.level x.duration)⟩

/-- DOSE_QUERY (R108): fires nothing and changes nothing. -/
def execDoseQuery (l : LinkId) (program step : Byte) (s : State) : Host.Outcome State Fault Refusal :=
  .next (s.ask (.doseQuery l program step) fun s =>
    match s.opening.state with
    | .idle => s.refuse .noVolume
    | .parked => s.refuse .state
    | _ => s.doseQuery program.toNat step.toNat)

/-! ### The flash (R87 to R92) -/

/-- Mark a lamp of the record CONFIRMED, when it is PENDING (R88). -/
def Flash.confirm (f : Flash) (i : Fin 8) : Flash :=
  { f with
    lamps := f.lamps.map fun x => if x.lamp = i ∧ x.confirm = .pending then { x with confirm := .confirmed } else x }

/-- A confirm input rises (R88): marked only inside the window, on a lamp of the mask; ignored otherwise. -/
def State.confirmRises (s : State) (i : Fin 8) : State :=
  match s.light.flash with
  | none => s
  | some f => if f.window.isSome then { s with light := { s.light with flash := some (f.confirm i) } } else s

/-- CONFIRM_INPUT (R88). -/
def execConfirmInput (lamp : Fin 8) (s : State) : Host.Outcome State Fault Refusal :=
  .next (s.confirmRises lamp)

/-- The lamps of the record with a given confirm mark. -/
def Flash.marked (f : Flash) (c : Confirm) : List (Fin 8) :=
  (f.lamps.filter fun x => decide (x.confirm = c)).map (·.lamp)

/-- The record when the window has closed: every lamp PENDING is MISSED (R88). -/
def Flash.closeWindow (f : Flash) : Flash :=
  { f with
    window := none,
    lamps := f.lamps.map fun x => if x.confirm = .pending then { x with confirm := .missed } else x }

/-- A MISSED lamp leaves FIRING for FAULTED; its recharge timer does not start (R88). -/
def Lamp.miss (x : Lamp) : Lamp :=
  if x.state = .firing then { x with state := .faulted, recharge := none } else x

/-- The confirm window closes (R88). -/
def State.windowCloses (s : State) : State :=
  match s.light.flash with
  | none => s
  | some f =>
    if f.window.isNone then s
    else
      let missed := f.marked .pending
      let s1 : State := { s with light := { s.light with flash := some f.closeWindow } }
      let s2 := missed.foldl (fun a i => a.setLamp i (a.lamp i).miss) s1
      if missed.isEmpty then s2 else s2.takeCause .lampFault

/-- CONFIRM_WINDOW_CLOSE (R88). -/
def execConfirmWindowClose (s : State) : Host.Outcome State Fault Refusal :=
  .next (s.arbitrate s.windowCloses)

/-- A lamp at the flash end (R89 steps 1 and 2): one still FIRING becomes CHARGING from its entry as it now
stands, or ABSENT. -/
def Lamp.endFlash (x : Lamp) : Lamp :=
  if x.state = .firing then
    (if x.entry.present then { x with state := .charging, recharge := some x.entry.recharge }
     else { x with state := .absent, recharge := none })
  else x

/-- The step result of a flash (R58). -/
def Flash.result (f : Flash) (left right : Nat) : StepResult :=
  { step := f.step, slot := none, sealStatus := none, level := f.levelUsed, dimmed := f.dimmed,
    clamped := f.clamped, left := left, right := right }

/-- The capture unit receives a flash for one half served (R58): the result is recorded; without an end pending
the context enters AWAIT_FRAME and the frame start limit starts. -/
def State.recordFlash (s : State) (h : Half) (r : StepResult) : State :=
  match s.ctx h with
  | none => s
  | some c =>
    let c' := { c with results := c.results ++ [r] }
    s.setCtx h
      (some (if c.order.isSome then c' else { c' with state := .awaitFrame, frameTimer := some Config.frameStartMs }))

/-- A capture whose end was ordered during the flash ends (R58, R68). -/
def State.endIfOrdered (s : State) (h : Half) : State :=
  match s.ctx h with
  | none => s
  | some c => if c.order.isSome then s.endCapture h else s

/-- The frame is wanted: no end is pending at the flash end (R90). -/
def State.frameWanted (s : State) (h : Half) : Bool :=
  match s.ctx h with
  | none => false
  | some c => c.order.isNone

/-- The capture id the record holds for a half. -/
def Flash.idOf (f : Flash) : Half → Option Nat
  | .left => f.leftId
  | .right => f.rightId

/-- The STEP_FIRED notice of one half (R90). -/
def Flash.fired (f : Flash) (h : Half) (wanted : Bool) (dose : Nat) : Notice :=
  .stepFired ((f.idOf h).getD 0) f.step f.levelRequested f.levelUsed f.dimmed f.clamped wanted f.duration
    (maskOf (f.marked .confirmed)) (maskOf (f.marked .missed)) dose

/-- The flash end (R89): lamps, charge, capture unit, notices, last flash and gap, in this order. -/
def State.endFlash (s : State) (f : Flash) : State :=
  let dl := f.chargeLeft
  let dr := f.chargeRight
  let wantL := s.frameWanted .left
  let wantR := s.frameWanted .right
  let s1 := (s.mapLamps Lamp.endFlash).charge f.leftLeaf f.rightLeaf dl dr
  let s2 := f.served.halves.foldl (fun a h => a.recordFlash h (f.result dl dr)) s1
  let s3 := f.served.halves.foldl State.endIfOrdered s2
  let s4 := if f.served.serves .left then s3.notify .V (f.fired .left wantL dl) else s3
  let s5 := if f.served.serves .right then s4.notify .R (f.fired .right wantR dr) else s4
  { s5 with
    light :=
      { s5.light with
        flash := none, grant := none, gap := some Config.gapUs,
        lastFlash := some
          { served := f.served, level := f.levelUsed, duration := f.duration, confirmed := maskOf (f.marked .confirmed),
            unconfirmed := maskOf (f.marked .missed) } } }

/-- The flash timer expires; its confirm window has closed before (R88, log 23). -/
def State.flashTimerExpires (s : State) : State :=
  match s.light.flash with
  | none => s
  | some f => if f.window.isSome then s else s.endFlash f

/-- FLASH_END (R89). -/
def execFlashEnd (s : State) : Host.Outcome State Fault Refusal :=
  .next (s.arbitrate s.flashTimerExpires)

/-- The inter-flash gap expires (R92): the arbiter decides. -/
def State.gapExpires (s : State) : State :=
  match s.light.gap with
  | none => s
  | some _ => ({ s with light := { s.light with gap := none } } : State).decideLight

/-- INTER_FLASH_GAP_EXPIRY (R92). -/
def execInterFlashGapExpiry (s : State) : Host.Outcome State Fault Refusal :=
  .next (s.arbitrate s.gapExpires)

/-- A recharge timer expires (R76): the lamp becomes CHARGED, and the arbiter decides (R83). -/
def State.rechargeExpires (s : State) (i : Fin 8) : State :=
  match (s.lamp i).state, (s.lamp i).recharge with
  | .charging, some _ => (s.setLamp i { s.lamp i with state := .charged, recharge := none }).decideLight
  | _, _ => s

/-- RECHARGE_EXPIRY (R76). -/
def execRechargeExpiry (lamp : Fin 8) (s : State) : Host.Outcome State Fault Refusal :=
  .next (s.arbitrate (s.rechargeExpires lamp))

end Sys2Proof.Machine
end

