-- ==== Sys2Proof/Machine/Links.lean ====
section
/-! DEFINITION. The commands of the control links: select, bytes, port reset, POLL, IDENT, and requests the
dispatcher itself refuses (R182 to R187, R190, R191). -/

namespace Sys2Proof.Machine

open Sys2Proof

/-- SELECT_FALLING (R182, R183): the outgoing frame is chosen. -/
def execSelectFalling (l : LinkId) (s : State) : Host.Outcome State Fault Refusal :=
  .next (s.setLink l (s.link l).selectFalls)

/-- SELECT_RISING (R182 to R185): the outgoing frame is settled and the incoming bytes are judged. -/
def execSelectRising (l : LinkId) (s : State) : Host.Outcome State Fault Refusal :=
  .next (s.selectRises l)

/-- BYTE_CLOCKED (R182, R183, R187): a byte in, and the outgoing frame moves on by one. -/
def execByteClocked (l : LinkId) (b : Byte) (s : State) : Host.Outcome State Fault Refusal :=
  .next (s.setLink l ((s.link l).clock b s.faultLine))

/-- PORT_RESET (R191), taken by the link itself at the select rising of its exchange. -/
def execPortReset (l : LinkId) (s : State) : Host.Outcome State Fault Refusal :=
  .next (s.portReset l)

/-- POLL (R190): the link status; nothing changes. -/
def execPoll (l : LinkId) (s : State) : Host.Outcome State Fault Refusal :=
  .next (s.ask (.poll l) fun s => ⟨s, .ok, linkStatusBody l s⟩)

/-- The IDENT response (R190, R196): 11 bytes. -/
def identBody (l : LinkId) : List Byte :=
  be 2 0x0D7A ++ be 2 0x7320 ++ [1, 8, 8] ++ be 2 4096 ++ [16, b1 (roleCode l)]

/-- IDENT (R190): the part's figures and the link's role; nothing changes. -/
def execIdent (l : LinkId) (s : State) : Host.Outcome State Fault Refusal :=
  .next (s.ask (.ident l) fun s => ⟨s, .ok, identBody l⟩)

/-- A request of a kind or body length the dispatcher refuses (R186 checks 1 to 3, log 5). The kind 0xFF is the
read marker and no request (R184); a frame some other row takes is that row's. -/
def execRequestKindUnknown (l : LinkId) (kind : Byte) (body : List Byte) (s : State) :
    Host.Outcome State Fault Refusal :=
  .next
    (if kind = Config.readMarker ∨ (parseBody l kind.toNat body).isSome then s
     else s.ask (.requestKindUnknown l kind body) fun s => s.refuse .malformed)

end Sys2Proof.Machine
end

