-- ==== Sys2Proof/Machine/Memory.lean ====
section
/-! DEFINITION. The commands of the memory arbiter: bursts and refresh operations completing, the refresh timer
(R126, R127). -/

namespace Sys2Proof.Machine

open Sys2Proof

/-- The completion of a pixel burst (R119, R124): the words are written, words received rises, and a frame in
SEALING seals when this emptied its FIFO. -/
def State.pixelBurstDone (s : State) (h : Half) (ws : List Word) : State :=
  match (s.rx h).slot with
  | none => s.sealIfReady h
  | some i =>
    let x := s.slot i
    let s1 : State := { s with mem := writeWords s.mem i x.words ws }
    (s1.setSlot i { x with words := x.words + ws.length }).sealIfReady h

/-- A burst completes, and the requester's counts change there (R126). A refresh operation is the row
REFRESH_COMPLETION's. -/
def State.burstDone (s : State) : State :=
  match s.memory.burst with
  | none => s
  | some .refresh => s
  | some (.pixel h ws) => ((s.setBurst none).pixelBurstDone h ws).decideMemory
  | some (.engine n stale) =>
    (if stale then (s.setBurst none).staleBurst else (s.setBurst none).engineBurst n).decideMemory
  | some (.drain n) => ((s.setBurst none).drainBurstDone n).decideMemory

/-- BURST_COMPLETION (R126): the arbiter decides again. -/
def execBurstCompletion (s : State) : Host.Outcome State Fault Refusal :=
  .next (s.arbitrate s.burstDone)

/-- A refresh operation completes (R126). -/
def State.refreshDone (s : State) : State :=
  match s.memory.burst with
  | some .refresh => (s.setBurst none).decideMemory
  | _ => s

/-- REFRESH_COMPLETION (R126): the arbiter decides again. -/
def execRefreshCompletion (s : State) : Host.Outcome State Fault Refusal :=
  .next s.refreshDone

/-- The refresh timer expires (R127): one more refresh is owed, the timer starts again, the arbiter decides. An
expiry at a count of 8 does not arise: the grant brings the count back to 7 before it (R127, log 4). -/
def State.refreshExpires (s : State) : State :=
  match s.memory.refreshTimer with
  | none => s
  | some _ =>
    if s.memory.owed < Config.refreshUrgent then
      ({ s with
          memory :=
            { s.memory with owed := s.memory.owed + 1, refreshTimer := some Config.refreshTenths } } : State).decideMemory
    else s

/-- REFRESH_TIMER_EXPIRY (R127). -/
def execRefreshTimerExpiry (s : State) : Host.Outcome State Fault Refusal :=
  .next s.refreshExpires

end Sys2Proof.Machine
end

