-- ==== Sys2Proof/Machine/Opening.lean ====
section
/-! DEFINITION. The commands of the opening controller: SEEK, RESYNC, ABORT_OPENING, PARK, WAKE, CRADLE_RESET,
power-on reset and the settle timer (R12, R13, R20 to R25). -/

namespace Sys2Proof.Machine

open Sys2Proof

/-- A response of SEEK, RESYNC, ABORT_OPENING, PARK, WAKE or CRADLE_RESET: the opening status always (R3). -/
def State.openingReply (s : State) (st : Status) : Reply := ⟨s, st, s.openingStatus⟩

/-- SEEK accepted (R13): the target is checked, cleared or replaced; a change is an evaluation event. -/
def State.seekTo (s : State) (target : Nat) : Reply :=
  if s.leaves < target then s.openingReply .range
  else
    let seek := if target = s.opening.k then none else some target
    let s1 := s.setOpening { s.opening with seek := seek }
    (if seek = s.opening.seek then s1 else s1.evaluate).openingReply .ok

/-- SEEK (R13). -/
def execSeek (l : LinkId) (target : Word) (s : State) : Host.Outcome State Fault Refusal :=
  .next (s.ask (.seek l target) fun s =>
    match s.opening.state with
    | .idle => s.openingReply .noVolume
    | .parked => s.openingReply .state
    | .fault => s.openingReply .fault
    | _ => s.seekTo target.toNat)

/-- RESYNC accepted (R20): k takes the number, the seek target is cleared, the opening enters SETTLING. -/
def State.resyncTo (s : State) (k : Nat) : Reply :=
  if s.leaves < k then s.openingReply .range
  else ((s.setOpening { s.opening with k := k, seek := none }).enterSettling).openingReply .ok

/-- RESYNC (R20). -/
def execResync (l : LinkId) (opening : Word) (s : State) : Host.Outcome State Fault Refusal :=
  .next (s.ask (.resync l opening) fun s =>
    match s.opening.state with
    | .fault => if s.inFlight then s.openingReply .busy else s.resyncTo opening.toNat
    | .idle => if s.mounted.isSome then s.resyncTo opening.toNat else s.openingReply .noVolume
    | _ => s.openingReply .state)

/-- ABORT_OPENING accepted (R21): a CANCEL on both halves, and the claims released without a notice. -/
def State.abortOpening (s : State) : State :=
  ((s.cancelBoth).endClaims false).evaluate

/-- ABORT_OPENING (R21). -/
def execAbortOpening (l : LinkId) (s : State) : Host.Outcome State Fault Refusal :=
  .next (s.ask (.abortOpening l) fun s =>
    match s.opening.state with
    | .idle => s.openingReply .noVolume
    | .parked => s.openingReply .state
    | .turning => s.openingReply .ok
    | .fault => s.openingReply .ok
    | _ => s.abortOpening.openingReply .ok)

/-- A lamp at PARK (R77): CHARGING, CHARGED and FAULTED become DISCHARGED, and the recharge timer stops. -/
def Lamp.park (x : Lamp) : Lamp :=
  match x.state with
  | .charging => { x with state := .discharged, recharge := none }
  | .charged => { x with state := .discharged, recharge := none }
  | .faulted => { x with state := .discharged, recharge := none }
  | _ => x

/-- A lamp at WAKE (R77): DISCHARGED becomes CHARGING for a full recharge. -/
def Lamp.wake (x : Lamp) : Lamp :=
  match x.state with
  | .discharged => { x with state := .charging, recharge := some x.entry.recharge }
  | _ => x

/-- PARK accepted (R22). -/
def State.parkCradle (s : State) : State :=
  let s1 := s.endClaims true
  let s2 := s1.setOpening
    { s1.opening with
      parkReturn := if s1.opening.state = .idle then .nothing else .volume,
      settle := none, direction := none, state := .parked }
  (s2.mapLamps Lamp.park).parkMemory

/-- PARK (R22). -/
def execPark (l : LinkId) (s : State) : Host.Outcome State Fault Refusal :=
  .next (s.ask (.park l) fun s =>
    match s.opening.state with
    | .parked => s.openingReply .ok
    | .fault => s.openingReply .fault
    | .turning => s.openingReply .busy
    | _ =>
      if s.inFlight || !s.drainIdle then s.openingReply .busy else s.parkCradle.openingReply .ok)

/-- WAKE accepted (R23): lamps recharge, the memory leaves retention, the queue's head becomes active (R135),
park return becomes NONE, and the opening enters SETTLING or IDLE. -/
def State.wakeCradle (s : State) : State :=
  let s1 := s.setOpening { s.opening with parkReturn := .nothing }
  let s2 :=
    match s.opening.parkReturn with
    | .volume => s1.enterSettling
    | .nothing => s1.setOpening { s1.opening with state := .idle, direction := none }
  let s3 := ((s2.mapLamps Lamp.wake).wakeMemory).activateDrain
  -- the arbiter decides when the memory leaves retention (R126)
  if s.memory.mode = .retention then s3.decideMemory else s3

/-- WAKE (R23). -/
def execWake (l : LinkId) (s : State) : Host.Outcome State Fault Refusal :=
  .next (s.ask (.wake l) fun s =>
    match s.opening.state with
    | .parked => s.wakeCradle.openingReply .ok
    | _ => s.openingReply .state)

/-- Every notice queue is emptied (R189). -/
def State.emptyAllNotices (s : State) : State :=
  { s with
    links :=
      { S := s.links.S.emptyNotices, V := s.links.V.emptyNotices, R := s.links.R.emptyNotices,
        A := s.links.A.emptyNotices } }

/-- The cradle reset's effect on the opening, decided from the volume table as it stands (R24). -/
def State.resetOpening (s : State) : State :=
  match s.opening.state with
  | .parked => s
  | .idle => if s.mounted.isSome then s.enterFault .reset else s
  | _ => s.enterFault .reset

/-- The cradle reset abandons a save or a restore (R131, R163): the entry and its slot follow the tables. -/
def State.resetVolumes (s : State) : State :=
  match s.moving with
  | none => s
  | some i =>
    let v := s.volume i
    let s1 := s.abandonTransfer
    match v.state with
    | .suspending =>
      let s2 := match v.saveSlot with
        | none => s1
        | some x => s1.freeSlot x
      (s2.setVolume i { v with state := .mounted, saveSlot := none }).setOpening
        { s2.opening with volume := some i }
    | _ => (s1.setVolume i { v with state := .suspended }).emptyTables

/-- The cradle reset of the drain unit (R146): queue removed, deferred releases cleared, the active drain
ordered to end with status RESET. -/
def State.resetDrain (s : State) : State :=
  let s1 := s.mapSlots fun x => { x with deferred := none }
  ({ s1 with drain := { s1.drain with queue := [] } } : State).orderDrain .reset

/-- CRADLE_RESET (R24, R131, R146, R163, R189): taken in every opening state. -/
def execCradleReset (l : LinkId) (s : State) : Host.Outcome State Fault Refusal :=
  .next (s.ask (.cradleReset l) fun s =>
    ((((s.emptyAllNotices).resetOpening).resetVolumes).resetDrain).openingReply .ok)

/-- POWER_ON_RESET (R25, R44, R77, R110, R164, R192): every field takes its value after power-on reset. The
commands that wait and the level of the ready input are the outside's, and stay (logs 1 and 7). -/
def execPowerOnReset (s : State) : Host.Outcome State Fault Refusal :=
  .next { State.reset with pending := s.pending, drain := { Drain.reset with readyIn := s.drain.readyIn } }

/-- The settle timer expires (R12): the opening is evaluated, then step 1 of the contexts in WAIT_SETTLE. -/
def State.settleExpires (s : State) : State :=
  match s.opening.state, s.opening.settle with
  | .settling, some _ => ((s.setOpening { s.opening with settle := none }).takeEvaluated).startWaiting
  | _, _ => s

/-- SETTLE_EXPIRY (R12, R54). -/
def execSettleExpiry (s : State) : Host.Outcome State Fault Refusal :=
  .next (s.arbitrate s.settleExpires)

end Sys2Proof.Machine
end

