-- ==== Sys2Proof/Machine/Pixel.lean ====
section
/-! DEFINITION. The commands of the pixel links: words in HUNT, HEADER, PAYLOAD and TRAILER, and the frame
complete limit (R115 to R122). -/

namespace Sys2Proof.Machine

open Sys2Proof

/-- HUNT_WORD (R116): a start marker enters HEADER, any other word is discarded. -/
def execHuntWord (h : Half) (w : Word) (s : State) : Host.Outcome State Fault Refusal :=
  .next
    (match (s.rx h).state with
     | .hunt =>
       if w = Config.startMarker then s.setRx h { s.rx h with state := .header, header := [w] } else s
     | _ => s)

/-- HEADER_WORD (R116): words 2 to 7 fill the header buffer. -/
def execHeaderWord (h : Half) (w : Word) (s : State) : Host.Outcome State Fault Refusal :=
  .next
    (match (s.rx h).state with
     | .header =>
       if (s.rx h).header.length < 7 then s.setRx h { s.rx h with header := (s.rx h).header ++ [w] } else s
     | _ => s)

/-- A word of a header as a number. -/
def headerNat (header : List Word) (n : Nat) : Nat := ((header[n]?).getD 0).toNat

/-- The step number of a header: the low byte of word 2 (R197). -/
def headerStep (header : List Word) : Nat := headerNat header 2 % 256

/-- The side code of a header: the high byte of word 2 (R197). -/
def headerSide (header : List Word) : Nat := headerNat header 2 / 256

/-- The first check of R117 that fails, given the half's context. -/
def checkHeader (h : Half) (ctx : Option Ctx) (header : List Word) : Option HeaderRefusal :=
  match ctx with
  | none => some .noFrameWanted
  | some c =>
    let w := headerNat header 3
    let t := headerNat header 4
    if c.state ≠ .awaitFrame then some .noFrameWanted
    else if headerSide header ≠ halfCode h then some .wrongSide
    else if headerNat header 1 ≠ c.id ∨ headerStep header ≠ c.step then some .noMatch
    else if w < 1 ∨ 8192 < w ∨ t < 1 ∨ 8192 < t then some .badSize
    else if Config.slotWords < w * t then some .tooLarge
    else none

/-- A refused header at the receiver (R117). -/
def Receiver.refuse (r : Receiver) (x : HeaderRefusal) : Receiver :=
  { r with
    refusedCount := satAdd Config.maxByteCount r.refusedCount, lastRefusal := some x, header := [], state := .hunt }

/-- The slot record at an accepted header (R118 step 1). -/
def Slot.accept (x : Slot) (header : List Word) : Slot :=
  { x with
    size := some (headerNat header 3, headerNat header 4),
    camera := some ((header[5]?).getD 0, (header[6]?).getD 0, (header[7]?).getD 0),
    words := 0, crcComputed := none, crcReceived := none, sealStatus := none }

/-- The receiver at an accepted header (R118 steps 2 to 4). -/
def Receiver.accept (r : Receiver) (header : List Word) (slot : Option (Fin 8)) : Receiver :=
  { r with
    state := .payload, header := [], crc := some crcStart, taken := 0,
    due := headerNat header 3 * headerNat header 4, limit := some Config.frameCompleteMs, cancelMark := false,
    slot := slot, marker := false, crcHigh := none, crcReceived := none, result := none }

/-- An accepted header (R118): slot, receiver, and the context enters RECEIVING. -/
def State.acceptHeader (s : State) (h : Half) (c : Ctx) (header : List Word) : State :=
  let s1 := match c.slot with
    | none => s
    | some i => s.setSlot i ((s.slot i).accept header)
  (s1.setRx h ((s.rx h).accept header c.slot)).setCtx h (some { c with state := .receiving, frameTimer := none })

/-- A header is complete (R117): refused, with the capture's end when it is too large, or accepted. -/
def State.headerComplete (s : State) (h : Half) (header : List Word) : State :=
  match checkHeader h (s.ctx h) header with
  | some .tooLarge =>
    ((s.setRx h ((s.rx h).refuse .tooLarge)).setCause h .frameTooLarge none).endCapture h
  | some x => s.setRx h ((s.rx h).refuse x)
  | none =>
    match s.ctx h with
    | none => s
    | some c => s.acceptHeader h c header

/-- FRAME_HEADER (R117, R118): the eighth header word. -/
def execFrameHeader (h : Half) (w : Word) (s : State) : Host.Outcome State Fault Refusal :=
  .next (s.arbitrate
    (match (s.rx h).state with
     | .header =>
       if (s.rx h).header.length = 7 then s.headerComplete h ((s.rx h).header ++ [w]) else s
     | _ => s))

/-- A payload word at the receiver (R119). -/
def Receiver.payload (r : Receiver) (w : Word) : Receiver :=
  { r with
    crc := r.crc.map fun a => crcWord a w, fifo := r.fifo ++ [w], taken := r.taken + 1,
    state := if r.taken + 1 = r.due then .trailer else .payload }

/-- A payload word is taken while ready is high (R115, R119): CRC, FIFO, count; the slot record shows the CRC
computed so far (R114, log 13). -/
def State.takePayload (s : State) (h : Half) (w : Word) : State :=
  let r := s.rx h
  match r.state with
  | .payload =>
    if r.ready then
      let r' := r.payload w
      let s1 := s.setRx h r'
      match r.slot with
      | none => s1
      | some i => s1.setSlot i { s1.slot i with crcComputed := r'.crc.map (~~~ ·) }
    else s
  | _ => s

/-- PAYLOAD_WORD (R119). -/
def execPayloadWord (h : Half) (w : Word) (s : State) : Host.Outcome State Fault Refusal :=
  .next (s.arbitrate (s.takePayload h w))

/-- The receiver enters SEALING with its check result; the frame complete limit stops (R121, R122). -/
def Receiver.beginSealing (r : Receiver) (result : Seal) : Receiver :=
  { r with state := .sealing, limit := none, result := some result }

/-- The CRC received (R121). -/
def crcFrom (high low : Word) : BitVec 32 := BitVec.ofNat 32 (high.toNat * 65536 + low.toNat)

/-- A trailer word at the receiver (R121). -/
def Receiver.trailer (r : Receiver) (w : Word) : Receiver :=
  if !r.marker then
    (if w = Config.endMarker then { r with marker := true } else r.beginSealing .damagedLength)
  else
    match r.crcHigh with
    | none => { r with crcHigh := some w }
    | some high =>
      let received := crcFrom high w
      let good : Bool := decide (r.crc.map (~~~ ·) = some received)
      ({ r with crcReceived := some received } : Receiver).beginSealing (if good then .good else .damagedCrc)

/-- A trailer word is taken (R121), and the frame seals if its FIFO is empty (R124). -/
def State.takeTrailer (s : State) (h : Half) (w : Word) : State :=
  match (s.rx h).state with
  | .trailer => (s.setRx h ((s.rx h).trailer w)).sealIfReady h
  | _ => s

/-- TRAILER_WORD (R121). -/
def execTrailerWord (h : Half) (w : Word) (s : State) : Host.Outcome State Fault Refusal :=
  .next (s.arbitrate (s.takeTrailer h w))

/-- The frame complete limit expires in PAYLOAD or TRAILER (R122). -/
def State.frameLate (s : State) (h : Half) : State :=
  match (s.rx h).limit with
  | none => s
  | some _ => (s.setRx h ((s.rx h).beginSealing .damagedTimeout)).sealIfReady h

/-- FRAME_COMPLETE_LIMIT_EXPIRY (R122). -/
def execFrameCompleteLimitExpiry (h : Half) (s : State) : Host.Outcome State Fault Refusal :=
  .next (s.arbitrate (s.frameLate h))

end Sys2Proof.Machine
end

