-- ==== Sys2Proof/Machine/Turning.lean ====
section
/-! DEFINITION. The commands of the arm and the turn timer (R26 to R41). -/

namespace Sys2Proof.Machine

open Sys2Proof

/-- A response to an arm request: the arm view always (R26). -/
def State.armReply (s : State) (st : Status) : Reply := ⟨s, st, s.armView⟩

/-- The turn timeout in force, in ms (R27). -/
def State.turnTimeout (s : State) : Nat :=
  match s.opening.volume with
  | none => 0
  | some i => 1000 * (s.volume i).turn

/-- The grant of a turn (R29). -/
def State.grantTurn (s : State) : State :=
  s.setOpening { s.opening with state := .turning, turn := some s.turnTimeout }

/-- TURN_ASK (R28 to R30). -/
def execTurnAsk (l : LinkId) (s : State) : Host.Outcome State Fault Refusal :=
  .next (s.ask (.turnAsk l) fun s =>
    match s.opening.state with
    | .turnable => s.grantTurn.armReply .grant
    | .turning => s.armReply .grant
    | .settling => s.armReply .wait
    | .ready => s.armReply .wait
    | .exposing => s.armReply .wait
    | .finished => s.armReply .endOfVolume
    | .idle => s.armReply .noVolume
    | .fault => s.armReply .fault
    | .parked => s.armReply .state)

/-- TURN_BEGIN (R33): outside TURNING it is ungranted motion. -/
def execTurnBegin (l : LinkId) (s : State) : Host.Outcome State Fault Refusal :=
  .next (s.ask (.turnBegin l) fun s =>
    match s.opening.state with
    | .turning => s.armReply .ok
    | _ => (s.takeCause .ungrantedMotion).armReply .fault)

/-- The opening moves to a new k at a TURN_END (R35, R37): the seek target is cleared when reached, and the
opening enters SETTLING. -/
def State.moveTo (s : State) (k : Nat) : State :=
  (s.setOpening { s.opening with k := k, seek := if s.opening.seek = some k then none else s.opening.seek }).enterSettling

/-- The exception of a turn (R39). -/
def turnException (kind : ExcKind) (side : Option (Face × Nat)) (opening count : Nat) : ExcRecord :=
  { kind := kind, side := side, opening := opening, captureId := none, slot := none, extra := count }

/-- The DOUBLE_TURN records of an opening never shown: its verso, then its recto (R37, R39). -/
def State.addDoubleTurn (s : State) (never : Nat) : State :=
  (s.addException (turnException .doubleTurn (some (.verso, never)) never 2)).addException
    (turnException .doubleTurn (some (.recto, never + 1)) never 2)

/-- A leaf count applied in the granted direction (R35 to R38). -/
def State.applyCount (s : State) (dir : Direction) (c : Nat) : State :=
  let k := s.opening.k
  match c, dir with
  | 0, _ => (s.addException (turnException .missedTurn none k 0)).enterSettling
  | 1, .forward => s.moveTo (k + 1)
  | 1, .backward => s.moveTo (k - 1)
  | 2, .forward =>
    if k + 2 ≤ s.leaves then (s.addDoubleTurn (k + 1)).moveTo (k + 2) else s.enterFault .lostPosition
  | 2, .backward =>
    if 2 ≤ k then (s.addDoubleTurn (k - 1)).moveTo (k - 2) else s.enterFault .lostPosition
  | _, _ => s.enterFault .lostPosition

/-- TURN_END applied in TURNING: the turn timer stops (R34). -/
def State.endTurn (s : State) (c : Nat) : State :=
  (s.setOpening { s.opening with turn := none }).applyCount (s.opening.direction.getD .forward) c

/-- TURN_END (R34). -/
def execTurnEnd (l : LinkId) (count : Byte) (s : State) : Host.Outcome State Fault Refusal :=
  .next (s.ask (.turnEnd l count) fun s =>
    match s.opening.state with
    | .turning => if 3 < count.toNat then s.armReply .range else (s.endTurn count.toNat).armReply .ok
    | .fault => s.armReply .tooLate
    | _ => s.armReply .state)

/-- ARM_FAULT (R41): the code is kept in every state, and the cause is taken. -/
def execArmFault (l : LinkId) (code : Byte) (s : State) : Host.Outcome State Fault Refusal :=
  .next (s.ask (.armFault l code) fun s =>
    ((s.setOpening { s.opening with armCode := code }).takeCause .armFault).armReply .ok)

/-- The turn timer expires in TURNING (R27): FAULT with cause TURN_TIMEOUT. -/
def State.turnExpires (s : State) : State :=
  match s.opening.state, s.opening.turn with
  | .turning, some _ => s.enterFault .turnTimeout
  | _, _ => s

/-- TURN_TIMER_EXPIRY (R27). -/
def execTurnTimerExpiry (s : State) : Host.Outcome State Fault Refusal :=
  .next (s.arbitrate s.turnExpires)

end Sys2Proof.Machine
end

