-- ==== Sys2Proof/Machine/Volumes.lean ====
section
/-! DEFINITION. The volume requests: REGISTER, MOUNT, SUSPEND, CLOSE, CLEAR, SET_TIMING, READ_VOLUME, SET_BUDGET
(R106, R150 to R162). -/

namespace Sys2Proof.Machine

open Sys2Proof

/-- The entry a REGISTER writes (R151). -/
def registered (mark : List Byte) (n leafCap volumeCap : Nat) (t : Timings) : Volume :=
  { state := .pending, mark := mark, n := n, leafCap := leafCap, volumeCap := volumeCap, doseUsed := 0,
    settle := t.settle, turn := t.turn, life := t.life, counts := { SideCounts.zero with wanted := 2 * n },
    excCount := 0, excLost := 0, lastOpening := none, saveSlot := none }

/-- The default timings at REGISTER (R152): settle 400 ms, turn 8 s, lifetime 5,000 ms. -/
def registerTimings (settle : Word) (turn : Byte) (life : Word) : Timings :=
  settleTimings settle turn life 400 8 5000

/-- REGISTER (R151, R152). -/
def execRegister (l : LinkId) (mark : List Byte) (n : Word) (leafCap : BitVec 32) (volumeCap : BitVec 48)
    (settle : Word) (turn : Byte) (life : Word) (s : State) : Host.Outcome State Fault Refusal :=
  .next (s.ask (.register l mark n leafCap volumeCap settle turn life) fun s =>
    if !printable mark || decide (n.toNat < 1 ∨ 4096 < n.toNat) then s.refuse .range
    else
      match s.markHolder mark, s.lowestEmpty with
      | some i, _ => ⟨s, .duplicateMark, [b1 i.val]⟩
      | none, none => s.refuse .tableFull
      | none, some i =>
        let t := registerTimings settle turn life
        let s1 := s.setVolume i (registered mark n.toNat leafCap.toNat volumeCap.toNat t)
        ⟨s1, .ok, s1.volumeStatusClamped i t.clamped⟩)

/-- A MOUNT of a PENDING entry (R154). -/
def State.mountPending (s : State) (i : Fin 16) (k : Nat) : State :=
  let v := s.volume i
  (((s.setLeaves (freshLeaves v.n)).setExceptions []).setVolume i { v with state := .mounted }).enterCradle i k

/-- A MOUNT of a SUSPENDED entry: a resume (R158). -/
def State.resume (s : State) (i : Fin 16) (opening : Word) : State :=
  let v := s.volume i
  let last := if opening = lastOpeningMarker then v.lastOpening else some opening.toNat
  let s1 := s.setVolume i { v with state := .resuming, lastOpening := last }
  match v.saveSlot with
  | none => s1
  | some x => s1.beginRestore x

/-- MOUNT on an entry: checks 2 to 5 of R153 in order, then R154 or R158. -/
def State.mount (s : State) (i : Fin 16) (opening : Word) : Reply :=
  let v := s.volume i
  if s.opening.state = .parked then s.refuse .state
  else if s.mounted.isSome || s.moving.isSome then s.refuse .busy
  else
    match v.state with
    | .pending =>
      if v.n < opening.toNat then s.refuse .range
      else
        let s1 := s.mountPending i opening.toNat
        ⟨s1, .ok, s1.volumeStatus i⟩
    | .suspended =>
      if v.n < opening.toNat ∧ opening ≠ lastOpeningMarker then s.refuse .range
      else
        let s1 := s.resume i opening
        ⟨s1, .ok, s1.volumeStatus i⟩
    | _ => s.refuse .state

/-- MOUNT (R153, R154, R158). -/
def execMount (l : LinkId) (index : Byte) (opening : Word) (s : State) : Host.Outcome State Fault Refusal :=
  .next (s.ask (.mount l index opening) fun s =>
    match finOf 16 index.toNat with
    | none => s.refuse .range
    | some i => s.mount i opening)

/-- The slot record of a slot taken for a save: SAVE with the volume's index and the image length (R129). -/
def Slot.forSave (i : Fin 16) (length : Nat) : Slot :=
  { Slot.free with state := .save, volume := some i, image := some length }

/-- An accepted SUSPEND (R156): slot, entry, opening, engine. -/
def State.suspend (s : State) (i : Fin 16) (x : Fin 8) : State :=
  let v := s.volume i
  let length := imageLength v.n s.account.exceptions.length
  let s1 := s.setSlot x (Slot.forSave i length)
  let s2 := s1.setVolume i { v with state := .suspending, saveSlot := some x, lastOpening := some s.opening.k }
  s2.enterIdle.beginSave x length

/-- SUSPEND (R155, R156). -/
def execSuspend (l : LinkId) (s : State) : Host.Outcome State Fault Refusal :=
  .next (s.ask (.suspend l) fun s =>
    if s.opening.state = .parked then s.refuse .state
    else if s.opening.state = .fault then s.refuse .fault
    else if s.moving.isSome then s.refuse .busy
    else
      match s.mounted with
      | none => s.refuse .noVolume
      | some i =>
        if decide (s.opening.state = .turning) || s.inFlight || s.claimHeld then s.refuse .busy
        else
          match s.lowestFree with
          | none => ⟨s, .noSlot, [b1 s.frameSlots.length]⟩
          | some x =>
            let s1 := s.suspend i x
            ⟨s1, .ok, s1.volumeStatus i⟩)

/-- A CLOSE of the MOUNTED entry (R160): claims, opening, entry, report, tables. -/
def State.closeMounted (s : State) (i : Fin 16) : State :=
  let s1 := s.endClaims true
  let s2 := s1.enterIdle
  let s3 := s2.setVolume i { s2.volume i with state := .closed, lastOpening := some s2.opening.k }
  (s3.notify .S (.closeReport (s3.closeReport i true))).emptyTables

/-- A CLOSE of a SUSPENDED entry (R161). -/
def State.closeSuspended (s : State) (i : Fin 16) : State :=
  let s1 := s.dropImage i
  s1.setVolume i { s1.volume i with state := .closed }

/-- CLOSE on an entry: checks 2 to 5 of R160 in order. -/
def State.close (s : State) (i : Fin 16) : Reply :=
  if s.opening.state = .parked then s.refuse .state
  else if s.opening.state = .fault then s.refuse .fault
  else
    match (s.volume i).state with
    | .mounted =>
      if decide (s.opening.state = .turning) || s.inFlight then s.refuse .busy
      else
        let s1 := s.closeMounted i
        ⟨s1, .ok, s1.volumeStatus i⟩
    | .suspended =>
      let s1 := s.closeSuspended i
      ⟨s1, .ok, s1.volumeStatus i⟩
    | _ => s.refuse .state

/-- CLOSE (R160, R161). -/
def execClose (l : LinkId) (index : Byte) (s : State) : Host.Outcome State Fault Refusal :=
  .next (s.ask (.close l index) fun s =>
    match finOf 16 index.toNat with
    | none => s.refuse .range
    | some i => s.close i)

/-- The entry becomes EMPTY (R162). -/
def State.clearEntry (s : State) (i : Fin 16) : State := s.setVolume i .empty

/-- CLEAR on an entry: checks 2 and 3 of R162. -/
def State.clear (s : State) (i : Fin 16) : Reply :=
  let st := (s.volume i).state
  if st ≠ .pending ∧ st ≠ .suspended ∧ st ≠ .closed then s.refuse .state
  else
    match s.framesOf i with
    | x :: xs => ⟨s, .framesHeld, [b1 x.val, b1 (x :: xs).length]⟩
    | [] =>
      let s1 := (if st = .suspended then s.dropImage i else s).clearEntry i
      ⟨s1, .ok, s1.volumeStatus i⟩

/-- CLEAR (R162). -/
def execClear (l : LinkId) (index : Byte) (s : State) : Host.Outcome State Fault Refusal :=
  .next (s.ask (.clear l index) fun s =>
    match finOf 16 index.toNat with
    | none => s.refuse .range
    | some i => s.clear i)

/-- EMPTY and CLOSED entries take neither SET_TIMING nor SET_BUDGET (R106, R152). -/
def VolumeState.settable : VolumeState → Bool
  | .empty => false
  | .closed => false
  | _ => true

/-- SET_TIMING (R152): a default marker leaves that timing as it stands. -/
def execSetTiming (l : LinkId) (index : Byte) (settle : Word) (turn : Byte) (life : Word) (s : State) :
    Host.Outcome State Fault Refusal :=
  .next (s.ask (.setTiming l index settle turn life) fun s =>
    match finOf 16 index.toNat with
    | none => s.refuse .range
    | some i =>
      let v := s.volume i
      if !v.state.settable then s.refuse .state
      else
        let t := settleTimings settle turn life v.settle v.turn v.life
        let s1 := s.setVolume i { v with settle := t.settle, turn := t.turn, life := t.life }
        ⟨s1, .ok, s1.volumeStatusClamped i t.clamped⟩)

/-- READ_VOLUME by part selector (R150, R195): none or 0 the volume status, 1 the shelf-mark. -/
def State.readVolume (s : State) (index : Byte) (part : Option Byte) : Reply :=
  match finOf 16 index.toNat with
  | none => s.refuse .range
  | some i =>
    let v := s.volume i
    if part = none ∨ part = some 0 then ⟨s, .ok, s.volumeStatus i⟩
    else if part = some 1 then ⟨s, .ok, [b1 i.val, b1 v.state.code, b1 v.mark.length] ++ v.mark⟩
    else s.refuse .range

/-- READ_VOLUME (R150, R195). -/
def execReadVolume (l : LinkId) (index : Byte) (part : Option Byte) (s : State) : Host.Outcome State Fault Refusal :=
  .next (s.ask (.readVolume l index part) fun s => s.readVolume index part)

/-- READ_VOLUME with part selector 1: index, state and shelf-mark (R150, R195). -/
def execReadVolumeShelfMark (l : LinkId) (index : Byte) (s : State) : Host.Outcome State Fault Refusal :=
  .next (s.ask (.readVolumeShelfMark l index) fun s => s.readVolume index (some 1))

/-- SET_BUDGET (R106): both caps replaced. -/
def execSetBudget (l : LinkId) (index : Byte) (leafCap : BitVec 32) (volumeCap : BitVec 48) (s : State) :
    Host.Outcome State Fault Refusal :=
  .next (s.ask (.setBudget l index leafCap volumeCap) fun s =>
    match finOf 16 index.toNat with
    | none => s.refuse .range
    | some i =>
      let v := s.volume i
      if !v.state.settable then s.refuse .state
      else
        let s1 := s.setVolume i { v with leafCap := leafCap.toNat, volumeCap := volumeCap.toNat }
        ⟨s1, .ok, s1.budgetBody i⟩)

end Sys2Proof.Machine
end

