-- ==== Sys2Proof/Machine/Dispatch.lean ====
section
/-! DEFINITION. One arm per command: a direct call of its meaning. -/

namespace Sys2Proof.Machine

def exec (i : Instr) (s : State) : Host.Outcome State Fault Refusal :=
  match i with
  | .powerOnReset => Sys2Proof.Machine.execPowerOnReset s
  | .poll l => Sys2Proof.Machine.execPoll l s
  | .ident l => Sys2Proof.Machine.execIdent l s
  | .portReset l => Sys2Proof.Machine.execPortReset l s
  | .requestKindUnknown l kind body => Sys2Proof.Machine.execRequestKindUnknown l kind body s
  | .register l mark n leafCap volumeCap settle turn life => Sys2Proof.Machine.execRegister l mark n leafCap volumeCap settle turn life s
  | .mount l index opening => Sys2Proof.Machine.execMount l index opening s
  | .suspend l => Sys2Proof.Machine.execSuspend l s
  | .close l index => Sys2Proof.Machine.execClose l index s
  | .clear l index => Sys2Proof.Machine.execClear l index s
  | .setTiming l index settle turn life => Sys2Proof.Machine.execSetTiming l index settle turn life s
  | .readVolume l index part => Sys2Proof.Machine.execReadVolume l index part s
  | .readVolumeShelfMark l index => Sys2Proof.Machine.execReadVolumeShelfMark l index s
  | .setBudget l index leafCap volumeCap => Sys2Proof.Machine.execSetBudget l index leafCap volumeCap s
  | .reshoot l leaf face => Sys2Proof.Machine.execReshoot l leaf face s
  | .exempt l leaf face reason => Sys2Proof.Machine.execExempt l leaf face reason s
  | .acceptSide l leaf face => Sys2Proof.Machine.execAcceptSide l leaf face s
  | .readLeaf l leaf view => Sys2Proof.Machine.execReadLeaf l leaf view s
  | .readExceptions l n => Sys2Proof.Machine.execReadExceptions l n s
  | .seek l target => Sys2Proof.Machine.execSeek l target s
  | .resync l opening => Sys2Proof.Machine.execResync l opening s
  | .abortOpening l => Sys2Proof.Machine.execAbortOpening l s
  | .park l => Sys2Proof.Machine.execPark l s
  | .wake l => Sys2Proof.Machine.execWake l s
  | .cradleReset l => Sys2Proof.Machine.execCradleReset l s
  | .lampSetWrite l channel present side band eFull gDirect gSpill lMin maxDuration recharge => Sys2Proof.Machine.execLampSetWrite l channel present side band eFull gDirect gSpill lMin maxDuration recharge s
  | .lampSetRead l channel => Sys2Proof.Machine.execLampSetRead l channel s
  | .lampSetStatus l => Sys2Proof.Machine.execLampSetStatus l s
  | .programSetWrite l program mode stop count steps => Sys2Proof.Machine.execProgramSetWrite l program mode stop count steps s
  | .programSetRead l program => Sys2Proof.Machine.execProgramSetRead l program s
  | .doseQuery l program step => Sys2Proof.Machine.execDoseQuery l program step s
  | .drainOpen l slot first count auto => Sys2Proof.Machine.execDrainOpen l slot first count auto s
  | .drainStop l slot => Sys2Proof.Machine.execDrainStop l slot s
  | .slotStatus l slot => Sys2Proof.Machine.execSlotStatus l slot s
  | .release l slot discard => Sys2Proof.Machine.execRelease l slot discard s
  | .claim l => Sys2Proof.Machine.execClaim l s
  | .unclaim l => Sys2Proof.Machine.execUnclaim l s
  | .capture l program => Sys2Proof.Machine.execCapture l program s
  | .cancel l id => Sys2Proof.Machine.execCancel l id s
  | .turnAsk l => Sys2Proof.Machine.execTurnAsk l s
  | .turnBegin l => Sys2Proof.Machine.execTurnBegin l s
  | .turnEnd l count => Sys2Proof.Machine.execTurnEnd l count s
  | .armFault l code => Sys2Proof.Machine.execArmFault l code s
  | .selectFalling l => Sys2Proof.Machine.execSelectFalling l s
  | .selectRising l => Sys2Proof.Machine.execSelectRising l s
  | .frameHeader h w => Sys2Proof.Machine.execFrameHeader h w s
  | .payloadWord h w => Sys2Proof.Machine.execPayloadWord h w s
  | .trailerWord h w => Sys2Proof.Machine.execTrailerWord h w s
  | .commit h => Sys2Proof.Machine.execCommit h s
  | .frameCompleteLimitExpiry h => Sys2Proof.Machine.execFrameCompleteLimitExpiry h s
  | .frameStartLimitExpiry h => Sys2Proof.Machine.execFrameStartLimitExpiry h s
  | .partnerWaitLimitExpiry h => Sys2Proof.Machine.execPartnerWaitLimitExpiry h s
  | .slotWaitLimitExpiry h => Sys2Proof.Machine.execSlotWaitLimitExpiry h s
  | .claimLifetimeExpiry h => Sys2Proof.Machine.execClaimLifetimeExpiry h s
  | .settleExpiry => Sys2Proof.Machine.execSettleExpiry s
  | .turnTimerExpiry => Sys2Proof.Machine.execTurnTimerExpiry s
  | .confirmInput lamp => Sys2Proof.Machine.execConfirmInput lamp s
  | .confirmWindowClose => Sys2Proof.Machine.execConfirmWindowClose s
  | .flashEnd => Sys2Proof.Machine.execFlashEnd s
  | .interFlashGapExpiry => Sys2Proof.Machine.execInterFlashGapExpiry s
  | .rechargeExpiry lamp => Sys2Proof.Machine.execRechargeExpiry lamp s
  | .burstCompletion => Sys2Proof.Machine.execBurstCompletion s
  | .refreshCompletion => Sys2Proof.Machine.execRefreshCompletion s
  | .refreshTimerExpiry => Sys2Proof.Machine.execRefreshTimerExpiry s
  | .drainWordTaken => Sys2Proof.Machine.execDrainWordTaken s
  | .readyFalling => Sys2Proof.Machine.execReadyFalling s
  | .readyRising => Sys2Proof.Machine.execReadyRising s
  | .stallTimerExpiry => Sys2Proof.Machine.execStallTimerExpiry s
  | .byteClocked l b => Sys2Proof.Machine.execByteClocked l b s
  | .huntWord h w => Sys2Proof.Machine.execHuntWord h w s
  | .headerWord h w => Sys2Proof.Machine.execHeaderWord h w s

end Sys2Proof.Machine
end

