-- ==== Sys2Proof/Machine/Tick.lean ====
section
/-! DEFINITION. The idle step: with no command waiting, 1 ms passes for every running timer (log 3). A timer at 0
waits for its expiry command. -/

namespace Sys2Proof.Machine

open Sys2Proof

/-- A timer after `n` units: stopped stays stopped, running stops at 0 left. -/
def after (n : Nat) (t : Option Nat) : Option Nat := t.map (· - n)

def Opening.tick (o : Opening) : Opening :=
  { o with settle := after 1 o.settle, turn := after 1 o.turn }

def Claim.tick (c : Claim) : Claim := { c with life := c.life - 1 }

def Ctx.tick (c : Ctx) : Ctx :=
  { c with
    partnerTimer := after 1 c.partnerTimer, slotTimer := after 1 c.slotTimer, frameTimer := after 1 c.frameTimer }

def Capture.tick (c : Capture) : Capture :=
  { c with
    claims := ⟨c.claims.left.map Claim.tick, c.claims.right.map Claim.tick⟩,
    ctxs := ⟨c.ctxs.left.map Ctx.tick, c.ctxs.right.map Ctx.tick⟩ }

def Lamp.tick (x : Lamp) : Lamp := { x with recharge := after 1 x.recharge }

/-- Flash timer and confirm window run in us. -/
def Flash.tick (f : Flash) : Flash := { f with timer := f.timer - 1000, window := after 1000 f.window }

def Light.tick (x : Light) : Light :=
  { x with lamps := mapBank Lamp.tick x.lamps, flash := x.flash.map Flash.tick, gap := after 1000 x.gap }

def Receiver.tick (r : Receiver) : Receiver := { r with limit := after 1 r.limit }

/-- The refresh timer runs in tenths of a us. -/
def FrameMemory.tick (m : FrameMemory) : FrameMemory :=
  { m with rx := ⟨m.rx.left.tick, m.rx.right.tick⟩, refreshTimer := after 10000 m.refreshTimer }

def ActiveDrain.tick (a : ActiveDrain) : ActiveDrain := { a with stall := after 1 a.stall }

/-- 1 ms passes for every running timer. -/
def State.tick (s : State) : State :=
  { s with
    opening := s.opening.tick, capture := s.capture.tick, light := s.light.tick, memory := s.memory.tick,
    drain := { s.drain with active := s.drain.active.map ActiveDrain.tick } }

end Sys2Proof.Machine
end

