-- ==== Sys2Proof/WellFormed.lean ====
section
/-! DEFINITION. Which commands are well formed: a request command whose frame a link can carry (R184: a body
of at most 58 bytes) and whose operands are those of its own row. Every other command is well formed; its
operands are bounded by their types. -/

namespace Sys2Proof

/-- Well-formedness of a command. -/
def Instr.wellFormed : Instr → Bool
  | .powerOnReset => true
  | .poll _ => true
  | .ident _ => true
  | .portReset _ => true
  -- a frame of another row is taken by that row, and the kind 0xFF is the read marker (log 5)
  | .requestKindUnknown l kind body =>
    decide (body.length ≤ 58) && decide (kind ≠ Config.readMarker) && (parseBody l kind.toNat body).isNone
  -- the body of REGISTER is 18 bytes and the shelf-mark (R195), so a mark of up to 40 bytes
  | .register _ mark _ _ _ _ _ _ => decide (mark.length ≤ 40)
  | .mount _ _ _ => true
  | .suspend _ => true
  | .close _ _ => true
  | .clear _ _ => true
  | .setTiming _ _ _ _ _ => true
  -- selector 1 is the row READ_VOLUME_SHELF_MARK (R195)
  | .readVolume _ _ part => part != some 1
  | .readVolumeShelfMark _ _ => true
  | .setBudget _ _ _ _ => true
  | .reshoot _ _ _ => true
  | .exempt _ _ _ _ => true
  | .acceptSide _ _ _ => true
  | .readLeaf _ _ _ => true
  | .readExceptions _ _ => true
  | .seek _ _ => true
  | .resync _ _ => true
  | .abortOpening _ => true
  | .park _ => true
  | .wake _ => true
  | .cradleReset _ => true
  | .lampSetWrite _ _ _ _ _ _ _ _ _ _ _ => true
  | .lampSetRead _ _ => true
  | .lampSetStatus _ => true
  -- a PROGRAM_SET write carries the steps that its step count asks for (R195)
  | .programSetWrite _ _ _ _ count steps => decide (steps.length = stepsCarried count)
  | .programSetRead _ _ => true
  | .doseQuery _ _ _ => true
  | .drainOpen _ _ _ _ _ => true
  | .drainStop _ _ => true
  | .slotStatus _ _ => true
  | .release _ _ _ => true
  | .claim _ => true
  | .unclaim _ => true
  | .capture _ _ => true
  | .cancel _ _ => true
  | .turnAsk _ => true
  | .turnBegin _ => true
  | .turnEnd _ _ => true
  | .armFault _ _ => true
  | .selectFalling _ => true
  | .selectRising _ => true
  | .frameHeader _ _ => true
  | .payloadWord _ _ => true
  | .trailerWord _ _ => true
  | .commit _ => true
  | .frameCompleteLimitExpiry _ => true
  | .frameStartLimitExpiry _ => true
  | .partnerWaitLimitExpiry _ => true
  | .slotWaitLimitExpiry _ => true
  | .claimLifetimeExpiry _ => true
  | .settleExpiry => true
  | .turnTimerExpiry => true
  | .confirmInput _ => true
  | .confirmWindowClose => true
  | .flashEnd => true
  | .interFlashGapExpiry => true
  | .rechargeExpiry _ => true
  | .burstCompletion => true
  | .refreshCompletion => true
  | .refreshTimerExpiry => true
  | .drainWordTaken => true
  | .readyFalling => true
  | .readyRising => true
  | .stallTimerExpiry => true
  | .byteClocked _ _ => true
  | .huntWord _ _ => true
  | .headerWord _ _ => true

end Sys2Proof
end

