-- ==== Sys2Proof/Safety.lean ====
section
/-! DEFINITION. What claims about the part are stated in: the parts of a state a command keeps, a link that can
take a request and its answer, steps of captures begun, deferred releases evaluated, and the invariants of the state
(bounds of the buffers, the DRAM's canonical form, the opening record and the engine's transfer against the volume
table). -/

namespace Sys2Proof.Machine

open Sys2Proof

/-! ### Frames -/

/-- The parts of a state, one per block of the part. -/
inductive Part where
  | opening | account | capture | light | memory | mem | drain | links | pending
deriving DecidableEq, Repr

/-- Two states agree on a part. -/
abbrev Part.same (s t : State) : Part → Prop
  | .opening => t.opening = s.opening
  | .account => t.account = s.account
  | .capture => t.capture = s.capture
  | .light => t.light = s.light
  | .memory => t.memory = s.memory
  | .mem => t.mem = s.mem
  | .drain => t.drain = s.drain
  | .links => t.links = s.links
  | .pending => t.pending = s.pending

/-- The frame of a command: the parts it keeps. -/
abbrev State.keeps (s t : State) (parts : List Part) : Prop := ∀ p ∈ parts, p.same s t

/-- All links but one agree. -/
abbrev State.keepsOtherLinks (s t : State) (l : LinkId) : Prop := ∀ l', l' ≠ l → t.link l' = s.link l'

/-! ### Requests -/

/-- A link that can take a request: no request held, no answer due, no response waiting (R185). -/
abbrev State.portFree (s : State) (l : LinkId) : Prop :=
  (s.link l).request = none ∧ (s.link l).answerDue = none ∧ (s.link l).response = none ∧
    (s.link l).dropAnswer = false

/-- The state in which the dispatcher has taken a request of a kind from a link (R185): its request buffer is
empty, and the answer due names the kind. -/
def State.taken (s : State) (l : LinkId) (kind : Byte) : State :=
  s.setLink l { s.link l with request := none, answerDue := some kind }

/-- The state with a response placed on a link (R185): the answer due becomes none, the response buffer holds
the response, and nothing else changes. -/
def State.answered (s : State) (l : LinkId) (kind : Byte) (st : Status) (body : List Byte) : State :=
  s.setLink l { s.link l with answerDue := none, response := some { echo := kind, status := st, body := body } }

/-- A link holds the response of a request it has taken; its request buffer is empty, and no answer is due. -/
abbrev State.hasAnswer (t : State) (l : LinkId) (kind : Byte) (st : Status) (body : List Byte) : Prop :=
  (t.link l).response = some { echo := kind, status := st, body := body } ∧ (t.link l).request = none ∧
    (t.link l).answerDue = none

/-- The outgoing frame of an exchange is a response (R183 row 1). -/
def OutFrame.isResponse : OutFrame → Bool
  | .response _ => true
  | .notReady _ => false
  | .notice _ => false
  | .empty => false

/-! ### Steps of captures begun -/

/-- The FREE slots, lowest first (R112). -/
def State.freeSlots (s : State) : List (Fin 8) :=
  (List.finRange 8).filter fun n => decide ((s.slot n).state = .free)

/-- The record of a slot bound to the step of a half's context (R55): OPEN, with its tags. -/
def State.opened (s : State) (h : Half) (c : Ctx) : Slot :=
  { Slot.free with
    state := .open', volume := s.opening.volume, captureId := some c.id, side := some (h, c.leaf),
    step := some c.step }

/-- The step of an unpaired context has begun (R55, R57): with a FREE slot the lowest is bound and the light request
held; without one the context waits at the end of the wait order, with the slot wait limit running (R56). -/
abbrev State.stepBegun (s u : State) (h : Half) (c : Ctx) : Prop :=
  (∀ n rest, s.freeSlots = n :: rest →
    u.ctx h = some { c with slot := some n, state := .waitLight } ∧
    (∀ x, u.slot x = if x = n then s.opened h c else s.slot x) ∧
    u.light = { s.light with held := s.light.held ++ [c.request h] } ∧
    u.capture.waitOrder = s.capture.waitOrder) ∧
  (s.freeSlots = [] →
    u.ctx h = some { c with state := .waitSlot, slotTimer := some 10000 } ∧ (∀ x, u.slot x = s.slot x) ∧
    u.light = s.light ∧ u.capture.waitOrder = s.capture.waitOrder ++ [h])

/-- The step of a pair has begun (R66): the left context binds first and the right one second; with a slot each, one
light request for both is held; while one waits for a slot, one slot wait limit runs for both (R56). -/
abbrev State.pairBegun (s u : State) (a b : Ctx) : Prop :=
  (∀ n rest, s.freeSlots = n :: rest →
    (∀ m rest', rest = m :: rest' →
      u.ctx .left = some { a with slot := some n, state := .waitLight } ∧
      u.ctx .right = some { b with slot := some m, state := .waitLight } ∧
      (∀ x, u.slot x = if x = n then s.opened .left a else if x = m then s.opened .right b else s.slot x) ∧
      u.light =
        { s.light with
          held := s.light.held ++
            [{ served := .pair, leftId := some a.id, rightId := some b.id, step := a.step, mask := a.mask }] } ∧
      u.capture.waitOrder = s.capture.waitOrder) ∧
    (rest = [] →
      u.ctx .left = some { a with slot := some n, state := .waitLight, slotTimer := some 10000 } ∧
      u.ctx .right = some { b with state := .waitSlot, slotTimer := some 10000 } ∧
      (∀ x, u.slot x = if x = n then s.opened .left a else s.slot x) ∧ u.light = s.light ∧
      u.capture.waitOrder = s.capture.waitOrder ++ [.right])) ∧
  (s.freeSlots = [] →
    u.ctx .left = some { a with state := .waitSlot, slotTimer := some 10000 } ∧
    u.ctx .right = some { b with state := .waitSlot, slotTimer := some 10000 } ∧
    (∀ x, u.slot x = s.slot x) ∧ u.light = s.light ∧
    u.capture.waitOrder = s.capture.waitOrder ++ [.left, .right])

/-! ### Deferred releases evaluated -/

/-- The deferred release of slot `i`, with discard flag `d`, has been evaluated (R142, R143): `s` before and `t` after,
`x` the slot as the release finds it, `told r` the state with the notices that go first, the release having ended in
`r`. A slot released is FREE, or offered to a capture that waits (R112). -/
abbrev State.deferredRun (s t : State) (i : Fin 8) (x : Slot) (d : Bool) (told : DrainRelease → State) : Prop :=
  let ends (y : Slot) (u : State) := t.slot i = y ∧ (∀ j, j ≠ i → t.slot j = s.slot j) ∧ t.links = u.links ∧
    s.keeps t [.opening, .account, .capture, .light]
  let dropped (why : Status) := ends { x with deferred := none }
    ((told .dropped).notify .S (.releaseDropped i why d x.sealStatus x.drainedFully))
  let freed := (t.slot i = Slot.free ∨ (t.slot i).state = .open') ∧
    (s.capture.waitOrder = [] → t.slot i = Slot.free ∧ (∀ j, j ≠ i → t.slot j = s.slot j) ∧
      s.keeps t [.capture, .light])
  let frees := freed ∧ t.links = (told .freedDeferred).links ∧ s.keeps t [.opening, .account]
  s.keeps t [.mem, .drain, .pending] ∧ t.memory = { s.memory with slots := t.memory.slots } ∧
  (x.drainedFully = true → frees) ∧
  (x.drainedFully = false →
    (d = false → dropped .undrained) ∧
    (d = true → x.sealStatus ≠ some .good → frees) ∧
    (d = true → x.sealStatus = some .good →
      (s.mounted = none ∨ x.volume ≠ s.mounted → dropped .notMounted) ∧
      (s.mounted ≠ none → x.volume = s.mounted →
        (x.side = none → frees) ∧
        ∀ h j, x.side = some (h, j) →
          (s.side (faceOf h) j = none → frees) ∧
          ∀ r, s.side (faceOf h) j = some r →
            let mine := ∃ m, r.summary = some m ∧ some m.captureId = x.captureId
            (¬mine ∨ (r.state ≠ .captured ∧ r.state ≠ .capturing) → frees) ∧
            (mine → r.state = .capturing → freed ∧ t.links = (told .freedDeferred).links ∧
              t.opening = s.opening ∧ t.account.exceptions = s.account.exceptions ∧
              t.side (faceOf h) j =
                some { r with summary := r.summary.map fun m => { m with discarded := true } }) ∧
            (mine → r.state = .captured → freed ∧
              ((told .freedDeferred).link .S).notices <+: (t.link .S).notices ∧
              t.side (faceOf h) j = some { r with state := .reshoot } ∧
              (s.account.exceptions.length < 64 → t.account.exceptions = s.account.exceptions ++
                [{ kind := .frameDiscarded, side := some (faceOf h, j), opening := s.opening.k,
                   captureId := x.captureId, slot := some i, extra := 0 }])))))

/-! ### Invariants -/

/-- The buffers of a link stay within their depths (R181, R188). -/
abbrev Link.bounded (l : LinkId) (k : Link) : Prop :=
  k.notices.length ≤ noticeDepth l ∧ k.lost ≤ Config.maxByteCount

/-- The words a burst of the drain brings have room in the buffer (R136). -/
abbrev State.drainFits (s : State) : Prop :=
  match s.memory.burst with
  | some (.drain n) => s.drain.buffer.length + n ≤ Config.drainBufferWords
  | _ => s.drain.buffer.length ≤ Config.drainBufferWords

/-- The bounds of the part's buffers and counts: notice queues (R188), the pixel FIFOs (R116), the drain unit's
queue and buffer (R133, R134), the refresh owed count (R127), the DRAM's canonical form (log 6). -/
structure State.Bounded (s : State) : Prop where
  links : ∀ l, (s.link l).bounded l
  fifos : ∀ h, (s.rx h).fifo.length ≤ Config.fifoDepth
  drains : s.drain.queue.length + (if s.drain.active.isSome then 1 else 0) ≤ Config.drainDepth
  buffer : s.drainFits
  owed : s.memory.owed ≤ Config.refreshUrgent
  canonical : Memory.wf s.mem = true

/-- The standby of the cradle and of the frame memory agree (R22, R23, R127, R128): the memory mode is ACTIVE
exactly outside PARKED, the refresh timer is stopped exactly in RETENTION, where the owed count is 0 and no
transfer is in progress. -/
structure State.Powered (s : State) : Prop where
  parked : s.opening.state = .parked ↔ s.memory.mode ≠ .active
  timer : s.memory.refreshTimer = none ↔ s.memory.mode = .retention
  owed : s.memory.mode = .retention → s.memory.owed = 0
  engine : s.memory.mode = .retention → s.memory.engine.state = .idle

/-- An entry the cradle or the engine holds: MOUNTED, SUSPENDING or RESUMING (R149). -/
abbrev VolumeState.held (x : VolumeState) : Prop := x = .mounted ∨ x = .suspending ∨ x = .resuming

/-- The opening record against the volume table (R1, R2, R10, R14, R149): at most one entry MOUNTED, SUSPENDING or
RESUMING; the volume field is the MOUNTED entry; a state other than IDLE and PARKED has a volume; the timers and
the direction belong to their states; k, the seek target and the last openings lie in 0..N; a direction in force
is possible. -/
structure State.Positioned (s : State) : Prop where
  oneHeld : ∀ i j, (s.volume i).state.held → (s.volume j).state.held → i = j
  volume : ∀ i, s.opening.volume = some i ↔ (s.volume i).state = .mounted
  positioned : s.opening.state ≠ .idle → s.opening.state ≠ .parked → s.opening.volume.isSome = true
  parkReturn : s.opening.state = .parked → s.opening.parkReturn = .volume → s.opening.volume.isSome = true
  settle : s.opening.settle.isSome = true ↔ s.opening.state = .settling
  turn : s.opening.turn.isSome = true ↔ s.opening.state = .turning
  direction : s.opening.direction.isSome = true ↔ s.opening.state = .turnable ∨ s.opening.state = .turning
  inRange : s.opening.volume.isSome = true → s.opening.k ≤ s.leaves
  suspending : ∀ i, (s.volume i).state = .suspending → s.opening.k ≤ (s.volume i).n
  seek : ∀ t, s.opening.seek = some t → t ≤ s.leaves
  possible : ∀ d, s.opening.direction = some d → s.turnPossible d = true
  lastOpenings : ∀ i k, (s.volume i).lastOpening = some k → k ≤ (s.volume i).n

/-- The engine moves the image in a slot, in a transfer that was not abandoned (R129 to R131). -/
abbrev Engine.moves (e : Engine) (st : EngineState) (x : Fin 8) : Prop :=
  e.state = st ∧ e.slot = some x ∧ e.abandoned = false

/-- The engine's transfer against the volume table (R129 to R131, R149, R156 to R159): the engine saves the entry that
is SUSPENDING into its save slot and restores the one that is RESUMING from its own; a transfer not abandoned is that
of such an entry; a SUSPENDED entry has a save slot. -/
structure State.Transferring (s : State) : Prop where
  suspending : ∀ i, (s.volume i).state = .suspending →
    ∃ x, (s.volume i).saveSlot = some x ∧ s.memory.engine.moves .saving x
  resuming : ∀ i, (s.volume i).state = .resuming →
    ∃ x, (s.volume i).saveSlot = some x ∧ s.memory.engine.moves .restoring x
  saving : s.memory.engine.state = .saving → s.memory.engine.abandoned = false →
    ∃ i, (s.volume i).state = .suspending
  restoring : s.memory.engine.state = .restoring → s.memory.engine.abandoned = false →
    ∃ i, (s.volume i).state = .resuming
  suspended : ∀ i, (s.volume i).state = .suspended → (s.volume i).saveSlot.isSome = true

/-- The figures of an entry agree with a leaf table (R104, R175): as many leaf entries as leaves, the dose used the sum
of the leaf doses, each side-state count the number of sides in that state. -/
abbrev Volume.agrees (v : Volume) (leaves : List LeafEntry) : Prop :=
  leaves.length = v.n ∧
    v.doseUsed = (leaves.map (·.dose)).sum ∧
    ∀ x, v.counts.get x =
      leaves.countP (fun e => decide (e.recto.state = x)) + leaves.countP (fun e => decide (e.verso.state = x))

/-- The figures of the MOUNTED entry agree with its leaf table (R104, R175). -/
abbrev State.Accounted (s : State) : Prop :=
  ∀ i, s.mounted = some i → (s.volume i).agrees s.account.leaves

/-! ### What the save image can hold (R64, R166, R167, R177, R196) -/

/-- A step of a summary within its fields. -/
abbrev StepSummary.storable (x : StepSummary) : Prop := x.step ≤ 8 ∧ x.level ≤ 255

/-- A summary within its fields. -/
abbrev Summary.storable (x : Summary) : Prop :=
  x.captureId ≤ 65535 ∧ (∀ p, x.program = some p → p ≤ 15) ∧ x.steps.length ≤ 8 ∧ (∀ y ∈ x.steps, y.storable) ∧
    x.dose < 2 ^ 32

/-- A side record within its fields. -/
abbrev SideRec.storable (r : SideRec) : Prop :=
  (∀ n, r.reason = some n → n ≤ 15) ∧ r.captures ≤ 15 ∧ (∀ x, r.summary = some x → x.storable)

/-- An exception record within its fields. -/
abbrev ExcRecord.storable (x : ExcRecord) : Prop :=
  (∀ f j, x.side = some (f, j) → j ≤ 4096) ∧ x.opening ≤ 4096 ∧ (∀ n, x.captureId = some n → 1 ≤ n ∧ n ≤ 65535) ∧
    x.extra ≤ 3

/-- A volume with its leaf table and exception list within their fields: leaves 1..N, counts of 0..8192. -/
structure Storable (v : Volume) (leaves : List LeafEntry) (exceptions : List ExcRecord) : Prop where
  size : leaves.length = v.n ∧ v.n ≤ 4096
  entries : ∀ e ∈ leaves, e.dose < 2 ^ 32 ∧ e.recto.storable ∧ e.verso.storable
  records : exceptions.length ≤ Config.exceptionDepth ∧ ∀ x ∈ exceptions, x.storable
  counts : ∀ x, v.counts.get x ≤ 8192
  lost : v.excLost ≤ Config.maxExceptionCount

end Sys2Proof.Machine
end

