-- ==== Sys2Proof/Certificates/Slice0/Obligations.lean ====
section
/-! DEFINITION. The statements for the provers: what the commands of the part do, by the spec's rules. -/

open Sys2Proof Sys2Proof.Machine

/-! ## The machine and its resets -/

/-- A step runs the command at the front of the queue (the model's choice, log 1). With none waiting, 1 ms passes for
every running timer: those of the opening and the claims, the captures' limits, the recharge timers, the gap, the
flash timer and its confirm window, the frame complete limits, the refresh timer and the stall timer. Nothing else
changes (the model's choice, log 3). -/
def Obligations.StepRunsFront : Prop :=
  (∀ (c : Instr) (s : State), step { s with pending := c :: s.pending } = exec c s) ∧
    ∀ s : State, s.pending = [] →
      let after (n : Nat) (x : Option Nat) : Option Nat := x.map (· - n)
      ∃ t, step s = .next t ∧
        t.opening = { s.opening with settle := after 1 s.opening.settle, turn := after 1 s.opening.turn } ∧
        (∀ h, t.claimOf h = (s.claimOf h).map fun c => { c with life := c.life - 1 }) ∧
        (∀ h, t.ctx h = (s.ctx h).map fun c =>
          { c with
            partnerTimer := after 1 c.partnerTimer, slotTimer := after 1 c.slotTimer,
            frameTimer := after 1 c.frameTimer }) ∧
        t.capture = { s.capture with claims := t.capture.claims, ctxs := t.capture.ctxs } ∧
        (∀ n, t.lamp n = { s.lamp n with recharge := after 1 (s.lamp n).recharge }) ∧
        t.light =
          { s.light with
            lamps := t.light.lamps, gap := after 1000 s.light.gap,
            flash := s.light.flash.map fun f => { f with timer := f.timer - 1000, window := after 1000 f.window } } ∧
        (∀ h, t.rx h = { s.rx h with limit := after 1 (s.rx h).limit }) ∧
        t.memory = { s.memory with rx := t.memory.rx, refreshTimer := after 10000 s.memory.refreshTimer } ∧
        t.drain =
          { s.drain with active := s.drain.active.map fun a => { a with stall := after 1 a.stall } } ∧
        s.keeps t [.account, .mem, .links, .pending]

/-- No command stops the part: every command, in every state, answers a next state and leaves the commands that
wait as they are. -/
def Obligations.CommandsComplete : Prop :=
  ∀ (c : Instr) (s : State), ∃ t, exec c s = .next t ∧ t.pending = s.pending

/-- R25: power-on reset sets every field of the opening record, releases the cradle fault line, and queues no
notice and evaluates nothing; a port reset on any link leaves the opening record unchanged. -/
def Obligations.PowerOnOpening : Prop :=
  (∀ s : State, ∃ t, exec .powerOnReset s = .next t ∧
    t.opening =
      { volume := none, k := 0, state := .idle, seek := none, settle := none, turn := none, direction := none,
        cause := none, armCode := 0, parkReturn := .nothing } ∧
    t.faultLine = false ∧ ∀ l, (t.link l).notices = []) ∧
  ∀ (l : LinkId) (s : State), ∃ t, exec (.portReset l) s = .next t ∧ t.opening = s.opening

/-- The values of every other block after power-on reset (R44, R71, R78, R81, R110, R116, R127 to R129, R133, R148,
R180, R181); the level of the ready input and the commands that wait stay (the model's choices, logs 1 and 7). -/
def Obligations.PowerOnBlocks : Prop :=
  ∀ s : State, ∃ t, exec .powerOnReset s = .next t ∧
    (∀ i, t.volume i =
      { state := .empty, mark := [], n := 0, leafCap := 0, volumeCap := 0, doseUsed := 0, settle := 0, turn := 0,
        life := 0, counts := ⟨0, 0, 0, 0, 0, 0, 0⟩, excCount := 0, excLost := 0, lastOpening := none,
        saveSlot := none }) ∧
    t.account.leaves = [] ∧ t.account.exceptions = [] ∧
    (∀ i, t.lamp i =
      { entry :=
          { present := false, side := .left, band := 0, eFull := 1, gDirect := 0, gSpill := 0, lMin := 1,
            maxDuration := 100, recharge := 1 },
        state := .absent, recharge := none }) ∧
    (∀ i, t.program i = { mode := .unpaired, stop := .never, steps := [] }) ∧
    (t.light.held = [] ∧ t.light.grant = none ∧ t.light.flash = none ∧ t.light.gap = none ∧
      t.light.lastServed = .left ∧ t.light.lastFlash = none) ∧
    t.capture = { claims := ⟨none, none⟩, ctxs := ⟨none, none⟩, idCounter := 0, waitOrder := [] } ∧
    (∀ i, t.slot i =
      { state := .free, volume := none, captureId := none, side := none, step := none, size := none, camera := none,
        words := 0, crcComputed := none, crcReceived := none, sealStatus := none, committed := false,
        drainedFully := false, deferred := none, image := none }) ∧
    (∀ h, (t.rx h).state = .hunt ∧ (t.rx h).fifo = [] ∧ (t.rx h).header = [] ∧ (t.rx h).crc = none ∧
      (t.rx h).taken = 0 ∧ (t.rx h).due = 0 ∧ (t.rx h).limit = none ∧ (t.rx h).refusedCount = 0 ∧
      (t.rx h).lastRefusal = none ∧ (t.rx h).cancelMark = false) ∧
    (t.memory.burst = none ∧ t.memory.owed = 0 ∧ t.memory.refreshTimer = some 78 ∧ t.memory.mode = .active ∧
      t.memory.engine.state = .idle ∧ t.memory.engine.slot = none) ∧
    t.drain = { queue := [], active := none, buffer := [], readyIn := s.drain.readyIn } ∧
    (∀ l, t.link l =
      { exchange := none, request := none, answerDue := none, dropAnswer := false, response := none, notices := [],
        lost := 0, overrun := false, cut := false, malformed := false, shortRead := false, noticeLost := false }) ∧
    t.pending = s.pending

/-- The invariants hold after power-on reset. -/
def Obligations.ResetInvariants : Prop :=
  State.reset.Bounded ∧ State.reset.Powered ∧ State.reset.Positioned

/-! ## The control links -/

/-- SELECT_FALLING (R183): the first row of the table that holds gives the outgoing frame. With an exchange in
progress select is low and cannot fall: nothing changes (log 4). -/
def Obligations.SelectFalling : Prop :=
  ∀ (l : LinkId) (s : State),
    (∀ e, (s.link l).exchange = some e → exec (.selectFalling l) s = .next s) ∧
    ((s.link l).exchange = none → ∃ o,
      exec (.selectFalling l) s = .next
        (s.setLink l
          { s.link l with exchange := some { incoming := [], out := o, live := true, flags := none } }) ∧
      (∀ r, (s.link l).response = some r → o = .response r) ∧
      ((s.link l).response = none →
        (∀ f, (s.link l).request = some f → o = .notReady f.kind) ∧
        ((s.link l).request = none →
          (∀ kind, (s.link l).answerDue = some kind → o = .notReady kind) ∧
          ((s.link l).answerDue = none →
            (∀ n rest, (s.link l).notices = n :: rest → o = .notice n) ∧
            ((s.link l).notices = [] → o = .empty)))))

/-- BYTE_CLOCKED (R182, R183, R187): the incoming frame grows; the port flags byte is formed after the second byte
and shows the flags, and with the third byte the flags shown are cleared (when it is formed and reported: log 21);
with the frame's last byte a response is consumed and a notice leaves its queue. Without an exchange nothing changes
(log 4). -/
def Obligations.ByteClocked : Prop :=
  ∀ (l : LinkId) (b : Byte) (s : State),
    ((s.link l).exchange = none → exec (.byteClocked l b) s = .next s) ∧
    ∀ e, (s.link l).exchange = some e →
      let k := s.link l
      let n := e.incoming.length + 1
      let x := k.portFlags e s.faultLine
      let shown (i : Nat) : Bool := decide (n = 3) && (e.flags.getD 0).getLsbD i
      (∃ k', exec (.byteClocked l b) s = .next (s.setLink l k') ∧
        k'.exchange = some
          { incoming := e.incoming ++ [b], out := e.out, live := e.live && decide (n ≠ e.out.length),
            flags := if n = 2 then some x else e.flags } ∧
        k'.request = k.request ∧ k'.answerDue = k.answerDue ∧ k'.dropAnswer = k.dropAnswer ∧ k'.lost = k.lost ∧
        (∀ r, e.out = .response r →
          k'.response = (if e.live = true ∧ n = 4 + r.body.length then none else k.response) ∧
            k'.notices = k.notices) ∧
        (∀ m, e.out = .notice m →
          k'.notices = (if e.live = true ∧ n = 4 + m.body.length then k.notices.drop 1 else k.notices) ∧
            k'.response = k.response) ∧
        (∀ kind, e.out = .notReady kind → k'.response = k.response ∧ k'.notices = k.notices) ∧
        (e.out = .empty → k'.response = k.response ∧ k'.notices = k.notices) ∧
        k'.overrun = (k.overrun && !shown 0) ∧ k'.cut = (k.cut && !shown 1) ∧
        k'.malformed = (k.malformed && !shown 2) ∧ k'.shortRead = (k.shortRead && !shown 3) ∧
        k'.noticeLost = (k.noticeLost && !shown 4)) ∧
      (x.getLsbD 0 = k.overrun ∧ x.getLsbD 1 = k.cut ∧ x.getLsbD 2 = k.malformed ∧ x.getLsbD 3 = k.shortRead ∧
        x.getLsbD 4 = k.noticeLost ∧ x.getLsbD 5 = s.faultLine ∧ x.getLsbD 6 = k.more e ∧ x.getLsbD 7 = false)

/-- SELECT_RISING (R182 to R185): a response cut short is lost with SHORT_READ, then the incoming bytes are judged
by the first row of R184 that holds. A frame is only put into the request buffer; the command that takes it is its
request (the model's choice, log 2). Without an exchange nothing changes (log 4). -/
def Obligations.SelectRising : Prop :=
  ∀ (l : LinkId) (s : State),
    ((s.link l).exchange = none → exec (.selectRising l) s = .next s) ∧
    ∀ e, (s.link l).exchange = some e →
      let k := s.link l
      let lost : Bool := e.live && e.out.isResponse
      let k2 : Link :=
        { k with
          exchange := none, response := if lost then none else k.response, shortRead := k.shortRead || lost }
      (e.incoming = [] → exec (.selectRising l) s = .next (s.setLink l { k with exchange := none })) ∧
      ∀ kind rest, e.incoming = kind :: rest →
        (kind = 0xFF → exec (.selectRising l) s = .next (s.setLink l k2)) ∧
        (kind ≠ 0xFF →
          (rest = [] → exec (.selectRising l) s = .next (s.setLink l { k2 with cut := true })) ∧
          ∀ len body, rest = len :: body →
            (body.length < len.toNat →
              exec (.selectRising l) s = .next (s.setLink l { k2 with cut := true })) ∧
            (len.toNat ≤ body.length →
              (58 < len.toNat ∨ len.toNat < body.length →
                exec (.selectRising l) s = .next (s.setLink l { k2 with malformed := true })) ∧
              (len.toNat ≤ 58 → body.length = len.toNat →
                (kind = 0x02 → body = [] →
                  exec (.selectRising l) s = exec (.portReset l) (s.setLink l k2)) ∧
                (¬(kind = 0x02 ∧ body = []) →
                  (k.request = none →
                    exec (.selectRising l) s =
                      .next (s.setLink l { k2 with request := some { kind := kind, body := body } })) ∧
                  (k.request ≠ none →
                    exec (.selectRising l) s = .next (s.setLink l { k2 with overrun := true }))))))

/-- PORT_RESET (R191): buffers, queue, flags and count of the link cleared, and the response placed; with an
answer due, the answer is marked to be dropped, and the response is placed after that drop. The exchange that
carried it has ended (the model's choice, log 22). -/
def Obligations.PortReset : Prop :=
  ∀ (l : LinkId) (s : State),
    let status : Response :=
      { echo := 0x02, status := .ok, body := [b1 (roleCode l), 0, 0, flag s.faultLine] }
    let cleared : Link :=
      { exchange := none, request := none, answerDue := (s.link l).answerDue,
        dropAnswer := (s.link l).answerDue.isSome, response := none, notices := [], lost := 0, overrun := false,
        cut := false, malformed := false, shortRead := false, noticeLost := false }
    ((s.link l).answerDue = none →
      exec (.portReset l) s = .next (s.setLink l { cleared with response := some status })) ∧
    (∀ kind, (s.link l).answerDue = some kind →
      exec (.portReset l) s = .next (s.setLink l cleared) ∧
      ∀ r, (s.setLink l cleared).placeResponse l r =
        s.setLink l { cleared with answerDue := none, dropAnswer := false, response := some status })

/-- The requests that read and change nothing (R74, R80, R114, R150, R174, R190, R195): the response holds what the
owning block shows, a number or part selector outside the range is refused RANGE, and nothing else changes. The
bodies of LAMP_SET read and PROGRAM_SET read follow the layouts of R196 and leave out the light status that R74 gives
every such response (log 9); the light status of the status form holds no band code (log 44); a field that is none
and has no code for none shows a free value (log 8); what CLAMPED in a LAMP_SET read and the flag bits that no layout
names show is the model's choice too (logs 39, 40). -/
def Obligations.ReadRequests : Prop :=
  (∀ (l : LinkId) (s : State), s.portFree l →
    exec (.poll l) s = .next
      (s.answered l 0x00 .ok
        [b1 (roleCode l), b1 (s.link l).notices.length, b1 (s.link l).lost, flag s.faultLine]) ∧
    exec (.ident l) s = .next
      (s.answered l 0x01 .ok [0x0D, 0x7A, 0x73, 0x20, 1, 8, 8, 0x10, 0x00, 16, b1 (roleCode l)])) ∧
  ∀ s : State, s.portFree .S →
    (∀ (index : Byte) (part : Option Byte),
      (∀ i : Fin 16, index.toNat = i.val → part = none ∨ part = some 0 →
        exec (.readVolume .S index part) s = .next (s.answered .S 0x17 .ok (s.volumeStatus i))) ∧
      (∀ p, part = some p → 2 ≤ p.toNat →
        exec (.readVolume .S index part) s = .next (s.answered .S 0x17 .range [])) ∧
      (16 ≤ index.toNat → part ≠ some 1 →
        exec (.readVolume .S index part) s = .next (s.answered .S 0x17 .range []))) ∧
    (∀ index : Byte,
      (∀ i : Fin 16, index.toNat = i.val →
        exec (.readVolumeShelfMark .S index) s = .next
          (s.answered .S 0x17 .ok
            ([index, b1 (s.volume i).state.code, b1 (s.volume i).mark.length] ++ (s.volume i).mark))) ∧
      (16 ≤ index.toNat → exec (.readVolumeShelfMark .S index) s = .next (s.answered .S 0x17 .range []))) ∧
    (∀ slot : Byte,
      (∀ i : Fin 8, slot.toNat = i.val →
        exec (.slotStatus .S slot) s = .next (s.answered .S 0x53 .ok (s.slotStatusBody i))) ∧
      (8 ≤ slot.toNat → exec (.slotStatus .S slot) s = .next (s.answered .S 0x53 .range []))) ∧
    (∀ channel : Byte,
      (∀ i : Fin 8, channel.toNat = i.val →
        exec (.lampSetRead .S channel) s = .next (s.answered .S 0x40 .ok (s.lampBody i false))) ∧
      (8 ≤ channel.toNat → exec (.lampSetRead .S channel) s = .next (s.answered .S 0x40 .range []))) ∧
    exec (.lampSetStatus .S) s = .next (s.answered .S 0x40 .ok s.lightStatus) ∧
    (∀ program : Byte,
      (∀ i : Fin 16, program.toNat = i.val →
        exec (.programSetRead .S program) s = .next (s.answered .S 0x41 .ok (s.programBody i))) ∧
      (16 ≤ program.toNat → exec (.programSetRead .S program) s = .next (s.answered .S 0x41 .range []))) ∧
    (∀ (leaf : Word) (view : Byte),
      (s.mounted = none → exec (.readLeaf .S leaf view) s = .next (s.answered .S 0x23 .noVolume [])) ∧
      (s.mounted ≠ none →
        (leafAt s.account.leaves leaf.toNat = none ∨ 2 < view.toNat →
          exec (.readLeaf .S leaf view) s = .next (s.answered .S 0x23 .range [])) ∧
        ∀ e, leafAt s.account.leaves leaf.toNat = some e →
          (view = 0 →
            exec (.readLeaf .S leaf view) s = .next (s.answered .S 0x23 .ok (s.leafView leaf.toNat e))) ∧
          (view = 1 →
            exec (.readLeaf .S leaf view) s =
              .next (s.answered .S 0x23 .ok (be 2 leaf.toNat ++ [1] ++ e.recto.bytes))) ∧
          (view = 2 →
            exec (.readLeaf .S leaf view) s =
              .next (s.answered .S 0x23 .ok (be 2 leaf.toNat ++ [0] ++ e.verso.bytes)))))

/-- The dispatcher's refusals (R186): a kind that is no request kind is MALFORMED; a kind of another role is ROLE; a
body length the kind does not accept is MALFORMED; a refused request changes nothing else. A refused arm request
carries the arm view (R26); a refused SEEK, RESYNC, ABORT_OPENING, PARK, WAKE or CRADLE_RESET carries the opening
status (R3, read for the dispatcher's refusals too, log 32); every other refusal is empty (log 10). A request waits
in the buffer while a response waits or an answer is due, one that meets another request there is discarded with
OVERRUN, and one that waits there is taken as if it had come just then (R185; what a request command is, the model's
choice, log 2). -/
def Obligations.RequestChecks : Prop :=
  let refusal (s : State) (kind : Byte) : List Byte :=
    if 0x70 ≤ kind.toNat ∧ kind.toNat ≤ 0x73 then s.armView
    else if 0x30 ≤ kind.toNat ∧ kind.toNat ≤ 0x35 then s.openingStatus else []
  (∀ (l : LinkId) (kind : Byte) (body : List Byte) (s : State),
    (Instr.requestKindUnknown l kind body).wellFormed = true → s.portFree l →
    (roleOf kind = none → exec (.requestKindUnknown l kind body) s = .next (s.answered l kind .malformed [])) ∧
    ∀ r, roleOf kind = some r →
      exec (.requestKindUnknown l kind body) s = .next
        (s.answered l kind (if roleAllows r l then .malformed else .role) (refusal s kind))) ∧
  (∀ (c : Instr) (l : LinkId) (f : Frame) (r : Role) (s : State),
    c.wellFormed = true → frameOf c = some (l, f) → roleOf f.kind = some r → roleAllows r l = false →
    s.portFree l → exec c s = .next (s.answered l f.kind .role (refusal s f.kind))) ∧
  (∀ (c : Instr) (l : LinkId) (f : Frame) (s : State),
    c.wellFormed = true → frameOf c = some (l, f) → (∀ l', c ≠ .portReset l') →
    ((s.link l).response ≠ none ∨ (s.link l).answerDue ≠ none →
      (s.link l).request = none ∨ (s.link l).request = some f →
      exec c s = .next (s.setLink l { s.link l with request := some f })) ∧
    (∀ g, (s.link l).request = some g → g ≠ f →
      exec c s = .next (s.setLink l { s.link l with overrun := true }))) ∧
  ∀ (c : Instr) (l : LinkId) (f : Frame) (s : State),
    c.wellFormed = true → frameOf c = some (l, f) → (s.link l).request = some f → (s.link l).response = none →
    (s.link l).answerDue = none → exec c s = exec c (s.setLink l { s.link l with request := none })

/-! ## The opening -/

/-- An evaluation event (R5 to R10): in a settled state the opening takes the state of the first row of R7 that
holds, the direction of R10, and queues TURN_READY and VOLUME_END at the entries of R9; in any other state nothing
happens. -/
def Obligations.EvaluationEvent : Prop :=
  ∀ s : State,
    (s.opening.state.settled = false → s.evaluate = s) ∧
    (s.opening.state.settled = true →
      let t := s.evaluate
      let dir := s.turnDirection
      let flying := s.ctx .left ≠ none ∨ s.ctx .right ≠ none
      let claimed := s.claimOf .left ≠ none ∨ s.claimOf .right ≠ none
      let done := ∀ h j, s.presentLeaf h = some j →
        ∃ r, s.side (faceOf h) j = some r ∧ (r.state = .captured ∨ r.state = .exempt)
      let seeking := ∃ x, s.opening.seek = some x ∧ x ≠ s.opening.k
      let turnable := ¬claimed ∧ (done ∨ seeking) ∧ s.turnPossible dir = true
      let finished := s.opening.k = s.leaves ∧ s.opening.seek = none ∧ done
      (flying → t.opening.state = .exposing) ∧
      (¬flying → turnable → t.opening.state = .turnable) ∧
      (¬flying → ¬turnable → finished → t.opening.state = .finished) ∧
      (¬flying → ¬turnable → ¬finished → t.opening.state = .ready) ∧
      t.opening =
        { s.opening with
          state := t.opening.state, direction := if t.opening.state = .turnable then some dir else none } ∧
      (t.opening.state = .turnable → s.opening.state ≠ .turnable ∨ s.opening.direction ≠ some dir →
        t.links = (s.notify .A (.turnReady dir s.opening.k s.opening.volume)).links) ∧
      (t.opening.state = .finished → s.opening.state ≠ .finished →
        t.links = (s.notify .S (.volumeEnd s.opening.volume s.leaves)).links) ∧
      ((t.opening.state = .turnable → s.opening.state = .turnable ∧ s.opening.direction = some dir) →
        (t.opening.state = .finished → s.opening.state = .finished) → t.links = s.links) ∧
      s.keeps t [.account, .capture, .light, .memory, .mem, .drain, .pending])

/-- SEEK (R13) in every opening state: refused, out of range, or the target cleared or replaced; a change of the
target is an evaluation event; k and every other block stay. -/
def Obligations.Seek : Prop :=
  ∀ (target : Word) (s : State), s.portFree .S →
    let x := if target.toNat = s.opening.k then none else some target.toNat
    let sought := ((s.taken .S 0x30).setOpening { s.opening with seek := x }).evaluate
    (s.opening.state = .idle →
      exec (.seek .S target) s = .next (s.answered .S 0x30 .noVolume s.openingStatus)) ∧
    (s.opening.state = .parked →
      exec (.seek .S target) s = .next (s.answered .S 0x30 .state s.openingStatus)) ∧
    (s.opening.state = .fault →
      exec (.seek .S target) s = .next (s.answered .S 0x30 .fault s.openingStatus)) ∧
    (s.opening.state ≠ .idle → s.opening.state ≠ .parked → s.opening.state ≠ .fault →
      (s.leaves < target.toNat →
        exec (.seek .S target) s = .next (s.answered .S 0x30 .range s.openingStatus)) ∧
      (target.toNat ≤ s.leaves →
        (x = s.opening.seek →
          exec (.seek .S target) s = .next (s.answered .S 0x30 .ok s.openingStatus)) ∧
        (x ≠ s.opening.seek →
          exec (.seek .S target) s = .next (sought.answered .S 0x30 .ok sought.openingStatus) ∧
          sought.opening.seek = x ∧ sought.opening.k = s.opening.k ∧
          s.keeps sought [.account, .capture, .light, .memory, .mem, .drain, .pending])))

/-- RESYNC (R20): in FAULT without a capture in flight, and in IDLE under a MOUNTED entry, k takes a number of
0..N, the seek target is cleared and the opening enters SETTLING; a settle time of 0 evaluates it at once (R11). -/
def Obligations.Resync : Prop :=
  ∀ (n : Word) (s : State), s.portFree .S →
    let moved : Opening := { s.opening with k := n.toNat, seek := none, state := .settling, direction := none }
    (s.opening.state = .fault → s.inFlight = true →
      exec (.resync .S n) s = .next (s.answered .S 0x31 .busy s.openingStatus)) ∧
    (s.opening.state = .idle → s.mounted = none →
      exec (.resync .S n) s = .next (s.answered .S 0x31 .noVolume s.openingStatus)) ∧
    (s.opening.state ≠ .fault → s.opening.state ≠ .idle →
      exec (.resync .S n) s = .next (s.answered .S 0x31 .state s.openingStatus)) ∧
    ((s.opening.state = .fault ∧ s.inFlight = false) ∨ (s.opening.state = .idle ∧ s.mounted ≠ none) →
      (s.leaves < n.toNat →
        exec (.resync .S n) s = .next (s.answered .S 0x31 .range s.openingStatus)) ∧
      (n.toNat ≤ s.leaves →
        (s.settleTime ≠ 0 →
          let t := s.setOpening { moved with settle := some s.settleTime }
          exec (.resync .S n) s = .next (t.answered .S 0x31 .ok t.openingStatus) ∧ t.faultLine = false) ∧
        (s.settleTime = 0 →
          let t := ((s.taken .S 0x31).setOpening { moved with settle := none }).takeEvaluated
          exec (.resync .S n) s = .next (t.answered .S 0x31 .ok t.openingStatus) ∧ t.faultLine = false ∧
            s.keeps t [.account, .capture, .light, .memory, .mem, .drain, .pending])))

/-- ABORT_OPENING (R21, R68, R123): refused in IDLE and PARKED, acknowledged in TURNING and FAULT; in the other states
every claim is released without a notice, its side back in its prior state, and every capture that waits, or awaits its
frame, ends CANCELLED at once: its side is back in its prior state with a CANCELLED summary, its slot is FREE again, and
CAPTURE_DONE is queued on its half's link. One in FIRING or RECEIVING is ordered to end CANCELLED, unless an end is
pending, with the cancel mark handed to the receiver of a frame that has not sealed; both ends are ordered before either
takes place (log 24). k and the seek target stay. Without a capture in flight the outcome is given whole. -/
def Obligations.AbortOpening : Prop :=
  ∀ s : State, s.portFree .S →
    (s.opening.state = .idle →
      exec (.abortOpening .S) s = .next (s.answered .S 0x32 .noVolume s.openingStatus)) ∧
    (s.opening.state = .parked →
      exec (.abortOpening .S) s = .next (s.answered .S 0x32 .state s.openingStatus)) ∧
    (s.opening.state = .turning ∨ s.opening.state = .fault →
      exec (.abortOpening .S) s = .next (s.answered .S 0x32 .ok s.openingStatus)) ∧
    (s.opening.state ≠ .idle → s.opening.state ≠ .parked → s.opening.state ≠ .turning → s.opening.state ≠ .fault →
      let orderly := ∀ h ∈ s.capture.waitOrder, ∀ c, s.ctx h = some c → c.state = .waitSlot
      (∃ t body, exec (.abortOpening .S) s = .next t ∧ t.hasAnswer .S 0x32 .ok body ∧
        (orderly → body = t.openingStatus) ∧
        (∀ h, t.claimOf h = none) ∧
        (∀ h c, s.ctx h = some c → c.state ≠ .firing → c.state ≠ .receiving →
          t.ctx h = none ∧
          (c.order ≠ some .aborted →
            t.link (cameraLink h) = (s.notify (cameraLink h)
              (.captureDone c.id h c.leaf .cancelled c.results.length (c.results.any (·.dimmed)) none)).link
                (cameraLink h) ∧
            ∀ r, s.side (faceOf h) c.leaf = some r → (∀ x, s.claimOf h = some x → x.leaf ≠ c.leaf) →
              ∃ r', t.side (faceOf h) c.leaf = some r' ∧ r'.state = c.prior.toSide ∧ r'.owner = none ∧
                r'.prior = none ∧ r'.summary.map (·.captureId) = some c.id ∧
                r'.summary.map (·.outcome) = some .cancelled) ∧
          (orderly → s.capture.waitOrder.Nodup → ∀ i, c.slot = some i → (s.slot i).state = .open' →
            t.slot i = Slot.free)) ∧
        (∀ h x r, s.claimOf h = some x → s.side (faceOf h) x.leaf = some r → s.ctx h = none →
          t.side (faceOf h) x.leaf = some { r with state := x.prior.toSide, owner := none, prior := none }) ∧
        (orderly → ∀ h,
          let marked := ∃ c, s.ctx h = some c ∧ c.state = .receiving ∧ c.report = none ∧ c.order = none
          (marked → t.rx h = { s.rx h with cancelMark := true }) ∧ (¬marked → t.rx h = s.rx h) ∧
          ∀ c, s.ctx h = some c → c.state = .firing ∨ c.state = .receiving →
            let partnerEnds := ∃ d, s.ctx (otherHalf h) = some d ∧ d.linked = true ∧ d.state ≠ .firing ∧
              d.state ≠ .receiving
            let ordered : Ctx := { c with order := c.order.or (some .cancelled) }
            (¬partnerEnds → t.ctx h = some ordered) ∧
            (partnerEnds → t.ctx h = some
              { ordered with linked := false, cause := c.cause.or (some .partnerEnded) })) ∧
        t.opening.k = s.opening.k ∧ t.opening.seek = s.opening.seek ∧ t.opening.volume = s.opening.volume ∧
        s.keeps t [.mem, .drain, .pending]) ∧
      (s.ctx .left = none → s.ctx .right = none →
        let t := ((s.taken .S 0x32).endClaims false).evaluate
        exec (.abortOpening .S) s = .next (t.answered .S 0x32 .ok t.openingStatus)))

/-- PARK (R22, R50, R77, R128): acknowledged in PARKED; refused in FAULT and TURNING, with a capture in flight or
with the drain unit not idle; otherwise the claims are lost with their notices, the opening enters PARKED, the
lamps are discharged and the memory enters retention, or ENTERING while a transfer runs. -/
def Obligations.Park : Prop :=
  ∀ s : State, s.portFree .S →
    (s.opening.state = .parked → exec (.park .S) s = .next (s.answered .S 0x33 .ok s.openingStatus)) ∧
    (s.opening.state = .fault → exec (.park .S) s = .next (s.answered .S 0x33 .fault s.openingStatus)) ∧
    (s.opening.state = .turning → exec (.park .S) s = .next (s.answered .S 0x33 .busy s.openingStatus)) ∧
    (s.opening.state ≠ .parked → s.opening.state ≠ .fault → s.opening.state ≠ .turning →
      (s.inFlight = true ∨ s.drainIdle = false →
        exec (.park .S) s = .next (s.answered .S 0x33 .busy s.openingStatus)) ∧
      (s.inFlight = false → s.drainIdle = true →
        ∃ t, exec (.park .S) s = .next t ∧ t.hasAnswer .S 0x33 .ok t.openingStatus ∧
          t.opening =
            { s.opening with
              state := .parked, settle := none, direction := none,
              parkReturn := if s.opening.state = .idle then .nothing else .volume } ∧
          t.account = (s.endClaims true).account ∧ t.capture = (s.endClaims true).capture ∧
          (∀ h, t.claimOf h = none) ∧
          (∀ l, (t.link l).notices = ((s.endClaims true).link l).notices) ∧
          (∀ i, t.lamp i =
            if (s.lamp i).state = .charging ∨ (s.lamp i).state = .charged ∨ (s.lamp i).state = .faulted then
              { s.lamp i with state := .discharged, recharge := none }
            else s.lamp i) ∧
          t.light = { s.light with lamps := t.light.lamps } ∧
          t.memory =
            (if s.memory.engine.state = .idle then
              { s.memory with mode := .retention, refreshTimer := none, owed := 0 }
             else { s.memory with mode := .entering }) ∧
          s.keeps t [.mem, .drain, .pending]))

/-- WAKE (R23, R77, R128, R135): refused outside PARKED; otherwise the opening enters SETTLING or IDLE by its park
return, every discharged lamp recharges in full, the memory becomes ACTIVE with its refresh timer restarted and its
owed count 0 (from ENTERING too, log 17), and the head of the drain queue becomes active. -/
def Obligations.Wake : Prop :=
  ∀ s : State, s.portFree .S →
    (s.opening.state ≠ .parked → exec (.wake .S) s = .next (s.answered .S 0x34 .state s.openingStatus)) ∧
    (s.opening.state = .parked →
      let woken : Opening := { s.opening with parkReturn := .nothing, direction := none }
      ∃ t, exec (.wake .S) s = .next t ∧ t.hasAnswer .S 0x34 .ok t.openingStatus ∧
        (s.opening.parkReturn = .nothing → t.opening = { woken with state := .idle }) ∧
        (s.opening.parkReturn = .volume →
          (s.settleTime ≠ 0 →
            t.opening = { woken with state := .settling, settle := some s.settleTime }) ∧
          (s.settleTime = 0 →
            t.opening = (s.setOpening { woken with state := .settling, settle := none }).takeEvaluated.opening)) ∧
        (∀ i, t.lamp i =
          if (s.lamp i).state = .discharged then
            { s.lamp i with state := .charging, recharge := some (s.lamp i).entry.recharge }
          else s.lamp i) ∧
        t.light = { s.light with lamps := t.light.lamps } ∧
        (t.memory.mode = .active ∧ t.memory.refreshTimer = some 78 ∧ t.memory.owed = 0) ∧
        (s.drain.active ≠ none ∨ s.drain.queue = [] → t.drain = s.drain) ∧
        (∀ j rest, s.drain.active = none → s.drain.queue = j :: rest →
          t.drain.queue = rest ∧ (t.slot j.slot).state = .draining ∧
            t.drain.active = some
              { job := j, sent := 0, left := j.count, next := j.first, unread := j.count,
                stall := if s.drain.readyIn then none else some 100, ordered := none }) ∧
        (s.opening.parkReturn = .nothing ∨ s.settleTime ≠ 0 → s.keepsOtherLinks t .S) ∧
        s.keeps t [.account, .capture, .mem, .pending])

/-- CRADLE_RESET (R24, R131, R146, R163, R189): answered OK in every opening state. PARKED stays, IDLE without a
MOUNTED entry stays, every other case enters FAULT with cause RESET and queues its notice on the emptied queues, both
halves' ends ordered before either takes place (log 24). A save abandoned leaves its entry MOUNTED and its slot FREE,
a restore abandoned its entry SUSPENDED and its slot SAVE with the image; the engine returns to IDLE, with no words
left (log 34), and ENTERING becomes RETENTION, at once or, with a burst of the transfer in progress, at that burst's
completion (log 20). The drain queue and the deferred releases are gone, and so is the active drain with no burst of
it in progress; with one, RESET is the end it is ordered to (log 18). -/
def Obligations.CradleReset : Prop :=
  ∀ s : State, s.portFree .S →
    let faulted := s.opening.state ≠ .parked ∧ (s.opening.state = .idle → s.mounted ≠ none)
    let transferring := ∃ n x, s.memory.burst = some (.engine n x)
    ∃ t, exec (.cradleReset .S) s = .next t ∧ t.hasAnswer .S 0x35 .ok t.openingStatus ∧
      (t.opening.k = s.opening.k ∧ t.opening.seek = s.opening.seek ∧ t.opening.armCode = s.opening.armCode) ∧
      (¬faulted → t.opening = { s.opening with volume := t.opening.volume }) ∧
      (faulted →
        t.opening.state = .fault ∧ t.opening.cause = some .reset ∧ t.opening.settle = none ∧
          t.opening.turn = none ∧ t.opening.direction = none ∧ t.faultLine = true ∧
          (∀ h, t.claimOf h = none) ∧
          (∀ h c, s.ctx h = some c → c.state ≠ .firing → c.state ≠ .receiving → t.ctx h = none) ∧
          ∀ l, (t.link l).notices.head? =
            some (.fault .reset s.opening.armCode s.opening.volume s.opening.k s.opening.direction)) ∧
      (∀ l, l ≠ .S → (t.link l).request = (s.link l).request ∧ (t.link l).answerDue = (s.link l).answerDue ∧
        (t.link l).response = (s.link l).response) ∧
      (∀ i, s.moving = some i →
        ((s.volume i).state = .suspending →
          (t.volume i).state = .mounted ∧ (t.volume i).saveSlot = none ∧ t.opening.volume = some i ∧
          ∀ x, (s.volume i).saveSlot = some x → s.drains x = false → s.capture.waitOrder = [] →
            t.slot x = Slot.free) ∧
        ((s.volume i).state = .resuming →
          (t.volume i).state = .suspended ∧ t.account.leaves = [] ∧ t.account.exceptions = [] ∧
          ∀ x, (s.slot x).state = .save → s.drains x = false → t.slot x = { s.slot x with deferred := none })) ∧
      (s.moving = none →
        t.memory.engine = s.memory.engine ∧ t.memory.mode = s.memory.mode ∧ t.memory.burst = s.memory.burst) ∧
      (s.moving ≠ none → transferring →
        t.memory.engine = { s.memory.engine with abandoned := true } ∧ t.memory.mode = s.memory.mode ∧
        ∀ n x, s.memory.burst = some (.engine n x) → t.memory.burst = some (.engine n true)) ∧
      (s.moving ≠ none → ¬transferring →
        t.memory.engine = { state := .idle, slot := none, length := 0, left := 0, abandoned := false } ∧
        t.memory.burst = s.memory.burst ∧
        (s.memory.mode = .entering →
          t.memory.mode = .retention ∧ t.memory.refreshTimer = none ∧ t.memory.owed = 0) ∧
        (s.memory.mode ≠ .entering → t.memory.mode = s.memory.mode ∧
          t.memory.refreshTimer = s.memory.refreshTimer ∧ t.memory.owed = s.memory.owed)) ∧
      t.drain.queue = [] ∧ (∀ i, (t.slot i).deferred = none) ∧
      ((∀ n, s.memory.burst ≠ some (.drain n)) → t.drain.active = none) ∧
      (∀ n a, s.memory.burst = some (.drain n) → s.drain.active = some a →
        t.drain.active = some { a with stall := none, ordered := some .reset }) ∧
      s.keeps t [.mem, .pending]

/-- SETTLE_EXPIRY (R12, R54, R55, R66): in SETTLING the opening takes the evaluated state, and step 1 of each context
in WAIT_SETTLE begins: of one alone, of two that are no pair, the left one first (log 14), or of a pair. The arbiters
then decide (R83, R126). At any other time nothing happens (log 4). -/
def Obligations.SettleExpiry : Prop :=
  ∀ s : State,
    (s.opening.state ≠ .settling ∨ s.opening.settle = none → exec .settleExpiry s = .next s) ∧
    (s.opening.state = .settling → s.opening.settle ≠ none →
      let v := (s.setOpening { s.opening with settle := none }).takeEvaluated
      let waits (h : Half) (c : Ctx) := s.ctx h = some c ∧ c.state = .waitSettle
      let free := s.freeSlots
      let bound (c : Ctx) (n : Fin 8) : Ctx := { c with slot := some n, state := .waitLight }
      let queued (c : Ctx) : Ctx := { c with state := .waitSlot, slotTimer := some 10000 }
      ∃ u, exec .settleExpiry s = .next (s.arbitrate u) ∧
        (u.light.held = s.light.held → exec .settleExpiry s = .next u) ∧
        (u.opening = v.opening ∧ u.links = v.links ∧ v.opening.settle = none ∧ v.opening.state.settled = true ∧
          (s.inFlight = true → v.opening.state = .exposing)) ∧
        ((∀ h c, s.ctx h = some c → c.state ≠ .waitSettle) → u = v) ∧
        (∀ h c, s.ctx h = some c → c.state = .waitSettle → c.linked = false →
          (∀ d, s.ctx (otherHalf h) = some d → d.state ≠ .waitSettle) →
          s.stepBegun u h c ∧ u.ctx (otherHalf h) = s.ctx (otherHalf h)) ∧
        (∀ a b, waits .left a → waits .right b → a.linked = true → b.linked = true → s.pairBegun u a b) ∧
        (∀ a b, waits .left a → waits .right b → a.linked = false → b.linked = false →
          (∀ n rest, free = n :: rest →
            (∀ m rest', rest = m :: rest' →
              u.ctx .left = some (bound a n) ∧ u.ctx .right = some (bound b m) ∧
              (∀ x, u.slot x = if x = n then s.opened .left a else if x = m then s.opened .right b else s.slot x) ∧
              u.light = { s.light with held := s.light.held ++ [a.request .left, b.request .right] } ∧
              u.capture.waitOrder = s.capture.waitOrder) ∧
            (rest = [] →
              u.ctx .left = some (bound a n) ∧ u.ctx .right = some (queued b) ∧
              (∀ x, u.slot x = if x = n then s.opened .left a else s.slot x) ∧
              u.light = { s.light with held := s.light.held ++ [a.request .left] } ∧
              u.capture.waitOrder = s.capture.waitOrder ++ [.right])) ∧
          (free = [] →
            u.ctx .left = some (queued a) ∧ u.ctx .right = some (queued b) ∧ (∀ x, u.slot x = s.slot x) ∧
            u.light = s.light ∧ u.capture.waitOrder = s.capture.waitOrder ++ [.left, .right])) ∧
        u.capture.claims = s.capture.claims ∧ u.capture.idCounter = s.capture.idCounter ∧
        u.memory = { s.memory with slots := u.memory.slots } ∧ s.keeps u [.account, .mem, .drain, .pending])

/-! ## Faults and turns -/

/-- Entry to FAULT (R16 to R18, R69): state, cause, timers and direction; the fault line; the notice on all four
links, ahead of what the ending captures queue; the claims dropped, their sides back in their prior states; every
capture that waits or awaits its frame ended ABORTED, its side back in its prior state; every one in FIRING or
RECEIVING ordered to end ABORTED, in place of a CANCELLED order too, with no cancel mark handed to a receiver. Both
ends are ordered before either takes place (log 24). -/
def Obligations.FaultEntry : Prop :=
  ∀ (cause : FaultCause) (s : State),
    let t := s.enterFault cause
    t.opening =
      { s.opening with state := .fault, cause := some cause, settle := none, turn := none, direction := none } ∧
    t.faultLine = true ∧
    (∀ l, (s.link l).notices.length < noticeDepth l →
      ((s.link l).notices ++
        [Notice.fault cause s.opening.armCode s.opening.volume s.opening.k s.opening.direction])
        <+: (t.link l).notices) ∧
    (∀ h, t.claimOf h = none) ∧
    (∀ h x r, s.claimOf h = some x → s.side (faceOf h) x.leaf = some r →
      (∀ c, s.ctx h = some c → c.leaf ≠ x.leaf) →
      t.side (faceOf h) x.leaf = some { r with state := x.prior.toSide, owner := none, prior := none }) ∧
    (∀ h c, s.ctx h = some c → c.state ≠ .firing → c.state ≠ .receiving → t.ctx h = none ∧
      ∀ r, s.side (faceOf h) c.leaf = some r → (∀ x, s.claimOf h = some x → x.leaf ≠ c.leaf) →
        ∃ r' m, t.side (faceOf h) c.leaf = some r' ∧ r'.state = c.prior.toSide ∧ r'.owner = none ∧
          r'.prior = none ∧ r'.summary = some m ∧ m.captureId = c.id ∧ m.outcome = .aborted) ∧
    (∀ h c, s.ctx h = some c → c.state = .firing ∨ c.state = .receiving → h ∉ s.capture.waitOrder →
      let partnerEnds := ∃ d, s.ctx (otherHalf h) = some d ∧ d.linked = true ∧ d.state ≠ .firing ∧ d.state ≠ .receiving
      let ordered : Ctx := { c with order := some .aborted }
      (¬partnerEnds → t.ctx h = some ordered) ∧
      (partnerEnds → t.ctx h = some { ordered with linked := false, cause := c.cause.or (some .partnerEnded) })) ∧
    (∀ h, t.rx h = s.rx h) ∧
    s.keeps t [.mem, .drain, .pending]

/-- ARM_FAULT (R41) and TURN_BEGIN (R33) in every opening state, and the turn timer's expiry (R27), which outside
TURNING or with the timer stopped changes nothing (log 4). -/
def Obligations.FaultCauses : Prop :=
  (∀ s : State,
    (s.opening.state ≠ .turning ∨ s.opening.turn = none → exec .turnTimerExpiry s = .next s) ∧
    (s.opening.state = .turning → s.opening.turn ≠ none →
      exec .turnTimerExpiry s = .next (s.arbitrate (s.enterFault .turnTimeout)))) ∧
  (∀ (code : Byte) (s : State), s.portFree .A →
    let kept : Opening := { s.opening with armCode := code }
    (s.opening.state = .idle ∨ s.opening.state = .parked ∨ s.opening.state = .fault →
      exec (.armFault .A code) s =
        .next ((s.setOpening kept).answered .A 0x73 .ok (s.setOpening kept).armView)) ∧
    (s.opening.state ≠ .idle → s.opening.state ≠ .parked → s.opening.state ≠ .fault →
      let t := ((s.taken .A 0x73).setOpening kept).enterFault .armFault
      exec (.armFault .A code) s = .next (s.arbitrate (t.answered .A 0x73 .ok t.armView)) ∧
        t.opening.armCode = code ∧ t.opening.state = .fault ∧ t.opening.cause = some .armFault)) ∧
  ∀ s : State, s.portFree .A →
    (s.opening.state = .turning → exec (.turnBegin .A) s = .next (s.answered .A 0x71 .ok s.armView)) ∧
    (s.opening.state = .idle ∨ s.opening.state = .parked ∨ s.opening.state = .fault →
      exec (.turnBegin .A) s = .next (s.answered .A 0x71 .fault s.armView)) ∧
    (s.opening.state ≠ .turning → s.opening.state ≠ .idle → s.opening.state ≠ .parked → s.opening.state ≠ .fault →
      let t := (s.taken .A 0x71).enterFault .ungrantedMotion
      exec (.turnBegin .A) s = .next (s.arbitrate (t.answered .A 0x71 .fault t.armView)) ∧
        t.opening.state = .fault ∧ t.opening.cause = some .ungrantedMotion)

/-- TURN_ASK (R28, R30): the table by opening state. In TURNABLE the opening enters TURNING with its direction and
the turn timer at the timeout in force; in TURNING the grant is repeated and nothing moves; elsewhere there is no
effect. A port reset on link A leaves the turn as it is. -/
def Obligations.TurnAsk : Prop :=
  (∀ s : State, s.portFree .A →
    (s.opening.state = .turnable →
      let t := s.setOpening { s.opening with state := .turning, turn := some s.turnTimeout }
      exec (.turnAsk .A) s = .next (t.answered .A 0x70 .grant t.armView)) ∧
    (s.opening.state = .turning → exec (.turnAsk .A) s = .next (s.answered .A 0x70 .grant s.armView)) ∧
    (s.opening.state = .settling ∨ s.opening.state = .ready ∨ s.opening.state = .exposing →
      exec (.turnAsk .A) s = .next (s.answered .A 0x70 .wait s.armView)) ∧
    (s.opening.state = .finished → exec (.turnAsk .A) s = .next (s.answered .A 0x70 .endOfVolume s.armView)) ∧
    (s.opening.state = .idle → exec (.turnAsk .A) s = .next (s.answered .A 0x70 .noVolume s.armView)) ∧
    (s.opening.state = .fault → exec (.turnAsk .A) s = .next (s.answered .A 0x70 .fault s.armView)) ∧
    (s.opening.state = .parked → exec (.turnAsk .A) s = .next (s.answered .A 0x70 .state s.armView)) ∧
    ∀ i, s.opening.volume = some i → s.turnTimeout = 1000 * (s.volume i).turn) ∧
  ∀ s : State, ∃ t, exec (.portReset .A) s = .next t ∧ t.opening = s.opening

/-- TURN_END (R34 to R38): the count is applied in the granted direction. -/
def Obligations.TurnEnd : Prop :=
  ∀ (count : Byte) (s : State), s.portFree .A →
    let k := s.opening.k
    let stopped := (s.taken .A 0x72).setOpening { s.opening with turn := none }
    let missed (side : Option (Face × Nat)) (kind : ExcKind) (at' c : Nat) : ExcRecord :=
      { kind := kind, side := side, opening := at', captureId := none, slot := none, extra := c }
    let ends (t : State) := exec (.turnEnd .A count) s = .next (s.arbitrate (t.answered .A 0x72 .ok t.armView))
    let double (never : Nat) :=
      (stopped.addException (missed (some (.verso, never)) .doubleTurn never 2)).addException
        (missed (some (.recto, never + 1)) .doubleTurn never 2)
    let movedTo (t : State) (n : Nat) :=
      (t.setOpening
        { t.opening with k := n, seek := if s.opening.seek = some n then none else s.opening.seek }).enterSettling
    (s.opening.state = .fault → exec (.turnEnd .A count) s = .next (s.answered .A 0x72 .tooLate s.armView)) ∧
    (s.opening.state ≠ .fault → s.opening.state ≠ .turning →
      exec (.turnEnd .A count) s = .next (s.answered .A 0x72 .state s.armView)) ∧
    (s.opening.state = .turning →
      (3 < count.toNat → exec (.turnEnd .A count) s = .next (s.answered .A 0x72 .range s.armView)) ∧
      (count = 3 → ends (stopped.enterFault .lostPosition)) ∧
      (count = 0 → ends (stopped.addException (missed none .missedTurn k 0)).enterSettling) ∧
      (s.opening.direction = some .forward →
        (count = 1 → ends (movedTo stopped (k + 1))) ∧
        (count = 2 → k + 2 ≤ s.leaves → ends (movedTo (double (k + 1)) (k + 2))) ∧
        (count = 2 → s.leaves < k + 2 → ends (stopped.enterFault .lostPosition))) ∧
      (s.opening.direction = some .backward →
        (count = 1 → ends (movedTo stopped (k - 1))) ∧
        (count = 2 → 2 ≤ k → ends (movedTo (double (k - 1)) (k - 2))) ∧
        (count = 2 → k < 2 → ends (stopped.enterFault .lostPosition))))
/-! ## Claims and captures -/

/-- CLAIM (R46, R47): the test-and-set on the present side of the camera's half. The flag bits that no layout names
are 0 (log 40). -/
def Obligations.ClaimTestAndSet : Prop :=
  ∀ (h : Half) (s : State), s.portFree (cameraLink h) →
    let l := cameraLink h
    let f := faceOf h
    let tail (t : State) := be 2 (t.lifeLeft h) ++ be 2 (s.idInFlight h)
    let answers (t : State) (body : List Byte) := exec (.claim l) s = .next (t.answered l 0x60 .ok body)
    (s.opening.state = .idle → exec (.claim l) s = .next (s.answered l 0x60 .noVolume [])) ∧
    (s.opening.state = .turning ∨ s.opening.state = .finished ∨ s.opening.state = .parked →
      exec (.claim l) s = .next (s.answered l 0x60 .state [])) ∧
    (s.opening.state = .fault → exec (.claim l) s = .next (s.answered l 0x60 .fault [])) ∧
    (s.opening.state = .settling ∨ s.opening.state = .ready ∨ s.opening.state = .exposing ∨
        s.opening.state = .turnable →
      (s.presentState h = none → answers s ([0, 0x10, 0, 0, 0xFF, 0xFF] ++ tail s)) ∧
      ∀ j x, s.presentLeaf h = some j → s.presentState h = some x →
        let side := be 2 j ++ [b1 f.code, b1 x.code]
        (∀ prior : Undone, x = prior.toSide →
          let t := (((s.taken l 0x60).changeSide f j fun r =>
            { r with state := .claimed, owner := some h, prior := some prior }).setClaim h
              (some { leaf := j, prior := prior, life := s.claimLife })).evaluate
          answers t ([1, 1] ++ side ++ tail t) ∧ t.claimOf h = some { leaf := j, prior := prior, life := s.claimLife } ∧
            ∀ i, s.opening.volume = some i → s.claimLife = (s.volume i).life) ∧
        (x = .claimed →
          let t := s.setClaim h ((s.claimOf h).map fun c => { c with life := s.claimLife })
          answers t ([2, 2] ++ side ++ tail t)) ∧
        (x = .captured ∨ x = .exempt → answers s ([0, 4] ++ side ++ tail s)) ∧
        (x = .held → answers s ([0, 8] ++ side ++ tail s)) ∧
        (x = .capturing → answers s ([0, 0] ++ side ++ tail s)))

/-- UNCLAIM (R49) in every opening state, and the claim lifetime's expiry (R48): the side returns to its prior state,
the record is emptied, and only the expiry queues CLAIM_EXPIRED. An UNCLAIM without a claim answers the half's
present side (log 33), and an expiry without a claim changes nothing (log 4). -/
def Obligations.ClaimEnds : Prop :=
  ∀ (h : Half) (s : State),
    let l := cameraLink h
    let f := faceOf h
    let shown (t : State) (j : Nat) := be 2 j ++ [b1 f.code, noneFF ((t.side f j).map fun r => r.state.code)]
    let ended (t : State) (c : Claim) := (t.changeSide f c.leaf fun r =>
      { r with state := c.prior.toSide, owner := none, prior := none }).setClaim h none
    (s.claimOf h = none → exec (.claimLifetimeExpiry h) s = .next s) ∧
    (∀ c, s.claimOf h = some c →
      exec (.claimLifetimeExpiry h) s =
        .next ((ended s c).notify l (.claimExpired c.leaf f c.prior)).evaluate) ∧
    (s.portFree l →
      (s.claimOf h = none →
        (s.presentLeaf h = none →
          exec (.unclaim l) s = .next (s.answered l 0x61 .ok [0, 0, 0xFF, 0xFF])) ∧
        ∀ j, s.presentLeaf h = some j → exec (.unclaim l) s = .next (s.answered l 0x61 .ok (shown s j))) ∧
      ∀ c, s.claimOf h = some c →
        let t := (ended (s.taken l 0x61) c).evaluate
        exec (.unclaim l) s = .next (t.answered l 0x61 .ok (shown t c.leaf)) ∧ t.claimOf h = none ∧
          s.keeps t [.light, .memory, .mem, .drain, .pending])

/-- The refusals of CAPTURE in the order of the checks (R51): the first check that fails gives the refusal, and
nothing else changes. Whether the program is PAIRED is read from the program table (log 15), and checks 6 and 7 read
the waiting partner's copy when there is one (log 15). -/
def Obligations.CaptureRefused : Prop :=
  ∀ (h : Half) (program : Byte) (s : State), s.portFree (cameraLink h) →
    let l := cameraLink h
    let refused (st : Status) := exec (.capture l program) s = .next (s.answered l 0x62 st [])
    (s.opening.state = .idle → refused .noVolume) ∧
    (s.opening.state = .turning ∨ s.opening.state = .finished ∨ s.opening.state = .parked → refused .state) ∧
    (s.opening.state = .fault → refused .fault) ∧
    (s.opening.state = .settling ∨ s.opening.state = .ready ∨ s.opening.state = .exposing ∨
        s.opening.state = .turnable →
      (16 ≤ program.toNat → refused .range) ∧
      ∀ i : Fin 16, program.toNat = i.val →
        let table := s.program i
        let copy := ((s.partnerFor h i.val table).map (·.copy)).getD table
        (s.presentState h = none ∨ (table.mode = .paired ∧ s.presentLeaf (otherHalf h) = none) → refused .noSide) ∧
        ∀ x, s.presentState h = some x → (table.mode = .paired → s.presentLeaf (otherHalf h) ≠ none) →
          (s.ctx h ≠ none → refused .busy) ∧
          (s.ctx h = none →
            (x = .captured ∨ x = .exempt → refused .sideDone) ∧
            (x = .held → refused .sideHeld) ∧
            (x ≠ .captured → x ≠ .exempt → x ≠ .held →
              (s.programFits h copy = false → refused .badProgram) ∧
              (s.programFits h copy = true → s.lampsAvailable copy = false → refused .lampUnavailable))))

/-- A CAPTURE that passes every check is accepted (R52, R53, R55, R65, R66): the side is CAPTURING, the claim consumed,
the id counter advanced, the context filled and in its first state (log 16: the state the response shows); the arbiters
then decide (R83, R126). A waiting partner, found by the program table's mode (log 15), becomes a pair with it, its
partner wait limit stopped; both wait for the settle expiry, or the pair's first step begins at once. -/
def Obligations.CaptureAccepted : Prop :=
  ∀ (h : Half) (i : Fin 16) (s : State) (j : Nat) (r : SideRec),
    let l := cameraLink h
    let f := faceOf h
    let table := s.program i
    let partner := s.partnerFor h i.val table
    let copy := (partner.map (·.copy)).getD table
    let id := if s.capture.idCounter < 65535 then s.capture.idCounter + 1 else 1
    s.portFree l → s.opening.state.works = true → s.presentLeaf h = some j → s.side f j = some r →
    (table.mode = .paired → s.presentLeaf (otherHalf h) ≠ none) → s.ctx h = none →
    r.state ≠ .captured → r.state ≠ .exempt → r.state ≠ .held →
    s.programFits h copy = true → s.lampsAvailable copy = true →
    ∃ u c, exec (.capture l (b1 i.val)) s = .next (s.arbitrate u) ∧
      u.hasAnswer l 0x62 .accepted (be 2 id ++ be 2 j ++ [b1 f.code, b1 copy.steps.length, b1 c.state.code]) ∧
      u.capture.idCounter = id ∧ u.claimOf h = none ∧ u.ctx h = some c ∧
      (c.id = id ∧ c.leaf = j ∧ c.program = i.val ∧ c.copy = copy ∧ c.step = 1 ∧ c.results = [] ∧ c.order = none ∧
        c.cause = none) ∧
      (∀ x, s.claimOf h = some x → c.prior = x.prior) ∧
      (s.claimOf h = none → ∀ p : Undone, r.state = p.toSide → c.prior = p) ∧
      u.side f j = some { r with state := .capturing, owner := some h, prior := some c.prior } ∧
      (c.linked = true ↔ partner ≠ none) ∧
      (partner = none → u.ctx (otherHalf h) = s.ctx (otherHalf h)) ∧
      (∀ d, partner = some d →
        let d' : Ctx := { d with linked := true, partnerTimer := none }
        (s.opening.state = .settling →
          u.ctx (otherHalf h) = some { d' with state := .waitSettle } ∧ u.light = s.light ∧ u.memory = s.memory ∧
            u.capture.waitOrder = s.capture.waitOrder) ∧
        (s.opening.state ≠ .settling → s.pairBegun u (if h = .left then c else d') (if h = .left then d' else c))) ∧
      (c.state ≠ .waitLight → c.slot = none) ∧
      (partner = none → copy.mode = .paired → c.state = .waitPartner ∧ c.partnerTimer = some 2000) ∧
      (partner ≠ none ∨ copy.mode = .unpaired → s.opening.state = .settling → c.state = .waitSettle) ∧
      (partner = none → copy.mode = .unpaired → s.opening.state ≠ .settling →
        (∀ n, s.lowestFree = some n →
          c.state = .waitLight ∧ c.slot = some n ∧ (u.slot n).state = .open' ∧
            (u.slot n).volume = s.opening.volume ∧ (u.slot n).captureId = some id ∧
            (u.slot n).side = some (h, j) ∧ (u.slot n).step = some 1 ∧ c.request h ∈ u.light.held) ∧
        (s.lowestFree = none →
          c.state = .waitSlot ∧ c.slotTimer = some 10000 ∧ u.capture.waitOrder = s.capture.waitOrder ++ [h])) ∧
      (s.opening.state ≠ .settling → u.opening.state = .exposing) ∧
      s.keeps u [.mem, .drain, .pending]

/-- The outcome of a capture is the first row of R62 that holds; its side takes that row's state, or RESHOOT when a
success is marked frame discarded (R63). -/
def Obligations.OutcomeRows : Prop :=
  ∀ c : Ctx,
    let failing := c.cause = some .noSlot ∨ c.cause = some .lampUnavailable ∨ c.cause = some .frameMissing ∨
      c.cause = some .frameTooLarge ∨ c.cause = some .partnerLate ∨
      ∃ r ∈ c.results, ∃ x, r.sealStatus = some x ∧ x ≠ .good
    let unsealed := ∀ r ∈ c.results, r.sealStatus = none
    let dimmedLast := ∃ r, c.results.getLast? = some r ∧ r.dimmed = true
    let shortened :=
      (c.cause = some .stop ∧ dimmedLast ∧ (c.copy.stop = .onDim ∨ c.copy.stop = .onEither)) ∨
        (c.cause = some .partnerEnded ∧ 0 < c.copy.steps.length - c.step)
    (c.order = some .aborted → c.outcome = .aborted) ∧
    (c.order = some .cancelled → c.outcome = .cancelled) ∧
    (c.order = none →
      (c.cause = some .held → c.outcome = .held) ∧
      (c.cause ≠ some .held →
        (failing → c.outcome = .failed) ∧
        (¬failing →
          (c.cause = some .partnerEnded → unsealed → c.outcome = .cancelled) ∧
          (¬(c.cause = some .partnerEnded ∧ unsealed) →
            (shortened → c.outcome = .shortened) ∧ (¬shortened → c.outcome = .complete))))) ∧
    (c.outcome = .complete ∨ c.outcome = .shortened → c.sideAfter false = .captured ∧ c.sideAfter true = .reshoot) ∧
    (∀ d, c.outcome = .held → c.sideAfter d = .held) ∧
    (∀ d, c.outcome = .failed ∨ c.outcome = .cancelled ∨ c.outcome = .aborted → c.sideAfter d = c.prior.toSide)

/-- The end of a capture (R63, R64): the account unit writes the summary, the side and its count; the exception of the
first row of R63 that holds, if one does, is handed on; CAPTURE_DONE is queued on the camera's link and, after that
exception's notice, on link S, with the exception's kind, also when the list was full (log 31); the context becomes
empty, leaves the wait order, and its slot in OPEN is FREE or bound again. With a partner (R67), the partner takes end
cause PARTNER_ENDED; it ends at once where it waits, its slot FREE, and otherwise goes on with the step it is in. -/
def Obligations.CaptureEnd : Prop :=
  ∀ (h : Half) (s : State) (c : Ctx) (r : SideRec), s.ctx h = some c → s.side (faceOf h) c.leaf = some r →
    let d : Bool := (c.results.any fun x => x.sealStatus.isSome) && ((r.summary.map (·.discarded)).getD false)
    let record (kind : ExcKind) (slot : Option (Fin 8)) (extra : Nat) : ExcRecord :=
      { kind := kind, side := some (faceOf h, c.leaf), opening := s.opening.k, captureId := some c.id, slot := slot,
        extra := extra }
    let named : Option ExcKind :=
      if c.cause = some .noSlot then some .noSlot
      else if c.cause = some .lampUnavailable then some .lampUnavailable
      else if c.cause = some .frameMissing then some .frameMissing
      else if c.cause = some .frameTooLarge then some .frameTooLarge
      else if c.cause = some .partnerLate then some .partnerLate else none
    let firstBad := c.results.find? fun y => decide (y.sealStatus ≠ none ∧ y.sealStatus ≠ some .good)
    let exception : Option ExcRecord :=
      if c.outcome = .failed then
        some (if named.isSome then record (named.getD .noSlot) none 0
          else record .captureFailed (firstBad.bind (·.slot)) 0)
      else if c.outcome = .held then some (record .doseHeld none (capCode c.heldCap))
      else if (c.outcome = .complete ∨ c.outcome = .shortened) ∧ d = true then some (record .frameDiscarded none 0)
      else none
    let handed := s.addException? exception
    let done : Notice :=
      .captureDone c.id h c.leaf c.outcome c.results.length (c.results.any (·.dimmed)) (exception.map (·.kind))
    let t := s.endOne h
    t.side (faceOf h) c.leaf =
      some
        { r with
          state := c.sideAfter d, owner := none, prior := none,
          captures := if r.captures < 15 then r.captures + 1 else r.captures,
          summary := some
            { captureId := c.id, outcome := c.outcome, program := some c.program,
              steps := c.results.map fun x =>
                { step := x.step, slot := x.slot, sealStatus := x.sealStatus, level := x.level, dimmed := x.dimmed,
                  clamped := x.clamped },
              dose := (c.results.map fun x => if h = .left then x.left else x.right).sum, discarded := d } } ∧
    (exception = none → handed = s ∧ t.account.exceptions = s.account.exceptions) ∧
    (∀ x, exception = some x → handed = s.addException x ∧ ∀ i, s.mounted = some i →
      (s.account.exceptions.length < 64 → t.account.exceptions = s.account.exceptions ++ [x]) ∧
      (64 ≤ s.account.exceptions.length → t.account.exceptions = s.account.exceptions) ∧
      (t.volume i).excCount = (handed.volume i).excCount ∧ (t.volume i).excLost = (handed.volume i).excLost) ∧
    t.link (cameraLink h) = (s.notify (cameraLink h) done).link (cameraLink h) ∧
    ((handed.notify .S done).link .S).notices <+: (t.link .S).notices ∧
    t.ctx h = none ∧ h ∉ t.capture.waitOrder ∧ t.capture.claims = s.capture.claims ∧
    t.capture.idCounter = s.capture.idCounter ∧
    (∀ i, c.slot = some i → (s.slot i).state = .open' →
      (t.slot i).state = .free ∨ (t.slot i).state = .open' ∧ (t.slot i).captureId ≠ none) ∧
    s.keeps t [.mem, .drain, .pending] ∧
    (c.linked = false → s.endCapture h = t) ∧
    (c.linked = true → ∀ d, s.ctx (otherHalf h) = some d →
      let u := s.endCapture h
      let waits := d.state = .waitSettle ∨ d.state = .waitPartner ∨ d.state = .waitSlot ∨ d.state = .waitLight
      u.ctx h = none ∧
      (waits → u.ctx (otherHalf h) = none ∧
        ∀ i, d.slot = some i → (s.slot i).state = .open' → (u.slot i).state = .free) ∧
      (¬waits → otherHalf h ∉ s.capture.waitOrder →
        u.ctx (otherHalf h) = some { d with linked := false, cause := d.cause.or (some .partnerEnded) }))

/-- CANCEL (R68, R123) by the context state: refused TOO_LATE, acknowledged, or the end ordered. With nothing in
flight and id 0 the response shows id 0 and state 0 (log 30). -/
def Obligations.CancelByState : Prop :=
  ∀ (h : Half) (id : Word) (s : State), s.portFree (cameraLink h) →
    let l := cameraLink h
    (s.ctx h = none →
      (id = 0 → exec (.cancel l id) s = .next (s.answered l 0x63 .ok [0, 0, 0])) ∧
      (id ≠ 0 → exec (.cancel l id) s = .next (s.answered l 0x63 .tooLate []))) ∧
    ∀ c, s.ctx h = some c →
      let body := be 2 c.id ++ [b1 c.state.code]
      let ordered : Ctx := { c with order := some .cancelled }
      (id ≠ 0 → id.toNat ≠ c.id → exec (.cancel l id) s = .next (s.answered l 0x63 .tooLate [])) ∧
      (id = 0 ∨ id.toNat = c.id →
        (c.order ≠ none → c.state = .firing ∨ c.state = .receiving →
          exec (.cancel l id) s = .next (s.answered l 0x63 .ok body)) ∧
        (c.order = none →
          (c.state = .firing →
            exec (.cancel l id) s = .next ((s.setCtx h (some ordered)).answered l 0x63 .ok body)) ∧
          (c.state = .receiving → c.report ≠ none →
            exec (.cancel l id) s = .next ((s.setCtx h (some ordered)).answered l 0x63 .ok body)) ∧
          (c.state = .receiving → c.report = none →
            exec (.cancel l id) s = .next
              (((s.setRx h { s.rx h with cancelMark := true }).setCtx h (some ordered)).answered l 0x63 .ok body)) ∧
          (c.state ≠ .firing → c.state ≠ .receiving →
            let t := ((s.taken l 0x63).setCtx h (some ordered)).endCapture h
            exec (.cancel l id) s = .next (s.arbitrate (t.answered l 0x63 .ok body)) ∧ t.ctx h = none ∧
              ordered.outcome = .cancelled)))

/-- COMMIT (R60, R61, R67, R142, R143): without a seal report nothing happens (log 4). With one, the step's result takes
its slot and seal status, the side's summary is that of the capture so far, and the slot is committed. A deferred release
of the slot, neither DRAINING nor in the queue, is evaluated then: the slot is freed, freed by the discard rule, or kept
with RELEASE_DROPPED. Then the capture ends by its order, by PARTNER_ENDED or by its stop rule, waits for its partner, or
begins its next step. A pair both of whose members have committed ends when either has a reason to stop, each with cause
STOP for a reason of its own and PARTNER_ENDED without, or begins its next step. -/
def Obligations.CommitStep : Prop :=
  (∀ y : Ctx, y.stops = true ↔
    ((y.copy.stop = .onDamage ∨ y.copy.stop = .onEither) ∧
      ∃ r x, y.results.getLast? = some r ∧ r.sealStatus = some x ∧ x ≠ .good) ∨
    ((y.copy.stop = .onDim ∨ y.copy.stop = .onEither) ∧ ∃ r, y.results.getLast? = some r ∧ r.dimmed = true) ∨
    y.copy.steps.length ≤ y.step) ∧
  ∀ (h : Half) (s : State),
    ((∀ c, s.ctx h = some c → c.state ≠ .receiving ∨ c.report = none) → exec (.commit h) s = .next s) ∧
    ∀ c i st, s.ctx h = some c → c.state = .receiving → c.report = some (i, st) →
      let done : Ctx :=
        { c with
          results := c.results.map fun r =>
            if r.step = c.step then { r with slot := some i, sealStatus := some st } else r,
          slot := none, report := none }
      let wrote (r : SideRec) : SideRec :=
        { r with
          summary := some
            { captureId := c.id, outcome := .inProgress, program := some c.program,
              steps := done.results.map fun x =>
                { step := x.step, slot := x.slot, sealStatus := x.sealStatus, level := x.level, dimmed := x.dimmed,
                  clamped := x.clamped },
              dose := (c.results.map fun x => if h = .left then x.left else x.right).sum,
              discarded :=
                (c.results.any fun x => x.sealStatus.isSome) && ((r.summary.map (·.discarded)).getD false) } }
      let written : State := (s.setCtx h (some done)).changeSide (faceOf h) c.leaf wrote
      let x : Slot := { s.slot i with committed := true }
      let held := x.deferred = none ∨ x.state ≠ .sealed ∨ s.queued i = true
      let orderly := ∀ g ∈ s.capture.waitOrder, ∀ e, s.ctx g = some e → e.state = .waitSlot
      let joint (y : Ctx) : Ctx :=
        { y with linked := false, cause := some (if y.stops then .stop else .partnerEnded) }
      let t := s.commitStep h c i st
      (∀ r, s.side (faceOf h) c.leaf = some r → written.side (faceOf h) c.leaf = some (wrote r)) ∧
      (held → t = written.setSlot i x) ∧
      (∀ d, x.deferred = some d → ¬held → written.deferredRun t i x d fun _ => written) ∧
      (held ∨ orderly →
        t.ctx h = some done ∧
        (held ∨ otherHalf h ∉ s.capture.waitOrder → t.ctx (otherHalf h) = s.ctx (otherHalf h)) ∧
        (c.order ≠ none → exec (.commit h) s = .next (s.arbitrate (t.endCapture h))) ∧
        (c.order = none → c.cause = some .partnerEnded →
          exec (.commit h) s = .next (s.arbitrate (t.endOne h))) ∧
        (c.order = none → c.cause ≠ some .partnerEnded → c.linked = false →
          (done.stops = true →
            exec (.commit h) s = .next
              (s.arbitrate
                ((t.setCtx h (some { done with cause := some .stop, heldCap := none })).endOne h))) ∧
          (done.stops = false →
            exec (.commit h) s = .next
              (s.arbitrate ((t.setCtx h (some { done with step := c.step + 1 })).startStep h)))) ∧
        (c.order = none → c.cause ≠ some .partnerEnded → c.linked = true →
          (s.ctxIn (otherHalf h) .waitPartner = false →
            exec (.commit h) s = .next (s.arbitrate (t.setCtx h (some { done with state := .waitPartner })))) ∧
          ∀ d, s.ctx (otherHalf h) = some d → d.state = .waitPartner →
            ∃ u, exec (.commit h) s = .next (s.arbitrate u) ∧
              (done.stops = true ∨ d.stops = true →
                u = (((t.setCtx h (some (joint done))).setCtx (otherHalf h) (some (joint d))).endOne .left).endOne
                  .right ∧
                ∀ k y, t.ctx k = some y → u.ctx k = none ∧ ∀ r, t.side (faceOf k) y.leaf = some r →
                  let discarded :=
                    (y.results.any fun z => z.sealStatus.isSome) && ((r.summary.map (·.discarded)).getD false)
                  ∃ r', u.side (faceOf k) y.leaf = some r' ∧ r'.state = (joint y).sideAfter discarded ∧
                    r'.owner = none ∧ r'.prior = none ∧ r'.summary.map (·.captureId) = some y.id ∧
                    r'.summary.map (·.outcome) = some (joint y).outcome) ∧
              (done.stops = false → d.stops = false → ∃ x y, u.ctx h = some x ∧ u.ctx (otherHalf h) = some y ∧
                x.step = c.step + 1 ∧ y.step = d.step + 1 ∧
                (x.state = .waitLight ∨ x.state = .waitSlot) ∧ (y.state = .waitLight ∨ y.state = .waitSlot))))

/-- The limits of a capture (R56, R59, R62, R63, R65, R67): at its expiry in its state the capture ends with the cause of
its name; at any other time nothing happens (log 4). At the slot wait limit of a pair each member without a slot ends
with NO_SLOT, FAILED, its NO_SLOT record added, its side back in its prior state; a member that holds one ends with
PARTNER_ENDED, its slot FREE; the left member ends first where neither holds one (log 14). -/
def Obligations.CaptureLimits : Prop :=
  ∀ (h : Half) (s : State),
    let caused (c : Ctx) (x : EndCause) : Ctx := { c with cause := some x, heldCap := none }
    (s.ctx h = none →
      exec (.frameStartLimitExpiry h) s = .next s ∧ exec (.partnerWaitLimitExpiry h) s = .next s ∧
        exec (.slotWaitLimitExpiry h) s = .next s) ∧
    ∀ c, s.ctx h = some c →
      (c.state = .awaitFrame → c.frameTimer ≠ none →
        exec (.frameStartLimitExpiry h) s =
          .next (s.arbitrate ((s.setCtx h (some (caused c .frameMissing))).endCapture h))) ∧
      (c.state ≠ .awaitFrame ∨ c.frameTimer = none → exec (.frameStartLimitExpiry h) s = .next s) ∧
      (c.state = .waitPartner → c.partnerTimer ≠ none →
        exec (.partnerWaitLimitExpiry h) s =
          .next (s.arbitrate ((s.setCtx h (some (caused c .partnerLate))).endCapture h))) ∧
      (c.state ≠ .waitPartner ∨ c.partnerTimer = none → exec (.partnerWaitLimitExpiry h) s = .next s) ∧
      (c.slotTimer = none → exec (.slotWaitLimitExpiry h) s = .next s) ∧
      (c.slotTimer ≠ none → c.linked = false → c.state = .waitSlot →
        exec (.slotWaitLimitExpiry h) s =
          .next (s.arbitrate ((s.setCtx h (some (caused c .noSlot))).endOne h))) ∧
      (c.linked = false → c.state ≠ .waitSlot → exec (.slotWaitLimitExpiry h) s = .next s) ∧
      (c.slotTimer ≠ none → c.linked = true → ∀ d, s.ctx (otherHalf h) = some d →
        let last (x : Ctx) : Ctx :=
          { x with linked := false, cause := some (if x.state = .waitSlot then .noSlot else .partnerEnded) }
        let record (k : Half) (x : Ctx) : ExcRecord :=
          { kind := .noSlot, side := some (faceOf k, x.leaf), opening := s.opening.k, captureId := some x.id,
            slot := none, extra := 0 }
        let list := s.account.exceptions
        ∃ u, exec (.slotWaitLimitExpiry h) s = .next (s.arbitrate u) ∧ u.ctx .left = none ∧ u.ctx .right = none ∧
          u.capture.waitOrder = [] ∧ s.keeps u [.mem, .drain, .pending] ∧
          (∀ k x, s.ctx k = some x →
            (∀ n, x.slot = some n → (s.slot n).state = .open' → u.slot n = Slot.free) ∧
            (∀ r, s.side (faceOf k) x.leaf = some r → ∃ r', u.side (faceOf k) x.leaf = some r' ∧
              r'.state = (last x).sideAfter
                ((x.results.any fun y => y.sealStatus.isSome) && ((r.summary.map (·.discarded)).getD false)) ∧
              r'.owner = none ∧ r'.prior = none ∧ r'.summary.map (·.captureId) = some x.id ∧
              r'.summary.map (·.outcome) = some (last x).outcome) ∧
            (x.state = .waitSlot → x.order = none →
              (last x).outcome = .failed ∧ (∀ b, (last x).sideAfter b = x.prior.toSide) ∧
              u.link (cameraLink k) =
                (s.notify (cameraLink k)
                  (.captureDone x.id k x.leaf .failed x.results.length (x.results.any (·.dimmed))
                    (some .noSlot))).link (cameraLink k)) ∧
            (x.state ≠ .waitSlot → x.order = none → (∀ y ∈ x.results, y.sealStatus = none) →
              (last x).outcome = .cancelled ∧ ∀ b, (last x).sideAfter b = x.prior.toSide)) ∧
          (∀ k x y, s.ctx k = some x → s.ctx (otherHalf k) = some y → x.state = .waitSlot → x.order = none →
            s.mounted ≠ none →
            (y.state ≠ .waitSlot ∨ k = .left → list.length < 64 → list ++ [record k x] <+: u.account.exceptions) ∧
            (y.state ≠ .waitSlot → y.order = none → (∀ z ∈ y.results, z.sealStatus = none) → list.length < 64 →
              u.account.exceptions = list ++ [record k x]) ∧
            (y.state = .waitSlot → y.order = none → k = .left → list.length < 63 →
              u.account.exceptions = list ++ [record .left x, record .right y])))

/-! ## Lamps, programs and dose -/

/-- LAMP_SET write (R72, R73, R83) and PROGRAM_SET write (R79): refused with RANGE, or the entry stored with its
fields clamped, the lamp state moved and the arbiter deciding; the program stored as written. A present code above
1 is refused with RANGE (log 11). The response bodies follow the layouts of R196 and leave out the light status that
R74 gives every such response (log 9). -/
def Obligations.LightWrites : Prop :=
  (∀ (channel present side band : Byte) (eFull gDirect gSpill : Word) (lMin : Byte) (maxDuration : BitVec 24)
      (recharge : Word) (s : State), s.portFree .S →
    let c := Instr.lampSetWrite .S channel present side band eFull gDirect gSpill lMin maxDuration recharge
    (8 ≤ channel.toNat ∨ 2 ≤ present.toNat ∨ 2 ≤ side.toNat ∨ 8 ≤ band.toNat ∨ eFull = 0 ∨ lMin = 0 →
      exec c s = .next (s.answered .S 0x40 .range [])) ∧
    ∀ i : Fin 8, channel.toNat = i.val → present.toNat < 2 → side.toNat < 2 → band.toNat < 8 → eFull ≠ 0 →
      lMin ≠ 0 →
      let e : LampEntry :=
        { present := decide (present = 1), side := if side = 1 then .right else .left, band := band.toNat,
          eFull := eFull.toNat, gDirect := min gDirect.toNat 1024, gSpill := min gSpill.toNat 1024,
          lMin := lMin.toNat, maxDuration := max 100 (min maxDuration.toNat 200000),
          recharge := max 1 (min recharge.toNat 2000) }
      let clamped := decide (1024 < gDirect.toNat ∨ 1024 < gSpill.toNat ∨ maxDuration.toNat < 100 ∨
        200000 < maxDuration.toNat ∨ recharge = 0 ∨ 2000 < recharge.toNat)
      let lamp : Lamp :=
        if (s.lamp i).state = .firing then { s.lamp i with entry := e }
        else if present = 0 then { entry := e, state := .absent, recharge := none }
        else if s.opening.state = .parked then { entry := e, state := .discharged, recharge := none }
        else { entry := e, state := .charging, recharge := some e.recharge }
      let t := (s.taken .S 0x40).setLamp i lamp
      exec c s = .next (s.arbitrate (t.decideLight.answered .S 0x40 .ok (t.lampBody i clamped))) ∧
      (s.light.held = [] → exec c s = .next ((s.setLamp i lamp).answered .S 0x40 .ok (t.lampBody i clamped)))) ∧
  ∀ (program mode stop count : Byte) (steps : List StepArg) (s : State), s.portFree .S →
    let c := Instr.programSetWrite .S program mode stop count steps
    c.wellFormed = true →
    (16 ≤ program.toNat ∨ 2 ≤ mode.toNat ∨ 4 ≤ stop.toNat ∨ 8 < count.toNat →
      exec c s = .next (s.answered .S 0x41 .range [])) ∧
    ∀ (i : Fin 16) (m : Mode) (r : StopRule), program.toNat = i.val → mode = b1 m.code → stop = b1 r.code →
      count.toNat ≤ 8 →
      let t := s.setProgram i
        { mode := m, stop := r,
          steps := steps.map fun a => { mask := a.mask, level := a.level.toNat, duration := a.duration.toNat } }
      exec c s = .next (t.answered .S 0x41 .ok (t.programBody i))

/-- DOSE_QUERY (R108): the checks in order, then the dose check's result on the current opening; nothing else
changes. -/
def Obligations.DoseQuery : Prop :=
  ∀ (program step : Byte) (s : State), s.portFree .S →
    let answers (st : Status) (body : List Byte) :=
      exec (.doseQuery .S program step) s = .next (s.answered .S 0x42 st body)
    (s.opening.state = .idle → answers .noVolume []) ∧
    (s.opening.state = .parked → answers .state []) ∧
    (s.opening.state ≠ .idle → s.opening.state ≠ .parked →
      (16 ≤ program.toNat ∨ step = 0 ∨ 8 < step.toNat → answers .range []) ∧
      ∀ i : Fin 16, program.toNat = i.val → step ≠ 0 → step.toNat ≤ 8 →
        let p := s.program i
        (p.steps = [] ∨ 8 < p.steps.length → answers .badProgram []) ∧
        (p.steps ≠ [] → p.steps.length ≤ 8 →
          (p.steps.length < step.toNat → answers .range []) ∧
          ∀ x, p.stepAt step.toNat = some x →
            (lampsOf x.mask = [] → answers .badProgram []) ∧
            ((∃ n ∈ lampsOf x.mask, (s.lamp n).state = .absent ∨ (s.lamp n).state = .faulted) →
              answers .lampUnavailable []) ∧
            (lampsOf x.mask ≠ [] →
              (∀ n ∈ lampsOf x.mask, (s.lamp n).state ≠ .absent ∧ (s.lamp n).state ≠ .faulted) →
              answers .ok (s.doseBody program.toNat step.toNat (s.doseInput x.mask x.level x.duration)))))

/-- The dose check (R95 to R101): the headrooms it tests against; the bound and the floor of the lamps; the duration's
clamp; the side doses, summed lamp by lamp and rounded up; the doses grow with the level, so that a level that fits
makes every lower one fit, and level 0 always fits; the requested level, the largest fitting level from the floor, or
HELD with the cap that fails at the lowest level tested. -/
def Obligations.DoseCheck : Prop :=
  (∀ (mask : Byte) (level stored : Nat) (s : State),
    let i := s.doseInput mask level stored
    i.level = level ∧ i.stored = stored ∧ i.lamps = (lampsOf mask).map (fun n => (s.lamp n).entry) ∧
    (s.presentLeaf .left = none → i.left = none) ∧ (s.presentLeaf .right = none → i.right = none) ∧
    ∀ v, s.mounted = some v →
      i.volume = (s.volume v).volumeCap - (s.volume v).doseUsed ∧
      (∀ j e, s.presentLeaf .left = some j → leafAt s.account.leaves j = some e →
        i.left = some ((s.volume v).leafCap - e.dose)) ∧
      ∀ j e, s.presentLeaf .right = some j → leafAt s.account.leaves j = some e →
        i.right = some ((s.volume v).leafCap - e.dose)) ∧
  ∀ i : DoseInput,
    ((∀ e ∈ i.lamps, i.bound ≤ e.maxDuration ∧ e.lMin ≤ i.floor) ∧
      (i.lamps ≠ [] → (∃ e ∈ i.lamps, i.floor = e.lMin) ∧
        ((∀ e ∈ i.lamps, e.maxDuration ≤ 200000) → ∃ e ∈ i.lamps, i.bound = e.maxDuration))) ∧
    (∀ l,
      let light (h : Half) := (i.lamps.map fun e =>
        (e.eFull * (if e.side = h then e.gDirect else e.gSpill) * l + 261119) / 261120).sum
      (i.left = none → i.dLeft l = 0) ∧ (i.right = none → i.dRight l = 0) ∧
      (i.left ≠ none → i.dLeft l = (light .left * i.duration + 999) / 1000) ∧
      (i.right ≠ none → i.dRight l = (light .right * i.duration + 999) / 1000)) ∧
    ((i.stored < 100 → i.duration = 100 ∧ i.clamped = true) ∧
      (100 ≤ i.stored → i.stored ≤ i.bound → i.duration = i.stored ∧ i.clamped = false) ∧
      (100 ≤ i.stored → i.bound < i.stored → i.duration = i.bound ∧ i.clamped = true)) ∧
    (∀ a b, a ≤ b → i.dLeft a ≤ i.dLeft b ∧ i.dRight a ≤ i.dRight b ∧ (i.fits b = true → i.fits a = true)) ∧
    i.fits 0 = true ∧
    (i.fits i.level = true → i.check = .fits i.level) ∧
    (∀ l, i.fits i.level = false → i.floor ≤ l → l < i.level → i.fits l = true →
      (∀ m, l < m → m < i.level → i.fits m = false) → i.check = .dimmed l) ∧
    (i.fits i.level = false → (∀ m, i.floor ≤ m → m < i.level → i.fits m = false) →
      i.check = .held (i.failing (if i.floor < i.level then i.floor else i.level))) ∧
    ∀ l,
      (i.fits l = true ↔
        (∀ x, i.left = some x → i.dLeft l ≤ x) ∧ (∀ x, i.right = some x → i.dRight l ≤ x) ∧
          i.dLeft l + i.dRight l ≤ i.volume) ∧
      ((∃ x, i.left = some x ∧ x < i.dLeft l) → i.failing l = some .leafLeft) ∧
      ((∀ x, i.left = some x → i.dLeft l ≤ x) → (∃ x, i.right = some x ∧ x < i.dRight l) →
        i.failing l = some .leafRight) ∧
      ((∀ x, i.left = some x → i.dLeft l ≤ x) → (∀ x, i.right = some x → i.dRight l ≤ x) →
        i.failing l = if i.dLeft l + i.dRight l ≤ i.volume then none else some .volume)

/-- The charge of a flash never exceeds what its dose check fitted (R102 to R104): whatever lamps of the record
were confirmed, the charge is within the headroom of each leaf it goes to and of the volume at the check. -/
def Obligations.ChargeWithinFit : Prop :=
  ∀ (s : State) (r : LightRequest) (level stored used : Nat) (dimmed : Bool) (lamps : List FlashLamp),
    let i := s.doseInput r.mask level stored
    let f := s.flashRecord r i used dimmed
    i.fits used = true → lamps.map (fun x => { x with confirm := .pending }) = f.lamps →
    let g : Flash := { f with lamps := lamps }
    (∀ j, g.leftLeaf = some j → g.chargeLeft ≤ s.leafHeadroom j) ∧
    (∀ j, g.rightLeaf = some j → g.chargeRight ≤ s.leafHeadroom j) ∧
    g.chargeLeft + g.chargeRight ≤ s.volumeHeadroom ∧
    (g.leftLeaf = none → g.chargeLeft = 0) ∧ (g.rightLeaf = none → g.chargeRight = 0) ∧
    ∀ i, s.mounted = some i → s.volumeHeadroom = (s.volume i).volumeCap - (s.volume i).doseUsed

/-- INTER_FLASH_GAP_EXPIRY and RECHARGE_EXPIRY (R57, R76, R83, R84, R86, R87, R92): the arbiter decides. Of the
requests held it chooses the one eligible, and of one eligible for each half that of the half not last served. The
request chosen, with its lamps CHARGED and a level that fits, begins its flash; when no level fits, the captures it
serves end HELD, with the limiting cap in their DOSE_HELD exceptions; when a lamp is ABSENT or FAULTED, they end FAILED
with LAMP_UNAVAILABLE. Their slots are FREE again, and without another request no flash, gap or lamp changes. An expiry
with the gap or the recharge timer stopped, or of a lamp that is not CHARGING, changes nothing (log 4). -/
def Obligations.LightGrant : Prop :=
  (∀ s : State,
    (s.light.gap = none → exec .interFlashGapExpiry s = .next s) ∧
    (s.light.gap ≠ none →
      (s.light.flash ≠ none ∨ s.light.held.filter s.eligible = [] →
        exec .interFlashGapExpiry s = .next { s with light := { s.light with gap := none } }) ∧
      ∀ r ∈ s.light.held,
        let eligible := s.light.held.filter s.eligible
        let others := eligible.filter fun x => decide (x ≠ r)
        let chosen := eligible = [r] ∨
          (r ∈ eligible ∧ (∀ x ∈ others, x.served = if s.light.lastServed = .left then .left else .right) ∧
            r.served = if s.light.lastServed = .left then .right else .left)
        ∀ c p, s.light.flash = none → chosen →
        s.ctx r.served.leader = some c → c.copy.stepAt c.step = some p →
        let i := s.doseInput r.mask p.level p.duration
        let fails (outcome : CaptureOutcome) (kind : ExcKind) (extra : Nat) (after : Undone → SideState) : Prop :=
          ∃ t, exec .interFlashGapExpiry s = .next t ∧ (∀ h, r.served.serves h = true → t.ctx h = none ∧
            ∀ x, s.ctx h = some x →
              (x.order = none →
                t.link (cameraLink h) = (s.notify (cameraLink h)
                  (.captureDone x.id h x.leaf outcome x.results.length (x.results.any (·.dimmed)) (some kind))).link
                    (cameraLink h) ∧
                (s.mounted ≠ none → s.account.exceptions.length < 63 →
                  ({ kind := kind, side := some (faceOf h, x.leaf), opening := s.opening.k, captureId := some x.id,
                     slot := none, extra := extra } : ExcRecord) ∈ t.account.exceptions) ∧
                ∀ y, s.side (faceOf h) x.leaf = some y →
                  ∃ y', t.side (faceOf h) x.leaf = some y' ∧ y'.state = after x.prior ∧ y'.owner = none ∧
                    y'.prior = none ∧ y'.summary.map (·.captureId) = some x.id ∧
                    y'.summary.map (·.outcome) = some outcome) ∧
              (s.capture.waitOrder = [] → ∀ n, x.slot = some n → (s.slot n).state = .open' →
                t.slot n = Slot.free)) ∧
            (s.light.held = [r] → s.capture.waitOrder = [] →
              t.light = { s.light with held := [], gap := none }) ∧
            s.keeps t [.mem, .drain, .pending]
        ((∀ n ∈ lampsOf r.mask, (s.lamp n).state = .charged) → ∀ used dimmed,
          (i.check = .fits used ∧ dimmed = false) ∨ (i.check = .dimmed used ∧ dimmed = true) →
          ∃ t, exec .interFlashGapExpiry s = .next t ∧
            t.light.held = s.light.held.filter (fun x => decide (x ≠ r)) ∧ t.light.grant = some r ∧
            t.light.gap = none ∧
            t.light.flash = some
              { served := r.served, leftId := r.leftId, rightId := r.rightId, step := r.step, mask := r.mask,
                levelRequested := p.level, levelUsed := used, duration := i.duration, dimmed := dimmed,
                clamped := i.clamped, leftLeaf := s.presentLeaf .left, rightLeaf := s.presentLeaf .right,
                lamps := (lampsOf r.mask).map fun n =>
                  { lamp := n, side := (s.lamp n).entry.side, direct := (s.lamp n).entry.direct used,
                    spill := (s.lamp n).entry.spill used, confirm := .pending },
                timer := i.duration, window := some 50 } ∧
            (∀ n, t.lamp n =
              if n ∈ lampsOf r.mask then { s.lamp n with state := .firing, recharge := none } else s.lamp n) ∧
            (∀ n ∈ lampsOf r.mask, t.strobe n = true) ∧
            (∀ h, t.trigger h = r.served.serves h) ∧
            t.light.lastServed =
              (match r.served with
               | .left => .left
               | .right => .right
               | .pair => s.light.lastServed) ∧
            (∀ h x, s.ctx h = some x →
              t.ctx h = some (if r.served.serves h then { x with state := .firing } else x)) ∧
            s.keeps t [.opening, .account, .memory, .mem, .drain, .links, .pending]) ∧
        ((∀ n ∈ lampsOf r.mask, (s.lamp n).state = .charged) → ∀ cap, i.check = .held cap →
          fails .held .doseHeld (capCode cap) fun _ => .held) ∧
        ((∃ n ∈ lampsOf r.mask, (s.lamp n).state = .absent ∨ (s.lamp n).state = .faulted) →
          fails .failed .lampUnavailable 0 Undone.toSide))) ∧
  ∀ (n : Fin 8) (s : State),
    ((s.lamp n).state ≠ .charging ∨ (s.lamp n).recharge = none → exec (.rechargeExpiry n) s = .next s) ∧
    ((s.lamp n).state = .charging → (s.lamp n).recharge ≠ none →
      let t := s.setLamp n { s.lamp n with state := .charged, recharge := none }
      exec (.rechargeExpiry n) s = .next (s.arbitrate t.decideLight) ∧
      (t.light.flash ≠ none ∨ t.light.gap ≠ none ∨ t.light.held.filter t.eligible = [] →
        exec (.rechargeExpiry n) s = .next t))

/-- CONFIRM_INPUT and CONFIRM_WINDOW_CLOSE (R88): a lamp of the mask is confirmed only inside the window; when it
closes, every lamp still PENDING is MISSED and its lamp FAULTED, and one LAMP_FAULT is taken, which leaves IDLE,
PARKED and FAULT as they are. FLASH_END (R58, R89, R90, R92, R103): with the window closed, the lamps that fired
recharge, the confirmed light is charged to the leaves of the record and to the volume, the last flash is written and
the gap starts. With no end ordered, each capture served records its result and awaits its frame, and its camera is
told. A flash whose window is open does not end (log 23). A capture served that has its end ordered records its
result and ends, its slot FREE and its frame not wanted; its partner with none ordered goes on (R67, R68). A confirm
input or window close without an open window, and a flash end without a flash, change nothing (log 4). -/
def Obligations.FlashRuns : Prop :=
  ((∀ (n : Fin 8) (s : State),
    ((∀ f, s.light.flash = some f → f.window = none) → exec (.confirmInput n) s = .next s) ∧
    ∀ f, s.light.flash = some f → f.window ≠ none →
      exec (.confirmInput n) s = .next
        { s with
          light :=
            { s.light with
              flash := some
                { f with
                  lamps := f.lamps.map fun x =>
                    if x.lamp = n ∧ x.confirm = .pending then { x with confirm := .confirmed } else x } } }) ∧
  ∀ s : State,
    ((∀ f, s.light.flash = some f → f.window = none) → exec .confirmWindowClose s = .next s) ∧
    ∀ f, s.light.flash = some f → f.window ≠ none →
      let closed : Flash :=
        { f with
          window := none,
          lamps := f.lamps.map fun x => if x.confirm = .pending then { x with confirm := .missed } else x }
      let missed (n : Fin 8) := ∃ x ∈ f.lamps, x.lamp = n ∧ x.confirm = .pending
      ((∀ x ∈ f.lamps, x.confirm ≠ .pending) →
        exec .confirmWindowClose s = .next { s with light := { s.light with flash := some closed } }) ∧
      ((∃ x ∈ f.lamps, x.confirm = .pending) →
        ∃ u : State,
          (∀ n, (missed n → (s.lamp n).state = .firing →
              u.lamp n = { s.lamp n with state := .faulted, recharge := none }) ∧
            (¬missed n ∨ (s.lamp n).state ≠ .firing → u.lamp n = s.lamp n)) ∧
          u.light = { s.light with lamps := u.light.lamps, flash := some closed } ∧
          s.keeps u [.opening, .account, .capture, .memory, .mem, .drain, .links, .pending] ∧
          (s.opening.state = .idle ∨ s.opening.state = .parked ∨ s.opening.state = .fault →
            exec .confirmWindowClose s = .next u) ∧
          (s.opening.state ≠ .idle → s.opening.state ≠ .parked → s.opening.state ≠ .fault →
            exec .confirmWindowClose s = .next (s.arbitrate (u.enterFault .lampFault))))) ∧
  (∀ s : State,
    (s.light.flash = none → exec .flashEnd s = .next s) ∧
    ∀ f, s.light.flash = some f →
      let dl := f.chargeLeft
      let dr := f.chargeRight
      let confirmed := maskOf (f.marked .confirmed)
      let missed := maskOf (f.marked .missed)
      (f.window ≠ none → exec .flashEnd s = .next s) ∧
      (f.window = none → ∃ t, exec .flashEnd s = .next t ∧
        (∀ n, t.lamp n =
          if (s.lamp n).state = .firing then
            (if (s.lamp n).entry.present then
              { s.lamp n with state := .charging, recharge := some (s.lamp n).entry.recharge }
             else { s.lamp n with state := .absent, recharge := none })
          else s.lamp n) ∧
        (t.light.flash = none ∧ t.light.grant = none ∧ t.light.gap = some 2000 ∧
          t.light.lastServed = s.light.lastServed ∧ t.light.programs = s.light.programs ∧
          t.light.lastFlash = some
            { served := f.served, level := f.levelUsed, duration := f.duration, confirmed := confirmed,
              unconfirmed := missed }) ∧
        (∀ j e, leafAt s.account.leaves j = some e → ∃ e', leafAt t.account.leaves j = some e' ∧
          e'.dose = e.dose + (if f.leftLeaf = some j then dl else 0) + (if f.rightLeaf = some j then dr else 0)) ∧
        (∀ i, s.mounted = some i → (t.volume i).doseUsed = (s.volume i).doseUsed + (dl + dr)) ∧
        (∀ i, s.mounted ≠ some i → t.volume i = s.volume i) ∧
        ((∀ h c, s.ctx h = some c → c.order = none) →
          (∀ h c, s.ctx h = some c →
            t.ctx h = some
              (if f.served.serves h then
                { c with
                  state := .awaitFrame, frameTimer := some 1000,
                  results := c.results ++
                    [{ step := f.step, slot := none, sealStatus := none, level := f.levelUsed, dimmed := f.dimmed,
                       clamped := f.clamped, left := dl, right := dr }] }
               else c)) ∧
          (∀ h, f.served.serves h = true → t.link (cameraLink h) = (s.notify (cameraLink h)
            (.stepFired ((f.idOf h).getD 0) f.step f.levelRequested f.levelUsed f.dimmed f.clamped
              (s.ctx h).isSome f.duration confirmed missed
              (match h with
               | .left => dl
               | .right => dr))).link (cameraLink h)) ∧
          t.opening = s.opening ∧ t.memory = s.memory ∧ t.light.held = s.light.held ∧
          t.link .S = s.link .S ∧ t.link .A = s.link .A) ∧
        (∀ h c o, s.ctx h = some c → f.served.serves h = true → c.order = some o →
          let l := cameraLink h
          let outcome : CaptureOutcome := if o = .aborted then .aborted else .cancelled
          t.ctx h = none ∧
          t.link l = ((s.notify l
            (.captureDone c.id h c.leaf outcome (c.results.length + 1) ((c.results.any (·.dimmed)) || f.dimmed)
              none)).notify l
            (.stepFired ((f.idOf h).getD 0) f.step f.levelRequested f.levelUsed f.dimmed f.clamped false f.duration
              confirmed missed (if h = .left then dl else dr))).link l ∧
          (∀ i, c.slot = some i → (s.slot i).state = .open' → s.capture.waitOrder = [] →
            (t.slot i).state = .free) ∧
          (∀ r, s.side (faceOf h) c.leaf = some r → ∃ r' m, t.side (faceOf h) c.leaf = some r' ∧
            r'.state = c.prior.toSide ∧ r'.summary = some m ∧ m.captureId = c.id ∧ m.outcome = outcome ∧
            m.steps.length = c.results.length + 1) ∧
          ∀ d, s.ctx (otherHalf h) = some d → c.linked = true → f.served = .pair → d.order = none →
            d.state = .firing → otherHalf h ∉ s.capture.waitOrder →
            t.ctx (otherHalf h) = some
              { d with
                state := .awaitFrame, frameTimer := some 1000, linked := false,
                cause := d.cause.or (some .partnerEnded),
                results := d.results ++
                  [{ step := f.step, slot := none, sealStatus := none, level := f.levelUsed, dimmed := f.dimmed,
                     clamped := f.clamped, left := dl, right := dr }] }) ∧
        s.keeps t [.mem, .drain, .pending]))

/-! ## Pixel links and frame memory -/

/-- HUNT_WORD, HEADER_WORD and FRAME_HEADER (R116 to R118): the start marker and the header buffer; at the eighth
word the first check that fails refuses the header, with the capture's end when it is too large; a header that
passes binds the frame to the slot of its step. A word that its command does not name in the receiver's state (a hunt
word other than the start marker or outside HUNT, a header word outside HEADER or with seven held, an eighth word
without seven held) changes nothing (log 4). -/
def Obligations.HeaderWords : Prop :=
  ∀ (h : Half) (w : Word) (s : State),
    let x := s.rx h
    ((x.state ≠ .hunt ∨ w ≠ 0x5AF0 → exec (.huntWord h w) s = .next s) ∧
      (x.state = .hunt → w = 0x5AF0 →
        exec (.huntWord h w) s = .next (s.setRx h { x with state := .header, header := [w] }))) ∧
    ((x.state ≠ .header ∨ 7 ≤ x.header.length → exec (.headerWord h w) s = .next s) ∧
      (x.state = .header → x.header.length < 7 →
        exec (.headerWord h w) s = .next (s.setRx h { x with header := x.header ++ [w] }))) ∧
    (x.state ≠ .header ∨ x.header.length ≠ 7 → exec (.frameHeader h w) s = .next s) ∧
    (x.state = .header → x.header.length = 7 →
      let word (n : Nat) : Word := ((x.header ++ [w])[n]?).getD 0
      let refused (y : HeaderRefusal) : State := s.setRx h
        { x with
          refusedCount := if x.refusedCount < 255 then x.refusedCount + 1 else x.refusedCount,
          lastRefusal := some y, header := [], state := .hunt }
      ((∀ c, s.ctx h = some c → c.state ≠ .awaitFrame) →
        exec (.frameHeader h w) s = .next (refused .noFrameWanted)) ∧
      ∀ c, s.ctx h = some c → c.state = .awaitFrame →
        let wrongSide := (word 2).toNat / 256 ≠ halfCode h
        let noMatch := (word 1).toNat ≠ c.id ∨ (word 2).toNat % 256 ≠ c.step
        let badSize := (word 3).toNat < 1 ∨ 8192 < (word 3).toNat ∨ (word 4).toNat < 1 ∨ 8192 < (word 4).toNat
        let due := (word 3).toNat * (word 4).toNat
        (wrongSide → exec (.frameHeader h w) s = .next (refused .wrongSide)) ∧
        (¬wrongSide → noMatch → exec (.frameHeader h w) s = .next (refused .noMatch)) ∧
        (¬wrongSide → ¬noMatch → badSize → exec (.frameHeader h w) s = .next (refused .badSize)) ∧
        (¬wrongSide → ¬noMatch → ¬badSize → 33554432 < due →
          exec (.frameHeader h w) s = .next
            (s.arbitrate
              (((refused .tooLarge).setCtx h
                (some { c with cause := some .frameTooLarge, heldCap := none })).endCapture h))) ∧
        (¬wrongSide → ¬noMatch → ¬badSize → due ≤ 33554432 →
          let receiving : Receiver :=
            { x with
              state := .payload, header := [], crc := some 0xFFFFFFFF, taken := 0, due := due, limit := some 8000,
              cancelMark := false, slot := c.slot, marker := false, crcHigh := none, crcReceived := none,
              result := none }
          let next (t : State) : State :=
            (t.setRx h receiving).setCtx h (some { c with state := .receiving, frameTimer := none })
          (c.slot = none → exec (.frameHeader h w) s = .next (next s)) ∧
          ∀ i, c.slot = some i →
            exec (.frameHeader h w) s = .next
              (next
                (s.setSlot i
                  { s.slot i with
                    size := some ((word 3).toNat, (word 4).toNat), camera := some (word 5, word 6, word 7),
                    words := 0, crcComputed := none, crcReceived := none, sealStatus := none }))))

/-- PAYLOAD_WORD, TRAILER_WORD and FRAME_COMPLETE_LIMIT_EXPIRY (R119 to R122): a payload word feeds the check and the
FIFO while it has room; the trailer and the limit decide the check result and enter SEALING, where the frame seals
when its FIFO is written. The check values are those of R120. While a frame is received, the slot's CRC computed is
the accumulator inverted (log 13). A word outside its state or without room, and the expiry of a stopped limit, change
nothing (log 4). -/
def Obligations.PayloadAndTrailer : Prop :=
  (crcOf [0xFFFF] = 0xFFFF0000 ∧ crcOf [0xFFFF, 0xFFFF] = 0xFFFFFFFF) ∧
  ∀ (h : Half) (w : Word) (s : State),
    let x := s.rx h
    let sealing (r : Receiver) (res : Seal) : State :=
      (s.setRx h { r with state := .sealing, limit := none, result := some res }).sealIfReady h
    ((x.state ≠ .payload ∨ 2048 ≤ x.fifo.length → exec (.payloadWord h w) s = .next s) ∧
      (x.state = .payload → x.fifo.length < 2048 →
        let x' : Receiver :=
          { x with
            crc := x.crc.map fun a => crcWord a w, fifo := x.fifo ++ [w], taken := x.taken + 1,
            state := if x.taken + 1 = x.due then .trailer else .payload }
        ∃ t, exec (.payloadWord h w) s = .next (s.arbitrate t) ∧
          (x.slot = none → t = s.setRx h x') ∧
          (∀ i, x.slot = some i →
            t = (s.setRx h x').setSlot i { s.slot i with crcComputed := x'.crc.map (~~~ ·) }) ∧
          (x.fifo ≠ [] ∨ s.memory.burst ≠ none → exec (.payloadWord h w) s = .next t))) ∧
    ((x.state ≠ .trailer → exec (.trailerWord h w) s = .next s) ∧
      (x.state = .trailer →
        (x.marker = false → w = 0x0FA5 →
          exec (.trailerWord h w) s = .next (s.setRx h { x with marker := true })) ∧
        (x.marker = false → w ≠ 0x0FA5 →
          exec (.trailerWord h w) s = .next (s.arbitrate (sealing x .damagedLength))) ∧
        (x.marker = true → x.crcHigh = none →
          exec (.trailerWord h w) s = .next (s.setRx h { x with crcHigh := some w })) ∧
        ∀ high, x.marker = true → x.crcHigh = some high →
          let received : BitVec 32 := BitVec.ofNat 32 (high.toNat * 65536 + w.toNat)
          exec (.trailerWord h w) s = .next
            (s.arbitrate
              (sealing { x with crcReceived := some received }
                (if x.crc.map (~~~ ·) = some received then .good else .damagedCrc))))) ∧
    ((x.limit = none → exec (.frameCompleteLimitExpiry h) s = .next s) ∧
      (x.limit ≠ none →
        exec (.frameCompleteLimitExpiry h) s = .next (s.arbitrate (sealing x .damagedTimeout))))

/-- The seal (R123, R124): it waits for the FIFO and its burst; then the slot is SEALED with its status, SLOT_SEALED
is queued, the report is handed to the context in RECEIVING, and the receiver returns to HUNT. Words leave the FIFO at
the grant of their burst, so that a FIFO found empty with its burst in progress is not yet written (log 12). -/
def Obligations.FrameSeals : Prop :=
  ∀ (h : Half) (s : State) (res : Seal), (s.rx h).state = .sealing → (s.rx h).result = some res →
    let x := s.rx h
    let t := s.sealIfReady h
    (x.fifo ≠ [] ∨ s.pixelBurst h = true → t = s) ∧
    (x.fifo = [] → s.pixelBurst h = false → ∀ i, x.slot = some i →
      let y := s.slot i
      let st := if x.cancelMark then Seal.cancelled else res
      t.slot i =
        { y with
          state := .sealed, sealStatus := some st, crcComputed := x.crc.map (~~~ ·), crcReceived := x.crcReceived,
          committed := false } ∧
      (∀ j, j ≠ i → t.slot j = s.slot j) ∧
      t.links =
        (s.notify .S (.slotSealed i y.volume y.captureId y.side y.step st y.size y.words)).links ∧
      (∀ c, s.ctx h = some c → c.state = .receiving → t.ctx h = some { c with report := some (i, st) }) ∧
      t.ctx (otherHalf h) = s.ctx (otherHalf h) ∧
      ((t.rx h).state = .hunt ∧ (t.rx h).cancelMark = false ∧ (t.rx h).ready = true) ∧
      t.rx (otherHalf h) = s.rx (otherHalf h) ∧
      s.keeps t [.opening, .account, .light, .mem, .drain, .pending])

/-- The memory arbiter (R126, R127): while it is free, the highest-priority requester then requesting is granted one
burst of up to 64 words, a pixel burst's words leaving the FIFO at the grant (log 12), or one refresh operation,
which takes one from the owed count at its grant. REFRESH_COMPLETION and REFRESH_TIMER_EXPIRY: the owed count rises
by one at the timer's expiry, the timer starts again, and the arbiter decides at both. An expiry at a count of 8 does
not arise (log 4). -/
def Obligations.MemoryArbiter : Prop :=
  (∀ s : State,
    let t := s.decideMemory
    let left := (s.rx .left).fifo
    let right := (s.rx .right).fifo
    let e := s.memory.engine
    let moves := e.state ≠ .idle ∧ e.abandoned = false ∧ 0 < e.left
    let reads := ∃ a, s.drain.active = some a ∧ a.ordered = none ∧ 0 < a.unread ∧
      s.drain.buffer.length + min 64 a.unread ≤ 128
    let pixel (h : Half) : State :=
      (s.setRx h { s.rx h with fifo := (s.rx h).fifo.drop 64 }).setBurst (some (.pixel h ((s.rx h).fifo.take 64)))
    let refresh : State := { s with memory := { s.memory with burst := some .refresh, owed := s.memory.owed - 1 } }
    (s.memory.burst ≠ none ∨ s.memory.mode = .retention → t = s) ∧
    (s.memory.burst = none → s.memory.mode ≠ .retention →
      (8 ≤ s.memory.owed → t = refresh) ∧
      (s.memory.owed < 8 →
        (left ≠ [] → t = pixel .left) ∧
        (left = [] → right ≠ [] → t = pixel .right) ∧
        (left = [] → right = [] →
          (moves → t = s.setBurst (some (.engine (min 64 e.left) false))) ∧
          (¬moves →
            (∀ a, s.drain.active = some a → reads → t = s.setBurst (some (.drain (min 64 a.unread)))) ∧
            (¬reads → 1 ≤ s.memory.owed → t = refresh) ∧
            (¬reads → s.memory.owed = 0 → t = s)))))) ∧
  (∀ s : State,
    (s.memory.burst ≠ some .refresh → exec .refreshCompletion s = .next s) ∧
    (s.memory.burst = some .refresh → exec .refreshCompletion s = .next (s.setBurst none).decideMemory) ∧
    (s.memory.refreshTimer = none ∨ 8 ≤ s.memory.owed → exec .refreshTimerExpiry s = .next s) ∧
    (s.memory.refreshTimer ≠ none → s.memory.owed < 8 →
      let t : State := { s with memory := { s.memory with owed := s.memory.owed + 1, refreshTimer := some 78 } }
      exec .refreshTimerExpiry s = .next t.decideMemory ∧ t.decideMemory.memory.owed ≤ 8 ∧
        t.decideMemory.memory.refreshTimer = some 78 ∧
        (s.memory.burst = none → s.memory.mode ≠ .retention → s.memory.owed = 7 →
          t.decideMemory.memory.burst = some .refresh ∧ t.decideMemory.memory.owed = 7)))

/-- BURST_COMPLETION (R119, R126, R129 to R131, R136, R157, R159): the words move and the requester's counts change;
the last burst of a save or a restore completes it, with VOLUME_SAVED (R157) or VOLUME_RESTORED (R159) on link S; the
words of a drain join its buffer. Then the arbiter decides. A restore writes the tables at its completion (log 19),
and the words lie in the DRAM as log 6 says. A slot freed by the restore is offered, and the light arbiter decides
after that. The last burst of an abandoned transfer only returns the engine to IDLE (log 20); where a new transfer
has begun meanwhile, it leaves that transfer's engine record as it is (log 35). A completion without a burst changes
nothing (log 4). -/
def Obligations.BurstCompletion : Prop :=
  ∀ s : State,
    (s.memory.burst = none ∨ s.memory.burst = some .refresh → exec .burstCompletion s = .next s) ∧
    (∀ h ws i, s.memory.burst = some (.pixel h ws) → (s.rx h).slot = some i →
      ∃ t, exec .burstCompletion s = .next t ∧ t.mem = writeWords s.mem i (s.slot i).words ws ∧
        (t.slot i).words = (s.slot i).words + ws.length ∧
        (Memory.wf s.mem = true →
          (∀ n, n < ws.length → readWord t.mem i ((s.slot i).words + n) = ws.getD n 0) ∧
          ∀ a, a < wordAddr i (s.slot i).words ∨ wordAddr i ((s.slot i).words + ws.length) ≤ a →
            memRead t.mem a = memRead s.mem a) ∧
        s.keeps t [.opening, .account, .light, .drain, .pending]) ∧
    (∀ n x i, s.memory.burst = some (.engine n false) → s.memory.engine.slot = some x → s.moving = some i →
      let e := s.memory.engine
      (e.state = .saving → ∃ t, exec .burstCompletion s = .next t ∧
        t.mem = writeWords s.mem x (e.length - e.left) (((s.saveImage i).drop (e.length - e.left)).take n) ∧
        (n < e.left → t.memory.engine = { e with left := e.left - n } ∧
          s.keeps t [.opening, .account, .capture, .light, .drain, .links, .pending]) ∧
        (e.left ≤ n → t.memory.engine.state = .idle ∧ t.volume i = { s.volume i with state := .suspended } ∧
          (∀ j, j ≠ i → t.volume j = s.volume j) ∧ t.account.leaves = [] ∧ t.account.exceptions = [] ∧
          (s.memory.mode = .entering → t.memory.mode = .retention) ∧
          (∀ y, (s.volume i).saveSlot = some y → t.link .S =
            (s.notify .S (.volumeSaved i y (s.volume i).lastOpening (((s.slot y).image).getD 0))).link .S) ∧
          s.keepsOtherLinks t .S ∧
          s.keeps t [.opening, .capture, .light, .drain, .pending])) ∧
      (e.state = .restoring → ∃ t, exec .burstCompletion s = .next (s.arbitrate t) ∧ t.mem = s.mem ∧
        s.keeps t [.drain, .pending] ∧
        (s.capture.waitOrder = [] → s.arbitrate t = t ∧ s.keeps t [.capture, .light]) ∧
        (n < e.left → t.memory.engine = { e with left := e.left - n } ∧
          s.keeps t [.opening, .account, .capture, .light, .links]) ∧
        (e.left ≤ n →
          let image := readImage (readWords s.mem x 0 e.length)
          let k := (s.volume i).lastOpening.getD 0
          let restored : Notice := .volumeRestored i (s.volume i).n k
            (image.counts.wanted + image.counts.reshoot + image.counts.held)
          t.memory.engine.state = .idle ∧
          t.volume i =
            { s.volume i with
              state := .mounted, saveSlot := none, counts := image.counts, excLost := image.lost } ∧
          (∀ j, j ≠ i → t.volume j = s.volume j) ∧ t.account.leaves = image.leaves ∧
          t.account.exceptions = image.exceptions ∧
          (s.memory.mode = .entering → t.memory.mode = .retention) ∧
          (s.capture.waitOrder = [] → t.slot x = Slot.free ∧ ∀ y, y ≠ x → t.slot y = s.slot y) ∧
          t.opening.volume = some i ∧ t.opening.k = k ∧ t.opening.seek = none ∧
          (s.opening.state = .parked → t.opening.state = .parked ∧ t.opening.parkReturn = .volume) ∧
          (s.opening.state ≠ .parked → (s.volume i).settle ≠ 0 →
            t.opening.state = .settling ∧ t.opening.settle = some (s.volume i).settle) ∧
          (s.opening.state = .parked ∨ (s.volume i).settle ≠ 0 →
            t.link .S = (s.notify .S restored).link .S ∧ s.keepsOtherLinks t .S) ∧
          ((s.link .S).notices.length < 31 → (t.link .S).notices.getLast? = some restored)))) ∧
    (∀ n, s.memory.burst = some (.engine n true) →
      ∃ t, exec .burstCompletion s = .next t ∧
        (s.memory.engine.abandoned = true → t.memory.engine.state = .idle) ∧
        (s.memory.engine.abandoned = false →
          t.memory.engine = s.memory.engine ∧ t.memory.mode = s.memory.mode) ∧
        (∀ i, t.slot i = s.slot i) ∧
        s.keeps t [.opening, .account, .capture, .light, .mem, .drain, .links, .pending]) ∧
    (∀ n a, s.memory.burst = some (.drain n) → s.drain.active = some a →
      ∃ t, exec .burstCompletion s = .next t ∧ t.mem = s.mem ∧
        (a.ordered = none →
          t.drain.active = some { a with next := a.next + n, unread := a.unread - n } ∧
          t.drain.buffer = s.drain.buffer ++ readWords s.mem a.job.slot a.next n ∧
          t.drain.queue = s.drain.queue ∧
          s.keeps t [.opening, .account, .capture, .light, .links, .pending]) ∧
        (a.ordered ≠ none → s.drain.queue = [] → t.drain.active = none ∧ t.drain.buffer = []))

/-! ## Drains and releases -/

/-- DRAIN_OPEN (R134, R135): the checks in order, an auto-release code above 1 refused with RANGE (log 11); then the
count is settled, the entry joins the queue's tail, and with no drain active and the memory ACTIVE the head becomes
active. DRAIN_STOP (R138, R142, R143): the active drain's slot, a queue entry, whose slot's deferred release is then
evaluated and shown in its DRAIN_DONE (log 42), or neither; its response carries the drain status, also when it is
refused with RANGE. -/
def Obligations.DrainRequests : Prop :=
  (∀ (slot : Byte) (first count : BitVec 32) (auto : Byte) (s : State), s.portFree .S →
    let c := Instr.drainOpen .S slot first count auto
    let refused (st : Status) := exec c s = .next (s.answered .S 0x50 st [])
    (8 ≤ slot.toNat ∨ 2 ≤ auto.toNat → refused .range) ∧
    ∀ i : Fin 8, slot.toNat = i.val → auto.toNat < 2 →
      let x := s.slot i
      let here := s.drains i = true ∨ s.queued i = true
      let full := 4 ≤ s.drain.queue.length + (if s.drain.active.isSome then 1 else 0)
      let available := x.words - first.toNat
      (x.state ≠ .sealed → x.state ≠ .draining → refused .notSealed) ∧
      (x.state = .sealed ∨ x.state = .draining →
        (here → refused .duplicate) ∧ (¬here → full → refused .queueFull) ∧
        (¬here → ¬full → x.words ≤ first.toNat → refused .range) ∧
        (¬here → ¬full → first.toNat < x.words →
          let j : DrainJob :=
            { slot := i, first := first.toNat,
              count := if count = 0 ∨ available < count.toNat then available else count.toNat,
              auto := decide (auto = 1) }
          let clamped := decide (available < count.toNat)
          let added : State := { s with drain := { s.drain with queue := s.drain.queue ++ [j] } }
          (s.drain.active ≠ none ∨ s.memory.mode ≠ .active →
            exec c s = .next (added.answered .S 0x50 .ok (added.drainOpenBody j clamped))) ∧
          (s.drain.active = none → s.memory.mode = .active →
            ∃ t j' rest, exec c s = .next t ∧ s.drain.queue ++ [j] = j' :: rest ∧
              t.hasAnswer .S 0x50 .ok (t.drainOpenBody j clamped) ∧
              t.drain =
                { queue := rest, buffer := [], readyIn := s.drain.readyIn,
                  active := some
                    { job := j', sent := 0, left := j'.count, next := j'.first, unread := j'.count,
                      stall := if s.drain.readyIn then none else some 100, ordered := none } } ∧
              (t.slot j'.slot).state = .draining ∧
              s.keepsOtherLinks t .S ∧ s.keeps t [.opening, .account, .capture, .light, .mem, .pending])))) ∧
  ∀ (slot : Byte) (s : State), s.portFree .S →
    (8 ≤ slot.toNat → exec (.drainStop .S slot) s = .next (s.answered .S 0x51 .range s.drainStatusBody)) ∧
    ∀ i : Fin 8, slot.toNat = i.val →
      (s.drains i = false → s.queued i = false →
        exec (.drainStop .S slot) s = .next (s.answered .S 0x51 .ok s.drainStatusBody)) ∧
      (∀ a, s.drain.active = some a → a.job.slot = i →
        (a.ordered ≠ none →
          exec (.drainStop .S slot) s = .next (s.answered .S 0x51 .ok s.drainStatusBody)) ∧
        (a.ordered = none →
          let t := (s.taken .S 0x51).setActive (some { a with stall := none, ordered := some .stopped })
          (s.drainBurst = true →
            exec (.drainStop .S slot) s = .next (t.answered .S 0x51 .ok t.drainStatusBody) ∧
              t.drainValid = false) ∧
          (s.drainBurst = false →
            exec (.drainStop .S slot) s = .next
              (s.arbitrate ((t.drainEnd .stopped).answered .S 0x51 .ok (t.drainEnd .stopped).drainStatusBody))))) ∧
      (∀ j, s.drains i = false → s.drain.queue.find? (fun y => decide (y.slot = i)) = some j →
        let x := s.slot i
        let t : State := { s.taken .S 0x51 with
          drain := { s.drain with queue := s.drain.queue.filter fun y => decide (y.slot ≠ i) } }
        let told (release : DrainRelease) : State := t.notify .S
          (.drainDone i x.volume x.captureId .stopped j.first j.count 0 x.drainedFully release)
        (x.deferred = none ∨ x.committed = false →
          exec (.drainStop .S slot) s = .next ((told .none).answered .S 0x51 .ok t.drainStatusBody)) ∧
        ∀ d, x.deferred = some d → x.committed = true →
          ∃ u, exec (.drainStop .S slot) s = .next (s.arbitrate (u.answered .S 0x51 .ok t.drainStatusBody)) ∧
            t.deferredRun u i x d told)

/-- RELEASE (R141 to R143): the first row of the table that matches; a GOOD frame not drained in full, released with
discard, makes its CAPTURED side RESHOOT or marks its capture in flight; so also a side accepted by the station that
kept its capture's summary (log 36). A discard code above 1 is refused with RANGE (log 11); for a slot number above 7
the slot state in the refusal is a free value (log 8). -/
def Obligations.Release : Prop :=
  ∀ (slot discard : Byte) (s : State), s.portFree .S →
    let c := Instr.release .S slot discard
    (8 ≤ slot.toNat → exec c s = .next (s.answered .S 0x52 .range (releaseRangeBody slot))) ∧
    (∀ i : Fin 8, slot.toNat = i.val → 2 ≤ discard.toNat →
      exec c s = .next (s.answered .S 0x52 .range [slot, 0xFF, b1 (s.slot i).state.code, 0, 0, 0xFF, 0])) ∧
    ∀ i : Fin 8, slot.toNat = i.val → discard.toNat < 2 →
      let x := s.slot i
      let d := decide (discard = 1)
      let none' : List Byte := [0, 0, 0xFF, 0]
      let waits := x.state = .draining ∨ (x.state = .sealed ∧ (s.queued i = true ∨ x.committed = false))
      let now := x.state = .sealed ∧ s.queued i = false ∧ x.committed = true
      let freed := (s.taken .S 0x52).freeSlot i
      let frees (t : State) := exec c s = .next (s.arbitrate (t.answered .S 0x52 .ok
        ([slot, 2, b1 (t.slot i).state.code] ++ none')))
      (x.state = .free → exec c s = .next (s.answered .S 0x52 .ok ([slot, 0, 0] ++ none'))) ∧
      (x.state = .open' → exec c s = .next (s.answered .S 0x52 .state ([slot, 0xFF, 1] ++ none'))) ∧
      (x.state = .save → exec c s = .next (s.answered .S 0x52 .state ([slot, 0xFF, 4] ++ none'))) ∧
      (waits → exec c s = .next
        ((s.setSlot i { x with deferred := some d }).answered .S 0x52 .ok
          ([slot, 1, b1 x.state.code] ++ none'))) ∧
      (now → x.drainedFully = true → frees freed) ∧
      (now → x.drainedFully = false → d = false →
        exec c s = .next (s.answered .S 0x52 .undrained ([slot, 0xFF, 2] ++ none'))) ∧
      (now → x.drainedFully = false → d = true → x.sealStatus ≠ some .good → frees freed) ∧
      (now → x.drainedFully = false → d = true → x.sealStatus = some .good →
        (s.mounted = none ∨ x.volume ≠ s.mounted →
          exec c s = .next (s.answered .S 0x52 .notMounted ([slot, 0xFF, 2] ++ none'))) ∧
        (s.mounted ≠ none → x.volume = s.mounted → ∀ h j r, x.side = some (h, j) → s.side (faceOf h) j = some r →
          let mine := ∃ m, r.summary = some m ∧ some m.captureId = x.captureId
          (mine → r.state = .captured → ∃ t, exec c s = .next (s.arbitrate t) ∧
            t.hasAnswer .S 0x52 .ok
              ([slot, 2, b1 (t.slot i).state.code] ++ be 2 j ++ [b1 (faceOf h).code, 1]) ∧
            t.side (faceOf h) j = some { r with state := .reshoot } ∧
            (s.account.exceptions.length < 64 → t.account.exceptions = s.account.exceptions ++
              [{ kind := .frameDiscarded, side := some (faceOf h, j), opening := s.opening.k,
                 captureId := x.captureId, slot := some i, extra := 0 }]) ∧
            (s.capture.waitOrder = [] → (t.slot i).state = .free) ∧
            s.keeps t [.mem, .drain, .pending]) ∧
          (mine → r.state = .capturing → ∃ t, exec c s = .next (s.arbitrate t) ∧
            t.hasAnswer .S 0x52 .ok
              ([slot, 2, b1 (t.slot i).state.code] ++ be 2 j ++ [b1 (faceOf h).code, 2]) ∧
            t.side (faceOf h) j =
              some { r with summary := r.summary.map fun m => { m with discarded := true } } ∧
            t.account.exceptions = s.account.exceptions ∧
            (s.capture.waitOrder = [] → (t.slot i).state = .free) ∧
            s.keeps t [.mem, .drain, .pending]) ∧
          (¬mine ∨ (r.state ≠ .captured ∧ r.state ≠ .capturing) → frees freed)))

/-- The drain link and the stall timer (R136, R137): a word is taken when valid and ready are high, and the last one
ends the drain COMPLETE; ready moves the stall timer of an active drain; its expiry ends the drain STALLED, at once
or at its burst's completion. A word with valid or ready low, an edge of ready to the level it has, and an expiry
without the timer running change nothing (log 4). The drain end with each of its statuses (R140, R142, R143, R144):
the slot is SEALED and drained fully by a COMPLETE run of the whole frame; a COMPLETE drain opened with auto-release
of a frame drained fully frees its slot, or defers the release when the frame is not committed; otherwise a deferred
release of a committed frame frees the slot, by the discard rule where that applies, or is dropped with
RELEASE_DROPPED after DRAIN_DONE. A discarded side accepted by the station is RESHOOT too (log 36). DRAIN_DONE shows
the slot record before the release clears it (log 43). RESET queues no DRAIN_DONE (R146). Then the next drain of the
queue becomes active. -/
def Obligations.DrainLink : Prop :=
  (∀ s : State,
    (s.drainValid = false ∨ s.drain.readyIn = false → exec .drainWordTaken s = .next s) ∧
    (∀ a w rest, s.drain.active = some a → a.ordered = none → s.drain.buffer = w :: rest →
      s.drain.readyIn = true →
      let t : State :=
        { s with drain := { s.drain with
          active := some { a with sent := a.sent + 1, left := a.left - 1 }, buffer := rest } }
      s.drainData = some w ∧ (s.terminalCount = true ↔ a.left = 1) ∧
      (a.left ≠ 1 → exec .drainWordTaken s = .next (s.arbitrate t)) ∧
      (a.left = 1 →
        exec .drainWordTaken s = .next (s.arbitrate (t.drainEnd .complete)) ∧
        (a.job.auto = false → (s.slot a.job.slot).deferred = none → s.drain.queue = [] →
          let x := s.slot a.job.slot
          let whole := x.drainedFully || (decide (a.job.first = 0) && decide (a.job.first + a.job.count = x.words))
          (t.drainEnd .complete).slot a.job.slot = { x with state := .sealed, drainedFully := whole } ∧
          (t.drainEnd .complete).drain = { s.drain with active := none, buffer := [] } ∧
          (t.drainEnd .complete).links = (s.notify .S
            (.drainDone a.job.slot x.volume x.captureId .complete a.job.first a.job.count (a.sent + 1) whole
              .none)).links))) ∧
    (s.drain.readyIn = false → exec .readyFalling s = .next s) ∧
    (s.drain.readyIn = true → exec .readyFalling s = .next
      { s with
        drain := { s.drain with
          readyIn := false,
          active := s.drain.active.map fun a => if a.ordered = none then { a with stall := some 100 } else a } }) ∧
    (s.drain.readyIn = true → exec .readyRising s = .next s) ∧
    (s.drain.readyIn = false → exec .readyRising s = .next
      { s with
        drain := { s.drain with
          readyIn := true,
          active := s.drain.active.map fun a => if a.ordered = none then { a with stall := none } else a } }) ∧
    ((∀ a, s.drain.active = some a → a.stall = none) → exec .stallTimerExpiry s = .next s) ∧
    ∀ a, s.drain.active = some a → a.stall ≠ none →
      let t := s.setActive (some { a with stall := none, ordered := some .stalled })
      (s.drainBurst = true → exec .stallTimerExpiry s = .next t) ∧
      (s.drainBurst = false → exec .stallTimerExpiry s = .next (s.arbitrate (t.drainEnd .stalled)))) ∧
  (∀ (s : State) (a : ActiveDrain) (status : DrainStatus) (j : DrainJob) (rest : List DrainJob),
    s.drain.active = some a → s.drain.queue = j :: rest →
    let t := s.drainEnd status
    (s.memory.mode ≠ .active → t.drain = { s.drain with active := none, buffer := [] }) ∧
    (s.memory.mode = .active → (t.slot j.slot).state = .draining ∧
      t.drain =
        { queue := rest, buffer := [], readyIn := s.drain.readyIn,
          active := some
            { job := j, sent := 0, left := j.count, next := j.first, unread := j.count,
              stall := if s.drain.readyIn then none else some 100, ordered := none } })) ∧
  ∀ (s : State) (a : ActiveDrain) (status : DrainStatus), s.drain.active = some a → s.drain.queue = [] →
    let i := a.job.slot
    let x := s.slot i
    let whole := x.drainedFully ||
      (decide (status = .complete) && decide (a.job.first = 0) && decide (a.job.first + a.job.count = x.words))
    let x' : Slot := { x with state := .sealed, drainedFully := whole }
    let auto := status = .complete ∧ a.job.auto = true ∧ whole = true
    let told (s : State) (release : DrainRelease) : State :=
      if status = .reset then s
      else s.notify .S (.drainDone i x.volume x.captureId status a.job.first a.job.count a.sent whole release)
    let dropped (d : Bool) (why : Status) : State :=
      (told s .dropped).notify .S (.releaseDropped i why d x.sealStatus whole)
    let t := s.drainEnd status
    let ends (y : Slot) (u : State) := t.slot i = y ∧ (∀ j, j ≠ i → t.slot j = s.slot j) ∧ t.links = u.links ∧
      s.keeps t [.opening, .account, .capture, .light]
    let frees (release : DrainRelease) := s.capture.waitOrder = [] → ends Slot.free (told s release)
    t.drain = { queue := [], active := none, buffer := [], readyIn := s.drain.readyIn } ∧
    s.keeps t [.mem, .pending] ∧
    (auto → x.committed = true → frees .freedAuto) ∧
    (auto → x.committed = false → ends { x' with deferred := some false } (told s .deferred)) ∧
    (¬auto →
      (x.deferred = none ∨ x.committed = false → ends x' (told s .none)) ∧
      ∀ d, x.deferred = some d → x.committed = true →
        (whole = true → frees .freedDeferred) ∧
        (whole = false →
          (d = false → ends { x' with deferred := none } (dropped d .undrained)) ∧
          (d = true → x.sealStatus ≠ some .good → frees .freedDeferred) ∧
          (d = true → x.sealStatus = some .good →
            (s.mounted = none ∨ x.volume ≠ s.mounted → ends { x' with deferred := none } (dropped d .notMounted)) ∧
            (s.mounted ≠ none → x.volume = s.mounted → ∀ h j r, x.side = some (h, j) →
              s.side (faceOf h) j = some r →
              let mine := ∃ m, r.summary = some m ∧ some m.captureId = x.captureId
              (¬mine ∨ (r.state ≠ .captured ∧ r.state ≠ .capturing) → frees .freedDeferred) ∧
              (mine → r.state = .capturing → t.side (faceOf h) j =
                  some { r with summary := r.summary.map fun m => { m with discarded := true } } ∧
                t.account.exceptions = s.account.exceptions ∧
                (s.capture.waitOrder = [] → (t.slot i).state = .free)) ∧
              (mine → r.state = .captured → t.side (faceOf h) j = some { r with state := .reshoot } ∧
                (s.account.exceptions.length < 64 → t.account.exceptions = s.account.exceptions ++
                  [{ kind := .frameDiscarded, side := some (faceOf h, j), opening := s.opening.k,
                     captureId := x.captureId, slot := some i, extra := 0 }]) ∧
                (s.capture.waitOrder = [] → (t.slot i).state = .free))))))

/-! ## Volumes -/

/-- REGISTER (R151, R152): the checks in order, the lowest EMPTY entry filled, the timings settled with CLAMPED shown
(the place of that byte is the model's choice, log 25; a settle time above 2000 sets it, log 37, and a turn timeout
of 0, log 30). A mark of more than 40 bytes makes the request too long for the link (R184). -/
def Obligations.Register : Prop :=
  ∀ (mark : List Byte) (n : Word) (leafCap : BitVec 32) (volumeCap : BitVec 48) (settle : Word) (turn : Byte)
    (life : Word) (s : State), s.portFree .S →
    let c := Instr.register .S mark n leafCap volumeCap settle turn life
    let refused (st : Status) (body : List Byte) := exec c s = .next (s.answered .S 0x10 st body)
    let bad := mark.length < 1 ∨ (∃ b ∈ mark, b.toNat < 0x20 ∨ 0x7E < b.toNat) ∨ n.toNat < 1 ∨ 4096 < n.toNat
    let holds (i : Fin 16) := (s.volume i).state ≠ .empty ∧ (s.volume i).mark = mark
    (40 < mark.length → exec c s = .next (s.setLink .S { s.link .S with malformed := true })) ∧
    (mark.length ≤ 40 →
      (bad → refused .range []) ∧
      (∀ i, ¬bad → holds i → (∀ j, j < i → ¬holds j) → refused .duplicateMark [b1 i.val]) ∧
      (¬bad → (∀ i, ¬holds i) → (∀ i, (s.volume i).state ≠ .empty) → refused .tableFull []) ∧
      ∀ i, ¬bad → (∀ j, ¬holds j) → (s.volume i).state = .empty → (∀ j, j < i → (s.volume j).state ≠ .empty) →
        let t := s.setVolume i
          { state := .pending, mark := mark, n := n.toNat, leafCap := leafCap.toNat, volumeCap := volumeCap.toNat,
            doseUsed := 0,
            settle :=
              if settle = 0xFFFF then 400 else if 2000 < settle.toNat then 2000 else settle.toNat / 10 * 10,
            turn :=
              if turn = 0xFF then 8 else if turn = 0 then 1 else if 30 < turn.toNat then 30 else turn.toNat,
            life :=
              if life = 0xFFFF then 5000 else if life.toNat < 500 then 500
              else if 10000 < life.toNat then 10000 else life.toNat,
            counts := ⟨2 * n.toNat, 0, 0, 0, 0, 0, 0⟩, excCount := 0, excLost := 0, lastOpening := none,
            saveSlot := none }
        let clamped := decide ((settle ≠ 0xFFFF ∧ 2000 < settle.toNat) ∨
          (turn ≠ 0xFF ∧ (turn = 0 ∨ 30 < turn.toNat)) ∨
          (life ≠ 0xFFFF ∧ (life.toNat < 500 ∨ 10000 < life.toNat)))
        exec c s = .next (t.answered .S 0x10 .ok (t.volumeStatus i ++ [if clamped then 1 else 0])))

/-- MOUNT (R153, R154, R158, R15, R130): the checks in order; a PENDING entry is MOUNTED at once with a fresh leaf
table, and its volume enters the cradle; a SUSPENDED entry becomes RESUMING, and its restore begins, at once also
while the last burst of an abandoned transfer runs (log 35). -/
def Obligations.Mount : Prop :=
  ∀ (index : Byte) (opening : Word) (s : State), s.portFree .S →
    let c := Instr.mount .S index opening
    let refused (st : Status) := exec c s = .next (s.answered .S 0x11 st [])
    (16 ≤ index.toNat → refused .range) ∧
    ∀ i : Fin 16, index.toNat = i.val →
      let v := s.volume i
      let free := s.opening.state ≠ .parked ∧ ∀ j, ¬(s.volume j).state.held
      (s.opening.state = .parked → refused .state) ∧
      (∀ j, s.opening.state ≠ .parked → (s.volume j).state.held → refused .busy) ∧
      (free → v.state ≠ .pending → v.state ≠ .suspended → refused .state) ∧
      (free → v.state = .pending → v.n < opening.toNat → refused .range) ∧
      (free → v.state = .suspended → v.n < opening.toNat → opening ≠ 0xFFFF → refused .range) ∧
      (free → v.state = .pending → opening.toNat ≤ v.n →
        ∃ t, exec c s = .next t ∧ t.hasAnswer .S 0x11 .ok (t.volumeStatus i) ∧
          t.volume i = { v with state := .mounted } ∧ (∀ j, j ≠ i → t.volume j = s.volume j) ∧
          t.account.exceptions = [] ∧ t.account.leaves.length = v.n ∧
          (∀ e ∈ t.account.leaves, e.dose = 0 ∧ ∀ f, e.side f =
            { state := .wanted, owner := none, prior := none, reason := none, captures := 0, summary := none }) ∧
          t.opening.volume = some i ∧ t.opening.k = opening.toNat ∧ t.opening.seek = none ∧
          (v.settle ≠ 0 → t.opening =
            { s.opening with
              volume := some i, k := opening.toNat, seek := none, state := .settling, settle := some v.settle,
              direction := none }) ∧
          (v.settle = 0 → t.opening.settle = none ∧ t.opening.state.settled = true) ∧
          s.keeps t [.capture, .light, .memory, .mem, .drain, .pending]) ∧
      (free → v.state = .suspended → opening.toNat ≤ v.n ∨ opening = 0xFFFF →
        ∃ t, exec c s = .next t ∧ t.hasAnswer .S 0x11 .ok (t.volumeStatus i) ∧
          t.volume i =
            { v with
              state := .resuming,
              lastOpening := if opening = 0xFFFF then v.lastOpening else some opening.toNat } ∧
          (∀ j, j ≠ i → t.volume j = s.volume j) ∧ t.account.leaves = s.account.leaves ∧
          t.account.exceptions = s.account.exceptions ∧ t.memory.slots = s.memory.slots ∧
          (∀ x, v.saveSlot = some x →
            let length := ((s.slot x).image).getD 0
            t.memory.engine =
              { state := .restoring, slot := some x, length := length, left := length, abandoned := false } ∧
            (0 < length → s.memory.engine.state = .idle → s.memory.burst = none → s.memory.mode = .active →
              s.memory.owed < 8 → (∀ h, (s.rx h).fifo = []) →
              t.memory.burst = some (.engine (min 64 length) false))) ∧
          s.keepsOtherLinks t .S ∧ s.keeps t [.opening, .capture, .light, .mem, .drain, .pending])

/-- SUSPEND (R155, R156, R129, R15): the checks in order; then the lowest FREE slot becomes SAVE with the image
length, the entry SUSPENDING, the opening IDLE, and the save begins, at once also while the last burst of an
abandoned transfer runs (log 35). -/
def Obligations.Suspend : Prop :=
  ∀ s : State, s.portFree .S →
    let c := Instr.suspend .S
    let refused (st : Status) (body : List Byte) := exec c s = .next (s.answered .S 0x12 st body)
    let free := s.opening.state ≠ .parked ∧ s.opening.state ≠ .fault ∧ s.moving = none
    (s.opening.state = .parked → refused .state []) ∧
    (s.opening.state = .fault → refused .fault []) ∧
    (s.opening.state ≠ .parked → s.opening.state ≠ .fault → s.moving ≠ none → refused .busy []) ∧
    (free → s.mounted = none → refused .noVolume []) ∧
    ∀ i, free → s.mounted = some i →
      let busy := s.opening.state = .turning ∨ (∃ h, s.ctx h ≠ none) ∨ ∃ h, s.claimOf h ≠ none
      (busy → refused .busy []) ∧
      (¬busy → (∀ x, (s.slot x).state ≠ .free) →
        refused .noSlot
          [b1 ((List.finRange 8).countP fun x =>
            decide ((s.slot x).state = .sealed ∨ (s.slot x).state = .draining))]) ∧
      ∀ x, ¬busy → (s.slot x).state = .free → (∀ y, y < x → (s.slot y).state ≠ .free) →
        let v := s.volume i
        let length := 10 + 50 * v.n + 5 * s.account.exceptions.length
        ∃ t, exec c s = .next t ∧ t.hasAnswer .S 0x12 .ok (t.volumeStatus i) ∧
          t.volume i =
            { v with state := .suspending, saveSlot := some x, lastOpening := some s.opening.k } ∧
          (∀ j, j ≠ i → t.volume j = s.volume j) ∧ t.account.leaves = s.account.leaves ∧
          t.account.exceptions = s.account.exceptions ∧
          t.slot x =
            { state := .save, volume := some i, captureId := none, side := none, step := none, size := none,
              camera := none, words := 0, crcComputed := none, crcReceived := none, sealStatus := none,
              committed := false, drainedFully := false, deferred := none, image := some length } ∧
          (∀ y, y ≠ x → t.slot y = s.slot y) ∧
          t.memory.engine =
            { state := .saving, slot := some x, length := length, left := length, abandoned := false } ∧
          t.opening =
            { s.opening with volume := none, seek := none, settle := none, direction := none, state := .idle } ∧
          s.keepsOtherLinks t .S ∧ s.keeps t [.capture, .light, .mem, .drain, .pending]

/-- CLOSE (R160, R161, R15, R50): the checks in order; a MOUNTED entry loses its claims with their notices, leaves
the cradle, queues its report and empties the tables; a SUSPENDED entry frees its image's slot and queues its report,
in which no exceptions are unread (log 38); the slot is offered to a capture that waits (R112), and the arbiters
decide after that (R83). -/
def Obligations.Close : Prop :=
  ∀ (index : Byte) (s : State), s.portFree .S →
    let c := Instr.close .S index
    let refused (st : Status) := exec c s = .next (s.answered .S 0x13 st [])
    (16 ≤ index.toNat → refused .range) ∧
    ∀ i : Fin 16, index.toNat = i.val →
      let v := s.volume i
      let free := s.opening.state ≠ .parked ∧ s.opening.state ≠ .fault
      let busy := s.opening.state = .turning ∨ ∃ h, s.ctx h ≠ none
      (s.opening.state = .parked → refused .state) ∧ (s.opening.state = .fault → refused .fault) ∧
      (free → v.state ≠ .mounted → v.state ≠ .suspended → refused .state) ∧
      (free → v.state = .mounted → busy → refused .busy) ∧
      (free → v.state = .mounted → ¬busy →
        let u := s.endClaims true
        let report : CloseReport :=
          { index := i, n := v.n, fromMounted := true, counts := (u.volume i).counts, doseUsed := v.doseUsed,
            volumeCap := v.volumeCap, excCount := v.excCount, excLost := v.excLost,
            unread := s.account.exceptions.length, lastOpening := some s.opening.k }
        ∃ t, exec c s = .next t ∧ t.hasAnswer .S 0x13 .ok (t.volumeStatus i) ∧
          t.volume i =
            { v with state := .closed, counts := (u.volume i).counts, lastOpening := some s.opening.k } ∧
          (∀ j, j ≠ i → t.volume j = u.volume j) ∧ t.account.leaves = [] ∧ t.account.exceptions = [] ∧
          (∀ h, t.claimOf h = none ∧ t.ctx h = none) ∧
          t.opening =
            { s.opening with volume := none, seek := none, settle := none, direction := none, state := .idle } ∧
          (t.link .S).notices = ((s.notify .S (.closeReport report)).link .S).notices ∧
          (∀ l, l ≠ .S → t.link l = u.link l) ∧ s.keeps t [.light, .memory, .mem, .drain, .pending]) ∧
      (∀ x, free → v.state = .suspended → v.saveSlot = some x →
        ∃ t, exec c s = .next (s.arbitrate t) ∧ t.hasAnswer .S 0x13 .ok (t.volumeStatus i) ∧
          t.volume i = { v with state := .closed, saveSlot := none } ∧ (∀ j, j ≠ i → t.volume j = s.volume j) ∧
          t.account.leaves = s.account.leaves ∧ t.account.exceptions = s.account.exceptions ∧
          (t.link .S).notices =
            ((s.notify .S (.closeReport
              { index := i, n := v.n, fromMounted := false, counts := v.counts, doseUsed := v.doseUsed,
                volumeCap := v.volumeCap, excCount := v.excCount, excLost := v.excLost, unread := 0,
                lastOpening := v.lastOpening })).link .S).notices ∧
          s.keepsOtherLinks t .S ∧ s.keeps t [.opening, .mem, .drain, .pending] ∧
          t.memory = { s.memory with slots := t.memory.slots } ∧
          (s.capture.waitOrder = [] →
            s.arbitrate t = t ∧ t.slot x = Slot.free ∧ (∀ y, y ≠ x → t.slot y = s.slot y) ∧
              s.keeps t [.capture, .light]) ∧
          (∀ h rest, s.capture.waitOrder = h :: rest → (∀ y, y ≠ x → (s.slot y).state ≠ .free) →
            ∀ c', s.ctx h = some c' → c'.linked = false →
            t.ctx h = some { c' with slot := some x, state := .waitLight, slotTimer := none } ∧
              t.slot x = s.opened h c' ∧ (∀ y, y ≠ x → t.slot y = s.slot y) ∧ t.capture.waitOrder = rest ∧
              t.light = { s.light with held := s.light.held ++ [c'.request h] }))

/-- CLEAR (R162, R148): the checks in order; the entry becomes EMPTY; a SUSPENDED one frees its image's slot and
queues its report first, in which no exceptions are unread (log 38); the slot is offered to a capture that waits
(R112), and the arbiters decide after that (R83). -/
def Obligations.Clear : Prop :=
  ∀ (index : Byte) (s : State), s.portFree .S →
    let c := Instr.clear .S index
    let refused (st : Status) (body : List Byte) := exec c s = .next (s.answered .S 0x14 st body)
    let empty : Volume :=
      { state := .empty, mark := [], n := 0, leafCap := 0, volumeCap := 0, doseUsed := 0, settle := 0, turn := 0,
        life := 0, counts := ⟨0, 0, 0, 0, 0, 0, 0⟩, excCount := 0, excLost := 0, lastOpening := none,
        saveSlot := none }
    (16 ≤ index.toNat → refused .range []) ∧
    ∀ i : Fin 16, index.toNat = i.val →
      let v := s.volume i
      let clears := v.state = .pending ∨ v.state = .suspended ∨ v.state = .closed
      let frames (x : Fin 8) := ((s.slot x).state = .sealed ∨ (s.slot x).state = .draining) ∧ (s.slot x).volume = some i
      (¬clears → refused .state []) ∧
      (∀ x, clears → frames x → (∀ y, y < x → ¬frames y) →
        refused .framesHeld
          [b1 x.val,
            b1 ((List.finRange 8).countP fun y =>
              decide (((s.slot y).state = .sealed ∨ (s.slot y).state = .draining) ∧
                (s.slot y).volume = some i))]) ∧
      (v.state = .pending ∨ v.state = .closed → (∀ x, ¬frames x) →
        let t := s.setVolume i empty
        exec c s = .next (t.answered .S 0x14 .ok (t.volumeStatus i))) ∧
      (∀ x, v.state = .suspended → (∀ y, ¬frames y) → v.saveSlot = some x →
        ∃ t, exec c s = .next (s.arbitrate t) ∧ t.hasAnswer .S 0x14 .ok (t.volumeStatus i) ∧ t.volume i = empty ∧
          (∀ j, j ≠ i → t.volume j = s.volume j) ∧ t.account.leaves = s.account.leaves ∧
          t.account.exceptions = s.account.exceptions ∧
          (t.link .S).notices =
            ((s.notify .S (.closeReport
              { index := i, n := v.n, fromMounted := false, counts := v.counts, doseUsed := v.doseUsed,
                volumeCap := v.volumeCap, excCount := v.excCount, excLost := v.excLost, unread := 0,
                lastOpening := v.lastOpening })).link .S).notices ∧
          s.keepsOtherLinks t .S ∧ s.keeps t [.opening, .mem, .drain, .pending] ∧
          t.memory = { s.memory with slots := t.memory.slots } ∧
          (s.capture.waitOrder = [] →
            s.arbitrate t = t ∧ t.slot x = Slot.free ∧ (∀ y, y ≠ x → t.slot y = s.slot y) ∧
              s.keeps t [.capture, .light]) ∧
          (∀ h rest, s.capture.waitOrder = h :: rest → (∀ y, y ≠ x → (s.slot y).state ≠ .free) →
            ∀ c', s.ctx h = some c' → c'.linked = false →
            t.ctx h = some { c' with slot := some x, state := .waitLight, slotTimer := none } ∧
              t.slot x = s.opened h c' ∧ (∀ y, y ≠ x → t.slot y = s.slot y) ∧ t.capture.waitOrder = rest ∧
              t.light = { s.light with held := s.light.held ++ [c'.request h] }))

/-- SET_TIMING (R152) and SET_BUDGET (R106): refused for an index out of range and for an EMPTY or CLOSED entry; a
default marker leaves that timing as it stands (the place of the CLAMPED byte is the model's choice, log 25; a settle
time above 2000 sets it, log 37, and a turn timeout of 0, log 30). -/
def Obligations.TimingBudget : Prop :=
  ∀ (index : Byte) (settle : Word) (turn : Byte) (life : Word) (leafCap : BitVec 32) (volumeCap : BitVec 48)
    (s : State), s.portFree .S →
    let timing := exec (.setTiming .S index settle turn life) s
    let budget := exec (.setBudget .S index leafCap volumeCap) s
    let refused (st : Status) :=
      timing = .next (s.answered .S 0x16 st []) ∧ budget = .next (s.answered .S 0x15 st [])
    (16 ≤ index.toNat → refused .range) ∧
    ∀ i : Fin 16, index.toNat = i.val →
      let v := s.volume i
      (v.state = .empty ∨ v.state = .closed → refused .state) ∧
      (v.state ≠ .empty → v.state ≠ .closed →
        let t := s.setVolume i
          { v with
            settle :=
              if settle = 0xFFFF then v.settle else if 2000 < settle.toNat then 2000 else settle.toNat / 10 * 10,
            turn :=
              if turn = 0xFF then v.turn else if turn = 0 then 1 else if 30 < turn.toNat then 30 else turn.toNat,
            life :=
              if life = 0xFFFF then v.life else if life.toNat < 500 then 500
              else if 10000 < life.toNat then 10000 else life.toNat }
        let clamped := decide ((settle ≠ 0xFFFF ∧ 2000 < settle.toNat) ∨
          (turn ≠ 0xFF ∧ (turn = 0 ∨ 30 < turn.toNat)) ∨
          (life ≠ 0xFFFF ∧ (life.toNat < 500 ∨ 10000 < life.toNat)))
        let u := s.setVolume i { v with leafCap := leafCap.toNat, volumeCap := volumeCap.toNat }
        timing = .next (t.answered .S 0x16 .ok (t.volumeStatus i ++ [if clamped then 1 else 0])) ∧
          budget = .next (u.answered .S 0x15 .ok (u.budgetBody i)))

/-! ## The leaf table and the exception list -/

/-- RESHOOT, EXEMPT and ACCEPT_SIDE (R168, R170 to R173): the checks in order, the side's record after each, the side
report, and the evaluation of a present side whose state changed. A mark refused before a side is found shows the
leaf and face of the request with side state 0xFF (log 30). -/
def Obligations.StationMarks : Prop :=
  ∀ (leaf : Word) (face reason : Byte) (s : State), s.portFree .S →
    let reshoot := exec (.reshoot .S leaf face) s
    let exempt := exec (.exempt .S leaf face reason) s
    let accept := exec (.acceptSide .S leaf face) s
    let refusal (kind : Byte) (st : Status) (found : Byte) : Host.Outcome State Fault Refusal :=
      .next (s.answered .S kind st (be 2 leaf.toNat ++ [face, found]))
    let all (st : Status) (found : Byte) :=
      reshoot = refusal 0x20 st found ∧ exempt = refusal 0x21 st found ∧ accept = refusal 0x22 st found
    (s.mounted = none → all .noVolume 0xFF) ∧
    ∀ i, s.mounted = some i →
      (2 ≤ face.toNat → all .range 0xFF) ∧
      ∀ f : Face, face.toNat = f.code →
        (s.side f leaf.toNat = none → all .range 0xFF) ∧
        ∀ r, s.side f leaf.toNat = some r →
          let found := b1 r.state.code
          let held := r.state = .claimed ∨ r.state = .capturing
          let marked (kind : Byte) (r' : SideRec) : State :=
            let u := (s.taken .S kind).changeSide f leaf.toNat fun _ => r'
            if r'.state = r.state then u else u.evaluateSide f leaf.toNat
          let done (kind : Byte) (r' : SideRec) : Host.Outcome State Fault Refusal :=
            .next ((marked kind r').answered .S kind .ok
              (sideReport leaf.toNat f i r.state r' (decide (r'.state ≠ r.state ∨ r'.reason ≠ r.reason))
                ((marked kind r').volume i).counts))
          (16 ≤ reason.toNat → exempt = refusal 0x21 .range found) ∧
          (held → reshoot = refusal 0x20 .claimed found ∧ accept = refusal 0x22 .claimed found ∧
            (reason.toNat < 16 → exempt = refusal 0x21 .claimed found)) ∧
          (¬held →
            reshoot = done 0x20
              (if r.state = .captured ∨ r.state = .held then { r with state := .reshoot }
               else if r.state = .exempt then { r with state := .reshoot, reason := none } else r) ∧
            (reason.toNat < 16 →
              exempt = done 0x21 { r with state := .exempt, reason := some reason.toNat }) ∧
            (r.state = .exempt → accept = refusal 0x22 .state found) ∧
            (r.state ≠ .exempt →
              accept = done 0x22
                (if r.state = .captured then r
                 else
                  { r with
                    state := .captured,
                    summary := some
                      { captureId := 0, outcome := .stationAccepted, program := none, steps := [], dose := 0,
                        discarded := false } }))) ∧
          ∀ kind r', (marked kind r').side f leaf.toNat = some r' ∧
            (∀ f' j, (f', j) ≠ (f, leaf.toNat) → (marked kind r').side f' j = s.side f' j) ∧
            (∀ j, (marked kind r').volume j =
              if j = i then { s.volume i with counts := (s.volume i).counts.move r.state r'.state }
              else s.volume j) ∧
            s.keeps (marked kind r') [.capture, .light, .memory, .mem, .drain, .pending]

/-- The exception list (R178, R179): a record joins the tail with its notice, or is counted as lost in a full list;
READ_EXCEPTIONS takes the oldest 1 to 4 out. A notice joins the tail of a queue with room; on a full queue it is
dropped and counted, and the other links are unaffected (R188). -/
def Obligations.ExceptionsAndNotices : Prop :=
  ((∀ (x : ExcRecord) (s : State) (i : Fin 16), s.mounted = some i →
    let v := s.volume i
    let size := s.account.exceptions.length
    (size < 64 →
      s.addException x =
        ((s.setExceptions (s.account.exceptions ++ [x])).setVolume i
          { v with excCount := if v.excCount < 65535 then v.excCount + 1 else v.excCount }).notify .S
          (.exception i x (size + 1) v.excLost)) ∧
    (64 ≤ size →
      s.addException x = s.setVolume i
        { v with excLost := if v.excLost < 65535 then v.excLost + 1 else v.excLost })) ∧
  ∀ (n : Byte) (s : State), s.portFree .S →
    let c := Instr.readExceptions .S n
    let list := s.account.exceptions
    (s.mounted = none → exec c s = .next (s.answered .S 0x24 .noVolume [])) ∧
    (s.mounted ≠ none → n.toNat = 0 ∨ 4 < n.toNat → exec c s = .next (s.answered .S 0x24 .range [])) ∧
    ∀ i, s.mounted = some i → 1 ≤ n.toNat → n.toNat ≤ 4 →
      exec c s = .next ((s.setExceptions (list.drop n.toNat)).answered .S 0x24 .ok
        ([b1 (min n.toNat list.length)] ++ (list.take n.toNat).flatMap ExcRecord.bytes ++
          [b1 (list.length - n.toNat)] ++ be 2 (s.volume i).excCount ++ be 2 (s.volume i).excLost))) ∧
  (∀ (l : LinkId) (n : Notice) (s : State),
    let depth := if l = .S then 32 else 8
    ((s.link l).notices.length < depth →
      s.notify l n = s.setLink l { s.link l with notices := (s.link l).notices ++ [n] } ∧
        ((s.notify l n).link l).attention = true) ∧
    (depth ≤ (s.link l).notices.length →
      s.notify l n = s.setLink l
        { s.link l with
          lost := if (s.link l).lost < 255 then (s.link l).lost + 1 else (s.link l).lost, noticeLost := true }) ∧
    s.keepsOtherLinks (s.notify l n) l ∧
    s.keeps (s.notify l n) [.opening, .account, .capture, .light, .memory, .mem, .drain, .pending])

/-- The figures of the MOUNTED entry and its leaf table (R103, R104, R157, R159, R175): a MOUNT of a PENDING entry
makes them agree, and a change of a side and a charge keep them so. The engine's transfer agrees with the volume table
after reset, and every step keeps it so: it saves the entry that is SUSPENDING and restores the one that is RESUMING.
Every step keeps the figures in agreement, from a state in which the opening record and the engine's transfer agree with
the volume table, the figures of a PENDING entry are those of REGISTER, those of a SUSPENDING entry agree with the
tables on chip, the leaves of a flash record lie in the table, and the image that the last burst of a restore completes
agrees with its entry. -/
def Obligations.AccountAgrees : Prop :=
  ((∀ (i : Fin 16) (k : Nat) (s : State), (∀ j, (s.volume j).state ≠ .mounted) →
    (s.volume i).counts = ⟨2 * (s.volume i).n, 0, 0, 0, 0, 0, 0⟩ → (s.volume i).doseUsed = 0 →
    (s.mountPending i k).mounted = some i ∧ (s.mountPending i k).Accounted) ∧
  (∀ (f : Face) (j : Nat) (g : SideRec → SideRec) (s : State), s.Accounted → (s.changeSide f j g).Accounted) ∧
  ∀ (a b : Option Nat) (dl dr : Nat) (s : State), s.Accounted →
    (a = none → dl = 0) → (b = none → dr = 0) →
    (∀ j, a = some j ∨ b = some j → (leafAt s.account.leaves j).isSome = true) →
    (s.charge a b dl dr).Accounted) ∧
  State.reset.Transferring ∧
  (∀ s t : State, s.Positioned → s.Transferring → step s = .next t → t.Transferring) ∧
  ∀ s t : State, s.Accounted → s.Positioned → s.Transferring →
    (∀ i, (s.volume i).state = .pending →
      (s.volume i).counts = ⟨2 * (s.volume i).n, 0, 0, 0, 0, 0, 0⟩ ∧ (s.volume i).doseUsed = 0) →
    (∀ i, (s.volume i).state = .suspending → (s.volume i).agrees s.account.leaves) →
    (∀ f, s.light.flash = some f → ∀ j, f.leftLeaf = some j ∨ f.rightLeaf = some j →
      (leafAt s.account.leaves j).isSome = true) →
    (∀ i x n, (s.volume i).state = .resuming → s.memory.burst = some (.engine n false) →
      (s.volume i).saveSlot = some x → s.memory.engine.left ≤ n →
      let image := readImage (readWords s.mem x 0 s.memory.engine.length)
      ({ s.volume i with counts := image.counts } : Volume).agrees image.leaves) →
    step s = .next t → t.Accounted

/-! ## Encodings and invariants -/

/-- Requests and their frames agree (R184, R195): the frame of a well-formed request command is the request of that
command and of no other, and every frame of a kind other than the read marker is the frame of the command that takes
it. Which command takes a frame that the dispatcher refuses is the model's choice (log 5). -/
def Obligations.RequestRoundTrip : Prop :=
  (∀ (c : Instr) (l : LinkId) (f : Frame), c.wellFormed = true → frameOf c = some (l, f) →
    requestOf l f = c ∧ f.body.length ≤ 58 ∧ f.kind ≠ 0xFF) ∧
  ∀ (l : LinkId) (f : Frame), f.kind ≠ 0xFF → f.body.length ≤ 58 →
    frameOf (requestOf l f) = some (l, f) ∧ (requestOf l f).wellFormed = true

/-- The save image (R129, R130, R196): its length is the image length, and reading it back gives the leaf table, the
exception list, the counts and the exceptions lost. The order of a word's two bytes is the model's (log 41). -/
def Obligations.ImageRoundTrip : Prop :=
  ∀ (v : Volume) (leaves : List LeafEntry) (exceptions : List ExcRecord), Storable v leaves exceptions →
    (imageWords v leaves exceptions).length = 10 + 50 * v.n + 5 * exceptions.length ∧
    readImage (imageWords v leaves exceptions) =
      { leaves := leaves, exceptions := exceptions, counts := v.counts, lost := v.excLost }

/-- Every step keeps the bounds of the buffers and counts, and the DRAM's canonical form. -/
def Obligations.BoundedKept : Prop :=
  ∀ s t : State, s.Bounded → step s = .next t → t.Bounded

/-- Every step keeps the standby of the cradle and of the frame memory in agreement. -/
def Obligations.PoweredKept : Prop :=
  ∀ s t : State, s.Powered → step s = .next t → t.Powered

/-- Every step keeps the opening record in agreement with the volume table. -/
def Obligations.PositionedKept : Prop :=
  ∀ s t : State, s.Positioned → step s = .next t → t.Positioned
end

