-- ==== Sys2Proof/Laws/Bytes.lean ====
section
/-! SUPPORT. Numbers sent in bytes, most significant byte first, and words sent in two bytes (R193): their lengths,
and reading back what was sent. -/

namespace Sys2Proof.Machine

open Sys2Proof

@[simp] theorem length_be (n v : Nat) : (be n v).length = n := by
  induction n with
  | zero => rfl
  | succ n ih => simp [be, ih]

theorem ofBe_append (a b : List Byte) : ofBe (a ++ b) = ofBe a * 256 ^ b.length + ofBe b := by
  induction b using List.reverseRecOn with
  | nil => simp [ofBe]
  | append_singleton b x ih =>
    have h : ofBe (a ++ b) = ofBe a * 256 ^ b.length + ofBe b := ih
    simp only [ofBe, ← List.append_assoc, List.foldl_append, List.foldl_cons, List.foldl_nil, List.length_append,
      List.length_cons, List.length_nil] at h ⊢
    rw [h]
    ring

theorem ofBe_cons (x : Byte) (b : List Byte) : ofBe (x :: b) = x.toNat * 256 ^ b.length + ofBe b := by
  simpa [ofBe] using ofBe_append [x] b

/-- A number that fits its bytes reads back. -/
theorem ofBe_be (n v : Nat) : ofBe (be n v) = v % 256 ^ n := by
  induction n with
  | zero => simp [be, ofBe, Nat.mod_one]
  | succ n ih =>
    rw [be, ofBe_cons, length_be, ih, pow_succ, Nat.mod_mul, BitVec.toNat_ofNat]
    ring

/-- Bytes spell a number below 256 to their count. -/
theorem ofBe_lt (b : List Byte) : ofBe b < 256 ^ b.length := by
  induction b with
  | nil => simp [ofBe]
  | cons x b ih =>
    have := x.isLt
    rw [ofBe_cons, List.length_cons, pow_succ]
    have : x.toNat * 256 ^ b.length ≤ 255 * 256 ^ b.length := Nat.mul_le_mul_right _ (by omega)
    omega

/-- Sending the number that bytes spell gives the bytes back. -/
theorem be_ofBe (b : List Byte) : be b.length (ofBe b) = b := by
  induction b with
  | nil => rfl
  | cons x b ih =>
    have hb := ofBe_lt b
    have hpos : 0 < 256 ^ b.length := Nat.pow_pos (by omega)
    have key : ∀ n v w : Nat, v % 256 ^ n = w % 256 ^ n → be n v = be n w := by
      intro n
      induction n with
      | zero => intros; rfl
      | succ n ihn =>
        intro v w h
        have h1 : v % 256 ^ n = w % 256 ^ n := by
          have := congrArg (· % 256 ^ n) h
          simpa [pow_succ, Nat.mod_mul_right_mod] using this
        have h2 : v / 256 ^ n % 256 = w / 256 ^ n % 256 := by
          have := congrArg (· / 256 ^ n) h
          simpa [pow_succ, Nat.mod_mul_right_div_self] using this
        simp only [be, ihn v w h1, List.cons.injEq, and_true]
        apply BitVec.eq_of_toNat_eq
        simpa using h2
    rw [List.length_cons, be, ofBe_cons]
    congr 1
    · rw [Nat.mul_comm, Nat.mul_add_div hpos, Nat.div_eq_of_lt hb, Nat.add_zero, BitVec.ofNat_toNat,
        BitVec.setWidth_eq]
    · conv_rhs => rw [← ih]
      apply key
      rw [Nat.mul_comm, Nat.mul_add_mod]

/-- The first byte and the rest of a number's bytes. -/
theorem be_succ (n v : Nat) : be (n + 1) v = BitVec.ofNat 8 (v / 256 ^ n) :: be n v := rfl

/-- A field of a body that begins with `n` other bytes. -/
theorem field_append (a b : List Byte) (n : Nat) : field (a ++ b) (a.length) n = ofBe (b.take n) := by
  simp [field]

/-- A word reads back from its two bytes. -/
theorem wordOf_wordBytes (w : Word) :
    ∀ hi lo, wordBytes w = [hi, lo] → wordOf hi lo = w := by
  intro hi lo h
  simp only [wordBytes, be, pow_one, pow_zero, Nat.div_one, List.cons.injEq, and_true] at h
  obtain ⟨rfl, rfl⟩ := h
  apply BitVec.eq_of_toNat_eq
  have := w.isLt
  simp only [wordOf, BitVec.toNat_ofNat]
  omega

/-- The two bytes of a word taken from two bytes. -/
theorem wordBytes_wordOf (hi lo : Byte) : wordBytes (wordOf hi lo) = [hi, lo] := by
  have h1 := hi.isLt
  have h2 := lo.isLt
  simp only [wordBytes, be, wordOf, pow_one, pow_zero, Nat.div_one, List.cons.injEq, and_true]
  constructor <;> apply BitVec.eq_of_toNat_eq <;> simp only [BitVec.toNat_ofNat] <;> omega

@[simp] theorem length_wordBytes (w : Word) : (wordBytes w).length = 2 := length_be 2 _

/-- Bytes of an even count, taken two at a time as words, are the bytes of those words. -/
theorem bytesOf_wordsOf (b : List Byte) (h : b.length % 2 = 0) : bytesOf (wordsOf b) = b := by
  induction b using wordsOf.induct with
  | case1 hi lo t ih =>
    have : t.length % 2 = 0 := by simp only [List.length_cons] at h; omega
    simpa [wordsOf, bytesOf, wordBytes_wordOf] using ih this
  | case2 hi => simp at h
  | case3 => rfl

/-- The words of bytes of an even count. -/
theorem length_wordsOf (b : List Byte) (h : b.length % 2 = 0) : (wordsOf b).length = b.length / 2 := by
  induction b using wordsOf.induct with
  | case1 hi lo t ih =>
    simp only [List.length_cons] at h
    simp only [wordsOf, List.length_cons, ih (by omega)]
    omega
  | case2 hi => simp at h
  | case3 => rfl

end Sys2Proof.Machine
end

