-- ==== Sys2Proof/Laws/State.lean ====
section
/-! SUPPORT. What each update of a part of the state leaves as it was, and what it reads as afterwards: one lemma
per field per update, so that no later proof unfolds a record update. -/

namespace Sys2Proof.Machine

open Sys2Proof

/-! ### `setLink` -/

@[simp] theorem setLink_opening (s : State) (l : LinkId) (k : Link) : (s.setLink l k).opening = s.opening := rfl
@[simp] theorem setLink_account (s : State) (l : LinkId) (k : Link) : (s.setLink l k).account = s.account := rfl
@[simp] theorem setLink_capture (s : State) (l : LinkId) (k : Link) : (s.setLink l k).capture = s.capture := rfl
@[simp] theorem setLink_light (s : State) (l : LinkId) (k : Link) : (s.setLink l k).light = s.light := rfl
@[simp] theorem setLink_memory (s : State) (l : LinkId) (k : Link) : (s.setLink l k).memory = s.memory := rfl
@[simp] theorem setLink_mem (s : State) (l : LinkId) (k : Link) : (s.setLink l k).mem = s.mem := rfl
@[simp] theorem setLink_drain (s : State) (l : LinkId) (k : Link) : (s.setLink l k).drain = s.drain := rfl
@[simp] theorem setLink_pending (s : State) (l : LinkId) (k : Link) : (s.setLink l k).pending = s.pending := rfl
@[simp] theorem setLink_links (s : State) (l : LinkId) (k : Link) :
    (s.setLink l k).links = s.links.set l k := rfl
@[simp] theorem setLink_ctx (s : State) (l : LinkId) (k : Link) (g : Half) :
    (s.setLink l k).ctx g = s.ctx g := rfl
@[simp] theorem setLink_claimOf (s : State) (l : LinkId) (k : Link) (g : Half) :
    (s.setLink l k).claimOf g = s.claimOf g := rfl
@[simp] theorem setLink_rx (s : State) (l : LinkId) (k : Link) (g : Half) :
    (s.setLink l k).rx g = s.rx g := rfl
@[simp] theorem setLink_slot (s : State) (l : LinkId) (k : Link) (j : Fin 8) :
    (s.setLink l k).slot j = s.slot j := rfl
@[simp] theorem setLink_lamp (s : State) (l : LinkId) (k : Link) (j : Fin 8) :
    (s.setLink l k).lamp j = s.lamp j := rfl
@[simp] theorem setLink_program (s : State) (l : LinkId) (k : Link) (j : Fin 16) :
    (s.setLink l k).program j = s.program j := rfl
@[simp] theorem setLink_volume (s : State) (l : LinkId) (k : Link) (j : Fin 16) :
    (s.setLink l k).volume j = s.volume j := rfl
@[simp] theorem setLink_mounted (s : State) (l : LinkId) (k : Link) : (s.setLink l k).mounted = s.mounted := rfl
@[simp] theorem setLink_moving (s : State) (l : LinkId) (k : Link) : (s.setLink l k).moving = s.moving := rfl
@[simp] theorem setLink_inFlight (s : State) (l : LinkId) (k : Link) : (s.setLink l k).inFlight = s.inFlight := rfl
@[simp] theorem setLink_claimHeld (s : State) (l : LinkId) (k : Link) : (s.setLink l k).claimHeld = s.claimHeld := rfl
@[simp] theorem setLink_drainIdle (s : State) (l : LinkId) (k : Link) : (s.setLink l k).drainIdle = s.drainIdle := rfl
@[simp] theorem setLink_lowestFree (s : State) (l : LinkId) (k : Link) : (s.setLink l k).lowestFree = s.lowestFree := rfl

/-! ### `setCtx` -/

@[simp] theorem setCtx_opening (s : State) (h : Half) (c : Option Ctx) : (s.setCtx h c).opening = s.opening := rfl
@[simp] theorem setCtx_account (s : State) (h : Half) (c : Option Ctx) : (s.setCtx h c).account = s.account := rfl
@[simp] theorem setCtx_light (s : State) (h : Half) (c : Option Ctx) : (s.setCtx h c).light = s.light := rfl
@[simp] theorem setCtx_memory (s : State) (h : Half) (c : Option Ctx) : (s.setCtx h c).memory = s.memory := rfl
@[simp] theorem setCtx_mem (s : State) (h : Half) (c : Option Ctx) : (s.setCtx h c).mem = s.mem := rfl
@[simp] theorem setCtx_drain (s : State) (h : Half) (c : Option Ctx) : (s.setCtx h c).drain = s.drain := rfl
@[simp] theorem setCtx_links (s : State) (h : Half) (c : Option Ctx) : (s.setCtx h c).links = s.links := rfl
@[simp] theorem setCtx_pending (s : State) (h : Half) (c : Option Ctx) : (s.setCtx h c).pending = s.pending := rfl
@[simp] theorem setCtx_capture_ctxs (s : State) (h : Half) (c : Option Ctx) :
    (s.setCtx h c).capture.ctxs = s.capture.ctxs.set h c := rfl
@[simp] theorem setCtx_capture_claims (s : State) (h : Half) (c : Option Ctx) :
    (s.setCtx h c).capture.claims = s.capture.claims := rfl
@[simp] theorem setCtx_capture_idCounter (s : State) (h : Half) (c : Option Ctx) :
    (s.setCtx h c).capture.idCounter = s.capture.idCounter := rfl
@[simp] theorem setCtx_capture_waitOrder (s : State) (h : Half) (c : Option Ctx) :
    (s.setCtx h c).capture.waitOrder = s.capture.waitOrder := rfl
@[simp] theorem setCtx_link (s : State) (h : Half) (c : Option Ctx) (m : LinkId) :
    (s.setCtx h c).link m = s.link m := rfl
@[simp] theorem setCtx_claimOf (s : State) (h : Half) (c : Option Ctx) (g : Half) :
    (s.setCtx h c).claimOf g = s.claimOf g := rfl
@[simp] theorem setCtx_rx (s : State) (h : Half) (c : Option Ctx) (g : Half) :
    (s.setCtx h c).rx g = s.rx g := rfl
@[simp] theorem setCtx_slot (s : State) (h : Half) (c : Option Ctx) (j : Fin 8) :
    (s.setCtx h c).slot j = s.slot j := rfl
@[simp] theorem setCtx_lamp (s : State) (h : Half) (c : Option Ctx) (j : Fin 8) :
    (s.setCtx h c).lamp j = s.lamp j := rfl
@[simp] theorem setCtx_program (s : State) (h : Half) (c : Option Ctx) (j : Fin 16) :
    (s.setCtx h c).program j = s.program j := rfl
@[simp] theorem setCtx_volume (s : State) (h : Half) (c : Option Ctx) (j : Fin 16) :
    (s.setCtx h c).volume j = s.volume j := rfl
@[simp] theorem setCtx_mounted (s : State) (h : Half) (c : Option Ctx) : (s.setCtx h c).mounted = s.mounted := rfl
@[simp] theorem setCtx_moving (s : State) (h : Half) (c : Option Ctx) : (s.setCtx h c).moving = s.moving := rfl
@[simp] theorem setCtx_claimHeld (s : State) (h : Half) (c : Option Ctx) : (s.setCtx h c).claimHeld = s.claimHeld := rfl
@[simp] theorem setCtx_drainIdle (s : State) (h : Half) (c : Option Ctx) : (s.setCtx h c).drainIdle = s.drainIdle := rfl
@[simp] theorem setCtx_lowestFree (s : State) (h : Half) (c : Option Ctx) : (s.setCtx h c).lowestFree = s.lowestFree := rfl

/-! ### `setClaim` -/

@[simp] theorem setClaim_opening (s : State) (h : Half) (c : Option Claim) : (s.setClaim h c).opening = s.opening := rfl
@[simp] theorem setClaim_account (s : State) (h : Half) (c : Option Claim) : (s.setClaim h c).account = s.account := rfl
@[simp] theorem setClaim_light (s : State) (h : Half) (c : Option Claim) : (s.setClaim h c).light = s.light := rfl
@[simp] theorem setClaim_memory (s : State) (h : Half) (c : Option Claim) : (s.setClaim h c).memory = s.memory := rfl
@[simp] theorem setClaim_mem (s : State) (h : Half) (c : Option Claim) : (s.setClaim h c).mem = s.mem := rfl
@[simp] theorem setClaim_drain (s : State) (h : Half) (c : Option Claim) : (s.setClaim h c).drain = s.drain := rfl
@[simp] theorem setClaim_links (s : State) (h : Half) (c : Option Claim) : (s.setClaim h c).links = s.links := rfl
@[simp] theorem setClaim_pending (s : State) (h : Half) (c : Option Claim) : (s.setClaim h c).pending = s.pending := rfl
@[simp] theorem setClaim_capture_claims (s : State) (h : Half) (c : Option Claim) :
    (s.setClaim h c).capture.claims = s.capture.claims.set h c := rfl
@[simp] theorem setClaim_capture_ctxs (s : State) (h : Half) (c : Option Claim) :
    (s.setClaim h c).capture.ctxs = s.capture.ctxs := rfl
@[simp] theorem setClaim_capture_idCounter (s : State) (h : Half) (c : Option Claim) :
    (s.setClaim h c).capture.idCounter = s.capture.idCounter := rfl
@[simp] theorem setClaim_capture_waitOrder (s : State) (h : Half) (c : Option Claim) :
    (s.setClaim h c).capture.waitOrder = s.capture.waitOrder := rfl
@[simp] theorem setClaim_link (s : State) (h : Half) (c : Option Claim) (m : LinkId) :
    (s.setClaim h c).link m = s.link m := rfl
@[simp] theorem setClaim_ctx (s : State) (h : Half) (c : Option Claim) (g : Half) :
    (s.setClaim h c).ctx g = s.ctx g := rfl
@[simp] theorem setClaim_rx (s : State) (h : Half) (c : Option Claim) (g : Half) :
    (s.setClaim h c).rx g = s.rx g := rfl
@[simp] theorem setClaim_slot (s : State) (h : Half) (c : Option Claim) (j : Fin 8) :
    (s.setClaim h c).slot j = s.slot j := rfl
@[simp] theorem setClaim_lamp (s : State) (h : Half) (c : Option Claim) (j : Fin 8) :
    (s.setClaim h c).lamp j = s.lamp j := rfl
@[simp] theorem setClaim_program (s : State) (h : Half) (c : Option Claim) (j : Fin 16) :
    (s.setClaim h c).program j = s.program j := rfl
@[simp] theorem setClaim_volume (s : State) (h : Half) (c : Option Claim) (j : Fin 16) :
    (s.setClaim h c).volume j = s.volume j := rfl
@[simp] theorem setClaim_mounted (s : State) (h : Half) (c : Option Claim) : (s.setClaim h c).mounted = s.mounted := rfl
@[simp] theorem setClaim_moving (s : State) (h : Half) (c : Option Claim) : (s.setClaim h c).moving = s.moving := rfl
@[simp] theorem setClaim_inFlight (s : State) (h : Half) (c : Option Claim) : (s.setClaim h c).inFlight = s.inFlight := rfl
@[simp] theorem setClaim_drainIdle (s : State) (h : Half) (c : Option Claim) : (s.setClaim h c).drainIdle = s.drainIdle := rfl
@[simp] theorem setClaim_lowestFree (s : State) (h : Half) (c : Option Claim) : (s.setClaim h c).lowestFree = s.lowestFree := rfl

/-! ### `setWaitOrder` -/

@[simp] theorem setWaitOrder_opening (s : State) (w : List Half) : (s.setWaitOrder w).opening = s.opening := rfl
@[simp] theorem setWaitOrder_account (s : State) (w : List Half) : (s.setWaitOrder w).account = s.account := rfl
@[simp] theorem setWaitOrder_light (s : State) (w : List Half) : (s.setWaitOrder w).light = s.light := rfl
@[simp] theorem setWaitOrder_memory (s : State) (w : List Half) : (s.setWaitOrder w).memory = s.memory := rfl
@[simp] theorem setWaitOrder_mem (s : State) (w : List Half) : (s.setWaitOrder w).mem = s.mem := rfl
@[simp] theorem setWaitOrder_drain (s : State) (w : List Half) : (s.setWaitOrder w).drain = s.drain := rfl
@[simp] theorem setWaitOrder_links (s : State) (w : List Half) : (s.setWaitOrder w).links = s.links := rfl
@[simp] theorem setWaitOrder_pending (s : State) (w : List Half) : (s.setWaitOrder w).pending = s.pending := rfl
@[simp] theorem setWaitOrder_capture_waitOrder (s : State) (w : List Half) :
    (s.setWaitOrder w).capture.waitOrder = w := rfl
@[simp] theorem setWaitOrder_capture_ctxs (s : State) (w : List Half) :
    (s.setWaitOrder w).capture.ctxs = s.capture.ctxs := rfl
@[simp] theorem setWaitOrder_capture_claims (s : State) (w : List Half) :
    (s.setWaitOrder w).capture.claims = s.capture.claims := rfl
@[simp] theorem setWaitOrder_capture_idCounter (s : State) (w : List Half) :
    (s.setWaitOrder w).capture.idCounter = s.capture.idCounter := rfl
@[simp] theorem setWaitOrder_link (s : State) (w : List Half) (m : LinkId) :
    (s.setWaitOrder w).link m = s.link m := rfl
@[simp] theorem setWaitOrder_ctx (s : State) (w : List Half) (g : Half) :
    (s.setWaitOrder w).ctx g = s.ctx g := rfl
@[simp] theorem setWaitOrder_claimOf (s : State) (w : List Half) (g : Half) :
    (s.setWaitOrder w).claimOf g = s.claimOf g := rfl
@[simp] theorem setWaitOrder_rx (s : State) (w : List Half) (g : Half) :
    (s.setWaitOrder w).rx g = s.rx g := rfl
@[simp] theorem setWaitOrder_slot (s : State) (w : List Half) (j : Fin 8) :
    (s.setWaitOrder w).slot j = s.slot j := rfl
@[simp] theorem setWaitOrder_lamp (s : State) (w : List Half) (j : Fin 8) :
    (s.setWaitOrder w).lamp j = s.lamp j := rfl
@[simp] theorem setWaitOrder_program (s : State) (w : List Half) (j : Fin 16) :
    (s.setWaitOrder w).program j = s.program j := rfl
@[simp] theorem setWaitOrder_volume (s : State) (w : List Half) (j : Fin 16) :
    (s.setWaitOrder w).volume j = s.volume j := rfl
@[simp] theorem setWaitOrder_mounted (s : State) (w : List Half) : (s.setWaitOrder w).mounted = s.mounted := rfl
@[simp] theorem setWaitOrder_moving (s : State) (w : List Half) : (s.setWaitOrder w).moving = s.moving := rfl
@[simp] theorem setWaitOrder_inFlight (s : State) (w : List Half) : (s.setWaitOrder w).inFlight = s.inFlight := rfl
@[simp] theorem setWaitOrder_claimHeld (s : State) (w : List Half) : (s.setWaitOrder w).claimHeld = s.claimHeld := rfl
@[simp] theorem setWaitOrder_drainIdle (s : State) (w : List Half) : (s.setWaitOrder w).drainIdle = s.drainIdle := rfl
@[simp] theorem setWaitOrder_lowestFree (s : State) (w : List Half) : (s.setWaitOrder w).lowestFree = s.lowestFree := rfl

/-! ### `setRx` -/

@[simp] theorem setRx_opening (s : State) (h : Half) (r : Receiver) : (s.setRx h r).opening = s.opening := rfl
@[simp] theorem setRx_account (s : State) (h : Half) (r : Receiver) : (s.setRx h r).account = s.account := rfl
@[simp] theorem setRx_capture (s : State) (h : Half) (r : Receiver) : (s.setRx h r).capture = s.capture := rfl
@[simp] theorem setRx_light (s : State) (h : Half) (r : Receiver) : (s.setRx h r).light = s.light := rfl
@[simp] theorem setRx_mem (s : State) (h : Half) (r : Receiver) : (s.setRx h r).mem = s.mem := rfl
@[simp] theorem setRx_drain (s : State) (h : Half) (r : Receiver) : (s.setRx h r).drain = s.drain := rfl
@[simp] theorem setRx_links (s : State) (h : Half) (r : Receiver) : (s.setRx h r).links = s.links := rfl
@[simp] theorem setRx_pending (s : State) (h : Half) (r : Receiver) : (s.setRx h r).pending = s.pending := rfl
@[simp] theorem setRx_memory_slots (s : State) (h : Half) (r : Receiver) :
    (s.setRx h r).memory.slots = s.memory.slots := rfl
@[simp] theorem setRx_memory_burst (s : State) (h : Half) (r : Receiver) :
    (s.setRx h r).memory.burst = s.memory.burst := rfl
@[simp] theorem setRx_memory_owed (s : State) (h : Half) (r : Receiver) :
    (s.setRx h r).memory.owed = s.memory.owed := rfl
@[simp] theorem setRx_memory_refreshTimer (s : State) (h : Half) (r : Receiver) :
    (s.setRx h r).memory.refreshTimer = s.memory.refreshTimer := rfl
@[simp] theorem setRx_memory_mode (s : State) (h : Half) (r : Receiver) :
    (s.setRx h r).memory.mode = s.memory.mode := rfl
@[simp] theorem setRx_memory_engine (s : State) (h : Half) (r : Receiver) :
    (s.setRx h r).memory.engine = s.memory.engine := rfl
@[simp] theorem setRx_link (s : State) (h : Half) (r : Receiver) (m : LinkId) :
    (s.setRx h r).link m = s.link m := rfl
@[simp] theorem setRx_ctx (s : State) (h : Half) (r : Receiver) (g : Half) :
    (s.setRx h r).ctx g = s.ctx g := rfl
@[simp] theorem setRx_claimOf (s : State) (h : Half) (r : Receiver) (g : Half) :
    (s.setRx h r).claimOf g = s.claimOf g := rfl
@[simp] theorem setRx_slot (s : State) (h : Half) (r : Receiver) (j : Fin 8) :
    (s.setRx h r).slot j = s.slot j := rfl
@[simp] theorem setRx_lamp (s : State) (h : Half) (r : Receiver) (j : Fin 8) :
    (s.setRx h r).lamp j = s.lamp j := rfl
@[simp] theorem setRx_program (s : State) (h : Half) (r : Receiver) (j : Fin 16) :
    (s.setRx h r).program j = s.program j := rfl
@[simp] theorem setRx_volume (s : State) (h : Half) (r : Receiver) (j : Fin 16) :
    (s.setRx h r).volume j = s.volume j := rfl
@[simp] theorem setRx_mounted (s : State) (h : Half) (r : Receiver) : (s.setRx h r).mounted = s.mounted := rfl
@[simp] theorem setRx_moving (s : State) (h : Half) (r : Receiver) : (s.setRx h r).moving = s.moving := rfl
@[simp] theorem setRx_inFlight (s : State) (h : Half) (r : Receiver) : (s.setRx h r).inFlight = s.inFlight := rfl
@[simp] theorem setRx_claimHeld (s : State) (h : Half) (r : Receiver) : (s.setRx h r).claimHeld = s.claimHeld := rfl
@[simp] theorem setRx_drainIdle (s : State) (h : Half) (r : Receiver) : (s.setRx h r).drainIdle = s.drainIdle := rfl
@[simp] theorem setRx_lowestFree (s : State) (h : Half) (r : Receiver) : (s.setRx h r).lowestFree = s.lowestFree := rfl

/-! ### `setSlot` -/

@[simp] theorem setSlot_opening (s : State) (i : Fin 8) (x : Slot) : (s.setSlot i x).opening = s.opening := rfl
@[simp] theorem setSlot_account (s : State) (i : Fin 8) (x : Slot) : (s.setSlot i x).account = s.account := rfl
@[simp] theorem setSlot_capture (s : State) (i : Fin 8) (x : Slot) : (s.setSlot i x).capture = s.capture := rfl
@[simp] theorem setSlot_light (s : State) (i : Fin 8) (x : Slot) : (s.setSlot i x).light = s.light := rfl
@[simp] theorem setSlot_mem (s : State) (i : Fin 8) (x : Slot) : (s.setSlot i x).mem = s.mem := rfl
@[simp] theorem setSlot_drain (s : State) (i : Fin 8) (x : Slot) : (s.setSlot i x).drain = s.drain := rfl
@[simp] theorem setSlot_links (s : State) (i : Fin 8) (x : Slot) : (s.setSlot i x).links = s.links := rfl
@[simp] theorem setSlot_pending (s : State) (i : Fin 8) (x : Slot) : (s.setSlot i x).pending = s.pending := rfl
@[simp] theorem setSlot_memory_rx (s : State) (i : Fin 8) (x : Slot) :
    (s.setSlot i x).memory.rx = s.memory.rx := rfl
@[simp] theorem setSlot_memory_burst (s : State) (i : Fin 8) (x : Slot) :
    (s.setSlot i x).memory.burst = s.memory.burst := rfl
@[simp] theorem setSlot_memory_owed (s : State) (i : Fin 8) (x : Slot) :
    (s.setSlot i x).memory.owed = s.memory.owed := rfl
@[simp] theorem setSlot_memory_refreshTimer (s : State) (i : Fin 8) (x : Slot) :
    (s.setSlot i x).memory.refreshTimer = s.memory.refreshTimer := rfl
@[simp] theorem setSlot_memory_mode (s : State) (i : Fin 8) (x : Slot) :
    (s.setSlot i x).memory.mode = s.memory.mode := rfl
@[simp] theorem setSlot_memory_engine (s : State) (i : Fin 8) (x : Slot) :
    (s.setSlot i x).memory.engine = s.memory.engine := rfl
@[simp] theorem setSlot_link (s : State) (i : Fin 8) (x : Slot) (m : LinkId) :
    (s.setSlot i x).link m = s.link m := rfl
@[simp] theorem setSlot_ctx (s : State) (i : Fin 8) (x : Slot) (g : Half) :
    (s.setSlot i x).ctx g = s.ctx g := rfl
@[simp] theorem setSlot_claimOf (s : State) (i : Fin 8) (x : Slot) (g : Half) :
    (s.setSlot i x).claimOf g = s.claimOf g := rfl
@[simp] theorem setSlot_rx (s : State) (i : Fin 8) (x : Slot) (g : Half) :
    (s.setSlot i x).rx g = s.rx g := rfl
@[simp] theorem setSlot_lamp (s : State) (i : Fin 8) (x : Slot) (j : Fin 8) :
    (s.setSlot i x).lamp j = s.lamp j := rfl
@[simp] theorem setSlot_program (s : State) (i : Fin 8) (x : Slot) (j : Fin 16) :
    (s.setSlot i x).program j = s.program j := rfl
@[simp] theorem setSlot_volume (s : State) (i : Fin 8) (x : Slot) (j : Fin 16) :
    (s.setSlot i x).volume j = s.volume j := rfl
@[simp] theorem setSlot_mounted (s : State) (i : Fin 8) (x : Slot) : (s.setSlot i x).mounted = s.mounted := rfl
@[simp] theorem setSlot_moving (s : State) (i : Fin 8) (x : Slot) : (s.setSlot i x).moving = s.moving := rfl
@[simp] theorem setSlot_inFlight (s : State) (i : Fin 8) (x : Slot) : (s.setSlot i x).inFlight = s.inFlight := rfl
@[simp] theorem setSlot_claimHeld (s : State) (i : Fin 8) (x : Slot) : (s.setSlot i x).claimHeld = s.claimHeld := rfl
@[simp] theorem setSlot_drainIdle (s : State) (i : Fin 8) (x : Slot) : (s.setSlot i x).drainIdle = s.drainIdle := rfl

/-! ### `setBurst` -/

@[simp] theorem setBurst_opening (s : State) (b : Option Burst) : (s.setBurst b).opening = s.opening := rfl
@[simp] theorem setBurst_account (s : State) (b : Option Burst) : (s.setBurst b).account = s.account := rfl
@[simp] theorem setBurst_capture (s : State) (b : Option Burst) : (s.setBurst b).capture = s.capture := rfl
@[simp] theorem setBurst_light (s : State) (b : Option Burst) : (s.setBurst b).light = s.light := rfl
@[simp] theorem setBurst_mem (s : State) (b : Option Burst) : (s.setBurst b).mem = s.mem := rfl
@[simp] theorem setBurst_drain (s : State) (b : Option Burst) : (s.setBurst b).drain = s.drain := rfl
@[simp] theorem setBurst_links (s : State) (b : Option Burst) : (s.setBurst b).links = s.links := rfl
@[simp] theorem setBurst_pending (s : State) (b : Option Burst) : (s.setBurst b).pending = s.pending := rfl
@[simp] theorem setBurst_memory_slots (s : State) (b : Option Burst) :
    (s.setBurst b).memory.slots = s.memory.slots := rfl
@[simp] theorem setBurst_memory_rx (s : State) (b : Option Burst) :
    (s.setBurst b).memory.rx = s.memory.rx := rfl
@[simp] theorem setBurst_memory_owed (s : State) (b : Option Burst) :
    (s.setBurst b).memory.owed = s.memory.owed := rfl
@[simp] theorem setBurst_memory_refreshTimer (s : State) (b : Option Burst) :
    (s.setBurst b).memory.refreshTimer = s.memory.refreshTimer := rfl
@[simp] theorem setBurst_memory_mode (s : State) (b : Option Burst) :
    (s.setBurst b).memory.mode = s.memory.mode := rfl
@[simp] theorem setBurst_memory_engine (s : State) (b : Option Burst) :
    (s.setBurst b).memory.engine = s.memory.engine := rfl
@[simp] theorem setBurst_memory_burst (s : State) (b : Option Burst) :
    (s.setBurst b).memory.burst = b := rfl
@[simp] theorem setBurst_link (s : State) (b : Option Burst) (m : LinkId) :
    (s.setBurst b).link m = s.link m := rfl
@[simp] theorem setBurst_ctx (s : State) (b : Option Burst) (g : Half) :
    (s.setBurst b).ctx g = s.ctx g := rfl
@[simp] theorem setBurst_claimOf (s : State) (b : Option Burst) (g : Half) :
    (s.setBurst b).claimOf g = s.claimOf g := rfl
@[simp] theorem setBurst_rx (s : State) (b : Option Burst) (g : Half) :
    (s.setBurst b).rx g = s.rx g := rfl
@[simp] theorem setBurst_slot (s : State) (b : Option Burst) (j : Fin 8) :
    (s.setBurst b).slot j = s.slot j := rfl
@[simp] theorem setBurst_lamp (s : State) (b : Option Burst) (j : Fin 8) :
    (s.setBurst b).lamp j = s.lamp j := rfl
@[simp] theorem setBurst_program (s : State) (b : Option Burst) (j : Fin 16) :
    (s.setBurst b).program j = s.program j := rfl
@[simp] theorem setBurst_volume (s : State) (b : Option Burst) (j : Fin 16) :
    (s.setBurst b).volume j = s.volume j := rfl
@[simp] theorem setBurst_mounted (s : State) (b : Option Burst) : (s.setBurst b).mounted = s.mounted := rfl
@[simp] theorem setBurst_moving (s : State) (b : Option Burst) : (s.setBurst b).moving = s.moving := rfl
@[simp] theorem setBurst_inFlight (s : State) (b : Option Burst) : (s.setBurst b).inFlight = s.inFlight := rfl
@[simp] theorem setBurst_claimHeld (s : State) (b : Option Burst) : (s.setBurst b).claimHeld = s.claimHeld := rfl
@[simp] theorem setBurst_drainIdle (s : State) (b : Option Burst) : (s.setBurst b).drainIdle = s.drainIdle := rfl
@[simp] theorem setBurst_lowestFree (s : State) (b : Option Burst) : (s.setBurst b).lowestFree = s.lowestFree := rfl

/-! ### `setEngine` -/

@[simp] theorem setEngine_opening (s : State) (e : Engine) : (s.setEngine e).opening = s.opening := rfl
@[simp] theorem setEngine_account (s : State) (e : Engine) : (s.setEngine e).account = s.account := rfl
@[simp] theorem setEngine_capture (s : State) (e : Engine) : (s.setEngine e).capture = s.capture := rfl
@[simp] theorem setEngine_light (s : State) (e : Engine) : (s.setEngine e).light = s.light := rfl
@[simp] theorem setEngine_mem (s : State) (e : Engine) : (s.setEngine e).mem = s.mem := rfl
@[simp] theorem setEngine_drain (s : State) (e : Engine) : (s.setEngine e).drain = s.drain := rfl
@[simp] theorem setEngine_links (s : State) (e : Engine) : (s.setEngine e).links = s.links := rfl
@[simp] theorem setEngine_pending (s : State) (e : Engine) : (s.setEngine e).pending = s.pending := rfl
@[simp] theorem setEngine_memory_slots (s : State) (e : Engine) :
    (s.setEngine e).memory.slots = s.memory.slots := rfl
@[simp] theorem setEngine_memory_rx (s : State) (e : Engine) :
    (s.setEngine e).memory.rx = s.memory.rx := rfl
@[simp] theorem setEngine_memory_burst (s : State) (e : Engine) :
    (s.setEngine e).memory.burst = s.memory.burst := rfl
@[simp] theorem setEngine_memory_owed (s : State) (e : Engine) :
    (s.setEngine e).memory.owed = s.memory.owed := rfl
@[simp] theorem setEngine_memory_refreshTimer (s : State) (e : Engine) :
    (s.setEngine e).memory.refreshTimer = s.memory.refreshTimer := rfl
@[simp] theorem setEngine_memory_mode (s : State) (e : Engine) :
    (s.setEngine e).memory.mode = s.memory.mode := rfl
@[simp] theorem setEngine_memory_engine (s : State) (e : Engine) :
    (s.setEngine e).memory.engine = e := rfl
@[simp] theorem setEngine_link (s : State) (e : Engine) (m : LinkId) :
    (s.setEngine e).link m = s.link m := rfl
@[simp] theorem setEngine_ctx (s : State) (e : Engine) (g : Half) :
    (s.setEngine e).ctx g = s.ctx g := rfl
@[simp] theorem setEngine_claimOf (s : State) (e : Engine) (g : Half) :
    (s.setEngine e).claimOf g = s.claimOf g := rfl
@[simp] theorem setEngine_rx (s : State) (e : Engine) (g : Half) :
    (s.setEngine e).rx g = s.rx g := rfl
@[simp] theorem setEngine_slot (s : State) (e : Engine) (j : Fin 8) :
    (s.setEngine e).slot j = s.slot j := rfl
@[simp] theorem setEngine_lamp (s : State) (e : Engine) (j : Fin 8) :
    (s.setEngine e).lamp j = s.lamp j := rfl
@[simp] theorem setEngine_program (s : State) (e : Engine) (j : Fin 16) :
    (s.setEngine e).program j = s.program j := rfl
@[simp] theorem setEngine_volume (s : State) (e : Engine) (j : Fin 16) :
    (s.setEngine e).volume j = s.volume j := rfl
@[simp] theorem setEngine_mounted (s : State) (e : Engine) : (s.setEngine e).mounted = s.mounted := rfl
@[simp] theorem setEngine_moving (s : State) (e : Engine) : (s.setEngine e).moving = s.moving := rfl
@[simp] theorem setEngine_inFlight (s : State) (e : Engine) : (s.setEngine e).inFlight = s.inFlight := rfl
@[simp] theorem setEngine_claimHeld (s : State) (e : Engine) : (s.setEngine e).claimHeld = s.claimHeld := rfl
@[simp] theorem setEngine_drainIdle (s : State) (e : Engine) : (s.setEngine e).drainIdle = s.drainIdle := rfl
@[simp] theorem setEngine_lowestFree (s : State) (e : Engine) : (s.setEngine e).lowestFree = s.lowestFree := rfl

/-! ### `mapSlots` -/

@[simp] theorem mapSlots_opening (s : State) (f : Slot → Slot) : (s.mapSlots f).opening = s.opening := rfl
@[simp] theorem mapSlots_account (s : State) (f : Slot → Slot) : (s.mapSlots f).account = s.account := rfl
@[simp] theorem mapSlots_capture (s : State) (f : Slot → Slot) : (s.mapSlots f).capture = s.capture := rfl
@[simp] theorem mapSlots_light (s : State) (f : Slot → Slot) : (s.mapSlots f).light = s.light := rfl
@[simp] theorem mapSlots_mem (s : State) (f : Slot → Slot) : (s.mapSlots f).mem = s.mem := rfl
@[simp] theorem mapSlots_drain (s : State) (f : Slot → Slot) : (s.mapSlots f).drain = s.drain := rfl
@[simp] theorem mapSlots_links (s : State) (f : Slot → Slot) : (s.mapSlots f).links = s.links := rfl
@[simp] theorem mapSlots_pending (s : State) (f : Slot → Slot) : (s.mapSlots f).pending = s.pending := rfl
@[simp] theorem mapSlots_memory_rx (s : State) (f : Slot → Slot) :
    (s.mapSlots f).memory.rx = s.memory.rx := rfl
@[simp] theorem mapSlots_memory_burst (s : State) (f : Slot → Slot) :
    (s.mapSlots f).memory.burst = s.memory.burst := rfl
@[simp] theorem mapSlots_memory_owed (s : State) (f : Slot → Slot) :
    (s.mapSlots f).memory.owed = s.memory.owed := rfl
@[simp] theorem mapSlots_memory_refreshTimer (s : State) (f : Slot → Slot) :
    (s.mapSlots f).memory.refreshTimer = s.memory.refreshTimer := rfl
@[simp] theorem mapSlots_memory_mode (s : State) (f : Slot → Slot) :
    (s.mapSlots f).memory.mode = s.memory.mode := rfl
@[simp] theorem mapSlots_memory_engine (s : State) (f : Slot → Slot) :
    (s.mapSlots f).memory.engine = s.memory.engine := rfl
@[simp] theorem mapSlots_link (s : State) (f : Slot → Slot) (m : LinkId) :
    (s.mapSlots f).link m = s.link m := rfl
@[simp] theorem mapSlots_ctx (s : State) (f : Slot → Slot) (g : Half) :
    (s.mapSlots f).ctx g = s.ctx g := rfl
@[simp] theorem mapSlots_claimOf (s : State) (f : Slot → Slot) (g : Half) :
    (s.mapSlots f).claimOf g = s.claimOf g := rfl
@[simp] theorem mapSlots_rx (s : State) (f : Slot → Slot) (g : Half) :
    (s.mapSlots f).rx g = s.rx g := rfl
@[simp] theorem mapSlots_lamp (s : State) (f : Slot → Slot) (j : Fin 8) :
    (s.mapSlots f).lamp j = s.lamp j := rfl
@[simp] theorem mapSlots_program (s : State) (f : Slot → Slot) (j : Fin 16) :
    (s.mapSlots f).program j = s.program j := rfl
@[simp] theorem mapSlots_volume (s : State) (f : Slot → Slot) (j : Fin 16) :
    (s.mapSlots f).volume j = s.volume j := rfl
@[simp] theorem mapSlots_mounted (s : State) (f : Slot → Slot) : (s.mapSlots f).mounted = s.mounted := rfl
@[simp] theorem mapSlots_moving (s : State) (f : Slot → Slot) : (s.mapSlots f).moving = s.moving := rfl
@[simp] theorem mapSlots_inFlight (s : State) (f : Slot → Slot) : (s.mapSlots f).inFlight = s.inFlight := rfl
@[simp] theorem mapSlots_claimHeld (s : State) (f : Slot → Slot) : (s.mapSlots f).claimHeld = s.claimHeld := rfl
@[simp] theorem mapSlots_drainIdle (s : State) (f : Slot → Slot) : (s.mapSlots f).drainIdle = s.drainIdle := rfl

/-! ### `setLamp` -/

@[simp] theorem setLamp_opening (s : State) (i : Fin 8) (x : Lamp) : (s.setLamp i x).opening = s.opening := rfl
@[simp] theorem setLamp_account (s : State) (i : Fin 8) (x : Lamp) : (s.setLamp i x).account = s.account := rfl
@[simp] theorem setLamp_capture (s : State) (i : Fin 8) (x : Lamp) : (s.setLamp i x).capture = s.capture := rfl
@[simp] theorem setLamp_memory (s : State) (i : Fin 8) (x : Lamp) : (s.setLamp i x).memory = s.memory := rfl
@[simp] theorem setLamp_mem (s : State) (i : Fin 8) (x : Lamp) : (s.setLamp i x).mem = s.mem := rfl
@[simp] theorem setLamp_drain (s : State) (i : Fin 8) (x : Lamp) : (s.setLamp i x).drain = s.drain := rfl
@[simp] theorem setLamp_links (s : State) (i : Fin 8) (x : Lamp) : (s.setLamp i x).links = s.links := rfl
@[simp] theorem setLamp_pending (s : State) (i : Fin 8) (x : Lamp) : (s.setLamp i x).pending = s.pending := rfl
@[simp] theorem setLamp_light_programs (s : State) (i : Fin 8) (x : Lamp) :
    (s.setLamp i x).light.programs = s.light.programs := rfl
@[simp] theorem setLamp_light_held (s : State) (i : Fin 8) (x : Lamp) :
    (s.setLamp i x).light.held = s.light.held := rfl
@[simp] theorem setLamp_light_grant (s : State) (i : Fin 8) (x : Lamp) :
    (s.setLamp i x).light.grant = s.light.grant := rfl
@[simp] theorem setLamp_light_flash (s : State) (i : Fin 8) (x : Lamp) :
    (s.setLamp i x).light.flash = s.light.flash := rfl
@[simp] theorem setLamp_light_gap (s : State) (i : Fin 8) (x : Lamp) :
    (s.setLamp i x).light.gap = s.light.gap := rfl
@[simp] theorem setLamp_light_lastServed (s : State) (i : Fin 8) (x : Lamp) :
    (s.setLamp i x).light.lastServed = s.light.lastServed := rfl
@[simp] theorem setLamp_light_lastFlash (s : State) (i : Fin 8) (x : Lamp) :
    (s.setLamp i x).light.lastFlash = s.light.lastFlash := rfl
@[simp] theorem setLamp_link (s : State) (i : Fin 8) (x : Lamp) (m : LinkId) :
    (s.setLamp i x).link m = s.link m := rfl
@[simp] theorem setLamp_ctx (s : State) (i : Fin 8) (x : Lamp) (g : Half) :
    (s.setLamp i x).ctx g = s.ctx g := rfl
@[simp] theorem setLamp_claimOf (s : State) (i : Fin 8) (x : Lamp) (g : Half) :
    (s.setLamp i x).claimOf g = s.claimOf g := rfl
@[simp] theorem setLamp_rx (s : State) (i : Fin 8) (x : Lamp) (g : Half) :
    (s.setLamp i x).rx g = s.rx g := rfl
@[simp] theorem setLamp_slot (s : State) (i : Fin 8) (x : Lamp) (j : Fin 8) :
    (s.setLamp i x).slot j = s.slot j := rfl
@[simp] theorem setLamp_program (s : State) (i : Fin 8) (x : Lamp) (j : Fin 16) :
    (s.setLamp i x).program j = s.program j := rfl
@[simp] theorem setLamp_volume (s : State) (i : Fin 8) (x : Lamp) (j : Fin 16) :
    (s.setLamp i x).volume j = s.volume j := rfl
@[simp] theorem setLamp_mounted (s : State) (i : Fin 8) (x : Lamp) : (s.setLamp i x).mounted = s.mounted := rfl
@[simp] theorem setLamp_moving (s : State) (i : Fin 8) (x : Lamp) : (s.setLamp i x).moving = s.moving := rfl
@[simp] theorem setLamp_inFlight (s : State) (i : Fin 8) (x : Lamp) : (s.setLamp i x).inFlight = s.inFlight := rfl
@[simp] theorem setLamp_claimHeld (s : State) (i : Fin 8) (x : Lamp) : (s.setLamp i x).claimHeld = s.claimHeld := rfl
@[simp] theorem setLamp_drainIdle (s : State) (i : Fin 8) (x : Lamp) : (s.setLamp i x).drainIdle = s.drainIdle := rfl
@[simp] theorem setLamp_lowestFree (s : State) (i : Fin 8) (x : Lamp) : (s.setLamp i x).lowestFree = s.lowestFree := rfl

/-! ### `setHeld` -/

@[simp] theorem setHeld_opening (s : State) (r : List LightRequest) : (s.setHeld r).opening = s.opening := rfl
@[simp] theorem setHeld_account (s : State) (r : List LightRequest) : (s.setHeld r).account = s.account := rfl
@[simp] theorem setHeld_capture (s : State) (r : List LightRequest) : (s.setHeld r).capture = s.capture := rfl
@[simp] theorem setHeld_memory (s : State) (r : List LightRequest) : (s.setHeld r).memory = s.memory := rfl
@[simp] theorem setHeld_mem (s : State) (r : List LightRequest) : (s.setHeld r).mem = s.mem := rfl
@[simp] theorem setHeld_drain (s : State) (r : List LightRequest) : (s.setHeld r).drain = s.drain := rfl
@[simp] theorem setHeld_links (s : State) (r : List LightRequest) : (s.setHeld r).links = s.links := rfl
@[simp] theorem setHeld_pending (s : State) (r : List LightRequest) : (s.setHeld r).pending = s.pending := rfl
@[simp] theorem setHeld_light_lamps (s : State) (r : List LightRequest) :
    (s.setHeld r).light.lamps = s.light.lamps := rfl
@[simp] theorem setHeld_light_programs (s : State) (r : List LightRequest) :
    (s.setHeld r).light.programs = s.light.programs := rfl
@[simp] theorem setHeld_light_grant (s : State) (r : List LightRequest) :
    (s.setHeld r).light.grant = s.light.grant := rfl
@[simp] theorem setHeld_light_flash (s : State) (r : List LightRequest) :
    (s.setHeld r).light.flash = s.light.flash := rfl
@[simp] theorem setHeld_light_gap (s : State) (r : List LightRequest) :
    (s.setHeld r).light.gap = s.light.gap := rfl
@[simp] theorem setHeld_light_lastServed (s : State) (r : List LightRequest) :
    (s.setHeld r).light.lastServed = s.light.lastServed := rfl
@[simp] theorem setHeld_light_lastFlash (s : State) (r : List LightRequest) :
    (s.setHeld r).light.lastFlash = s.light.lastFlash := rfl
@[simp] theorem setHeld_light_held (s : State) (r : List LightRequest) :
    (s.setHeld r).light.held = r := rfl
@[simp] theorem setHeld_link (s : State) (r : List LightRequest) (m : LinkId) :
    (s.setHeld r).link m = s.link m := rfl
@[simp] theorem setHeld_ctx (s : State) (r : List LightRequest) (g : Half) :
    (s.setHeld r).ctx g = s.ctx g := rfl
@[simp] theorem setHeld_claimOf (s : State) (r : List LightRequest) (g : Half) :
    (s.setHeld r).claimOf g = s.claimOf g := rfl
@[simp] theorem setHeld_rx (s : State) (r : List LightRequest) (g : Half) :
    (s.setHeld r).rx g = s.rx g := rfl
@[simp] theorem setHeld_slot (s : State) (r : List LightRequest) (j : Fin 8) :
    (s.setHeld r).slot j = s.slot j := rfl
@[simp] theorem setHeld_lamp (s : State) (r : List LightRequest) (j : Fin 8) :
    (s.setHeld r).lamp j = s.lamp j := rfl
@[simp] theorem setHeld_program (s : State) (r : List LightRequest) (j : Fin 16) :
    (s.setHeld r).program j = s.program j := rfl
@[simp] theorem setHeld_volume (s : State) (r : List LightRequest) (j : Fin 16) :
    (s.setHeld r).volume j = s.volume j := rfl
@[simp] theorem setHeld_mounted (s : State) (r : List LightRequest) : (s.setHeld r).mounted = s.mounted := rfl
@[simp] theorem setHeld_moving (s : State) (r : List LightRequest) : (s.setHeld r).moving = s.moving := rfl
@[simp] theorem setHeld_inFlight (s : State) (r : List LightRequest) : (s.setHeld r).inFlight = s.inFlight := rfl
@[simp] theorem setHeld_claimHeld (s : State) (r : List LightRequest) : (s.setHeld r).claimHeld = s.claimHeld := rfl
@[simp] theorem setHeld_drainIdle (s : State) (r : List LightRequest) : (s.setHeld r).drainIdle = s.drainIdle := rfl
@[simp] theorem setHeld_lowestFree (s : State) (r : List LightRequest) : (s.setHeld r).lowestFree = s.lowestFree := rfl

/-! ### `setProgram` -/

@[simp] theorem setProgram_opening (s : State) (i : Fin 16) (p : Program) : (s.setProgram i p).opening = s.opening := rfl
@[simp] theorem setProgram_account (s : State) (i : Fin 16) (p : Program) : (s.setProgram i p).account = s.account := rfl
@[simp] theorem setProgram_capture (s : State) (i : Fin 16) (p : Program) : (s.setProgram i p).capture = s.capture := rfl
@[simp] theorem setProgram_memory (s : State) (i : Fin 16) (p : Program) : (s.setProgram i p).memory = s.memory := rfl
@[simp] theorem setProgram_mem (s : State) (i : Fin 16) (p : Program) : (s.setProgram i p).mem = s.mem := rfl
@[simp] theorem setProgram_drain (s : State) (i : Fin 16) (p : Program) : (s.setProgram i p).drain = s.drain := rfl
@[simp] theorem setProgram_links (s : State) (i : Fin 16) (p : Program) : (s.setProgram i p).links = s.links := rfl
@[simp] theorem setProgram_pending (s : State) (i : Fin 16) (p : Program) : (s.setProgram i p).pending = s.pending := rfl
@[simp] theorem setProgram_light_lamps (s : State) (i : Fin 16) (p : Program) :
    (s.setProgram i p).light.lamps = s.light.lamps := rfl
@[simp] theorem setProgram_light_held (s : State) (i : Fin 16) (p : Program) :
    (s.setProgram i p).light.held = s.light.held := rfl
@[simp] theorem setProgram_light_grant (s : State) (i : Fin 16) (p : Program) :
    (s.setProgram i p).light.grant = s.light.grant := rfl
@[simp] theorem setProgram_light_flash (s : State) (i : Fin 16) (p : Program) :
    (s.setProgram i p).light.flash = s.light.flash := rfl
@[simp] theorem setProgram_light_gap (s : State) (i : Fin 16) (p : Program) :
    (s.setProgram i p).light.gap = s.light.gap := rfl
@[simp] theorem setProgram_light_lastServed (s : State) (i : Fin 16) (p : Program) :
    (s.setProgram i p).light.lastServed = s.light.lastServed := rfl
@[simp] theorem setProgram_light_lastFlash (s : State) (i : Fin 16) (p : Program) :
    (s.setProgram i p).light.lastFlash = s.light.lastFlash := rfl
@[simp] theorem setProgram_link (s : State) (i : Fin 16) (p : Program) (m : LinkId) :
    (s.setProgram i p).link m = s.link m := rfl
@[simp] theorem setProgram_ctx (s : State) (i : Fin 16) (p : Program) (g : Half) :
    (s.setProgram i p).ctx g = s.ctx g := rfl
@[simp] theorem setProgram_claimOf (s : State) (i : Fin 16) (p : Program) (g : Half) :
    (s.setProgram i p).claimOf g = s.claimOf g := rfl
@[simp] theorem setProgram_rx (s : State) (i : Fin 16) (p : Program) (g : Half) :
    (s.setProgram i p).rx g = s.rx g := rfl
@[simp] theorem setProgram_slot (s : State) (i : Fin 16) (p : Program) (j : Fin 8) :
    (s.setProgram i p).slot j = s.slot j := rfl
@[simp] theorem setProgram_lamp (s : State) (i : Fin 16) (p : Program) (j : Fin 8) :
    (s.setProgram i p).lamp j = s.lamp j := rfl
@[simp] theorem setProgram_volume (s : State) (i : Fin 16) (p : Program) (j : Fin 16) :
    (s.setProgram i p).volume j = s.volume j := rfl
@[simp] theorem setProgram_mounted (s : State) (i : Fin 16) (p : Program) : (s.setProgram i p).mounted = s.mounted := rfl
@[simp] theorem setProgram_moving (s : State) (i : Fin 16) (p : Program) : (s.setProgram i p).moving = s.moving := rfl
@[simp] theorem setProgram_inFlight (s : State) (i : Fin 16) (p : Program) : (s.setProgram i p).inFlight = s.inFlight := rfl
@[simp] theorem setProgram_claimHeld (s : State) (i : Fin 16) (p : Program) : (s.setProgram i p).claimHeld = s.claimHeld := rfl
@[simp] theorem setProgram_drainIdle (s : State) (i : Fin 16) (p : Program) : (s.setProgram i p).drainIdle = s.drainIdle := rfl
@[simp] theorem setProgram_lowestFree (s : State) (i : Fin 16) (p : Program) : (s.setProgram i p).lowestFree = s.lowestFree := rfl

/-! ### `mapLamps` -/

@[simp] theorem mapLamps_opening (s : State) (f : Lamp → Lamp) : (s.mapLamps f).opening = s.opening := rfl
@[simp] theorem mapLamps_account (s : State) (f : Lamp → Lamp) : (s.mapLamps f).account = s.account := rfl
@[simp] theorem mapLamps_capture (s : State) (f : Lamp → Lamp) : (s.mapLamps f).capture = s.capture := rfl
@[simp] theorem mapLamps_memory (s : State) (f : Lamp → Lamp) : (s.mapLamps f).memory = s.memory := rfl
@[simp] theorem mapLamps_mem (s : State) (f : Lamp → Lamp) : (s.mapLamps f).mem = s.mem := rfl
@[simp] theorem mapLamps_drain (s : State) (f : Lamp → Lamp) : (s.mapLamps f).drain = s.drain := rfl
@[simp] theorem mapLamps_links (s : State) (f : Lamp → Lamp) : (s.mapLamps f).links = s.links := rfl
@[simp] theorem mapLamps_pending (s : State) (f : Lamp → Lamp) : (s.mapLamps f).pending = s.pending := rfl
@[simp] theorem mapLamps_light_programs (s : State) (f : Lamp → Lamp) :
    (s.mapLamps f).light.programs = s.light.programs := rfl
@[simp] theorem mapLamps_light_held (s : State) (f : Lamp → Lamp) :
    (s.mapLamps f).light.held = s.light.held := rfl
@[simp] theorem mapLamps_light_grant (s : State) (f : Lamp → Lamp) :
    (s.mapLamps f).light.grant = s.light.grant := rfl
@[simp] theorem mapLamps_light_flash (s : State) (f : Lamp → Lamp) :
    (s.mapLamps f).light.flash = s.light.flash := rfl
@[simp] theorem mapLamps_light_gap (s : State) (f : Lamp → Lamp) :
    (s.mapLamps f).light.gap = s.light.gap := rfl
@[simp] theorem mapLamps_light_lastServed (s : State) (f : Lamp → Lamp) :
    (s.mapLamps f).light.lastServed = s.light.lastServed := rfl
@[simp] theorem mapLamps_light_lastFlash (s : State) (f : Lamp → Lamp) :
    (s.mapLamps f).light.lastFlash = s.light.lastFlash := rfl
@[simp] theorem mapLamps_link (s : State) (f : Lamp → Lamp) (m : LinkId) :
    (s.mapLamps f).link m = s.link m := rfl
@[simp] theorem mapLamps_ctx (s : State) (f : Lamp → Lamp) (g : Half) :
    (s.mapLamps f).ctx g = s.ctx g := rfl
@[simp] theorem mapLamps_claimOf (s : State) (f : Lamp → Lamp) (g : Half) :
    (s.mapLamps f).claimOf g = s.claimOf g := rfl
@[simp] theorem mapLamps_rx (s : State) (f : Lamp → Lamp) (g : Half) :
    (s.mapLamps f).rx g = s.rx g := rfl
@[simp] theorem mapLamps_slot (s : State) (f : Lamp → Lamp) (j : Fin 8) :
    (s.mapLamps f).slot j = s.slot j := rfl
@[simp] theorem mapLamps_program (s : State) (f : Lamp → Lamp) (j : Fin 16) :
    (s.mapLamps f).program j = s.program j := rfl
@[simp] theorem mapLamps_volume (s : State) (f : Lamp → Lamp) (j : Fin 16) :
    (s.mapLamps f).volume j = s.volume j := rfl
@[simp] theorem mapLamps_mounted (s : State) (f : Lamp → Lamp) : (s.mapLamps f).mounted = s.mounted := rfl
@[simp] theorem mapLamps_moving (s : State) (f : Lamp → Lamp) : (s.mapLamps f).moving = s.moving := rfl
@[simp] theorem mapLamps_inFlight (s : State) (f : Lamp → Lamp) : (s.mapLamps f).inFlight = s.inFlight := rfl
@[simp] theorem mapLamps_claimHeld (s : State) (f : Lamp → Lamp) : (s.mapLamps f).claimHeld = s.claimHeld := rfl
@[simp] theorem mapLamps_drainIdle (s : State) (f : Lamp → Lamp) : (s.mapLamps f).drainIdle = s.drainIdle := rfl
@[simp] theorem mapLamps_lowestFree (s : State) (f : Lamp → Lamp) : (s.mapLamps f).lowestFree = s.lowestFree := rfl

/-! ### `setVolume` -/

@[simp] theorem setVolume_opening (s : State) (i : Fin 16) (v : Volume) : (s.setVolume i v).opening = s.opening := rfl
@[simp] theorem setVolume_capture (s : State) (i : Fin 16) (v : Volume) : (s.setVolume i v).capture = s.capture := rfl
@[simp] theorem setVolume_light (s : State) (i : Fin 16) (v : Volume) : (s.setVolume i v).light = s.light := rfl
@[simp] theorem setVolume_memory (s : State) (i : Fin 16) (v : Volume) : (s.setVolume i v).memory = s.memory := rfl
@[simp] theorem setVolume_mem (s : State) (i : Fin 16) (v : Volume) : (s.setVolume i v).mem = s.mem := rfl
@[simp] theorem setVolume_drain (s : State) (i : Fin 16) (v : Volume) : (s.setVolume i v).drain = s.drain := rfl
@[simp] theorem setVolume_links (s : State) (i : Fin 16) (v : Volume) : (s.setVolume i v).links = s.links := rfl
@[simp] theorem setVolume_pending (s : State) (i : Fin 16) (v : Volume) : (s.setVolume i v).pending = s.pending := rfl
@[simp] theorem setVolume_account_leaves (s : State) (i : Fin 16) (v : Volume) :
    (s.setVolume i v).account.leaves = s.account.leaves := rfl
@[simp] theorem setVolume_account_exceptions (s : State) (i : Fin 16) (v : Volume) :
    (s.setVolume i v).account.exceptions = s.account.exceptions := rfl
@[simp] theorem setVolume_link (s : State) (i : Fin 16) (v : Volume) (m : LinkId) :
    (s.setVolume i v).link m = s.link m := rfl
@[simp] theorem setVolume_ctx (s : State) (i : Fin 16) (v : Volume) (g : Half) :
    (s.setVolume i v).ctx g = s.ctx g := rfl
@[simp] theorem setVolume_claimOf (s : State) (i : Fin 16) (v : Volume) (g : Half) :
    (s.setVolume i v).claimOf g = s.claimOf g := rfl
@[simp] theorem setVolume_rx (s : State) (i : Fin 16) (v : Volume) (g : Half) :
    (s.setVolume i v).rx g = s.rx g := rfl
@[simp] theorem setVolume_slot (s : State) (i : Fin 16) (v : Volume) (j : Fin 8) :
    (s.setVolume i v).slot j = s.slot j := rfl
@[simp] theorem setVolume_lamp (s : State) (i : Fin 16) (v : Volume) (j : Fin 8) :
    (s.setVolume i v).lamp j = s.lamp j := rfl
@[simp] theorem setVolume_program (s : State) (i : Fin 16) (v : Volume) (j : Fin 16) :
    (s.setVolume i v).program j = s.program j := rfl
@[simp] theorem setVolume_inFlight (s : State) (i : Fin 16) (v : Volume) : (s.setVolume i v).inFlight = s.inFlight := rfl
@[simp] theorem setVolume_claimHeld (s : State) (i : Fin 16) (v : Volume) : (s.setVolume i v).claimHeld = s.claimHeld := rfl
@[simp] theorem setVolume_drainIdle (s : State) (i : Fin 16) (v : Volume) : (s.setVolume i v).drainIdle = s.drainIdle := rfl
@[simp] theorem setVolume_lowestFree (s : State) (i : Fin 16) (v : Volume) : (s.setVolume i v).lowestFree = s.lowestFree := rfl

/-! ### `setLeaves` -/

@[simp] theorem setLeaves_opening (s : State) (t : List LeafEntry) : (s.setLeaves t).opening = s.opening := rfl
@[simp] theorem setLeaves_capture (s : State) (t : List LeafEntry) : (s.setLeaves t).capture = s.capture := rfl
@[simp] theorem setLeaves_light (s : State) (t : List LeafEntry) : (s.setLeaves t).light = s.light := rfl
@[simp] theorem setLeaves_memory (s : State) (t : List LeafEntry) : (s.setLeaves t).memory = s.memory := rfl
@[simp] theorem setLeaves_mem (s : State) (t : List LeafEntry) : (s.setLeaves t).mem = s.mem := rfl
@[simp] theorem setLeaves_drain (s : State) (t : List LeafEntry) : (s.setLeaves t).drain = s.drain := rfl
@[simp] theorem setLeaves_links (s : State) (t : List LeafEntry) : (s.setLeaves t).links = s.links := rfl
@[simp] theorem setLeaves_pending (s : State) (t : List LeafEntry) : (s.setLeaves t).pending = s.pending := rfl
@[simp] theorem setLeaves_account_leaves (s : State) (t : List LeafEntry) :
    (s.setLeaves t).account.leaves = t := rfl
@[simp] theorem setLeaves_account_volumes (s : State) (t : List LeafEntry) :
    (s.setLeaves t).account.volumes = s.account.volumes := rfl
@[simp] theorem setLeaves_account_exceptions (s : State) (t : List LeafEntry) :
    (s.setLeaves t).account.exceptions = s.account.exceptions := rfl
@[simp] theorem setLeaves_link (s : State) (t : List LeafEntry) (m : LinkId) :
    (s.setLeaves t).link m = s.link m := rfl
@[simp] theorem setLeaves_ctx (s : State) (t : List LeafEntry) (g : Half) :
    (s.setLeaves t).ctx g = s.ctx g := rfl
@[simp] theorem setLeaves_claimOf (s : State) (t : List LeafEntry) (g : Half) :
    (s.setLeaves t).claimOf g = s.claimOf g := rfl
@[simp] theorem setLeaves_rx (s : State) (t : List LeafEntry) (g : Half) :
    (s.setLeaves t).rx g = s.rx g := rfl
@[simp] theorem setLeaves_slot (s : State) (t : List LeafEntry) (j : Fin 8) :
    (s.setLeaves t).slot j = s.slot j := rfl
@[simp] theorem setLeaves_lamp (s : State) (t : List LeafEntry) (j : Fin 8) :
    (s.setLeaves t).lamp j = s.lamp j := rfl
@[simp] theorem setLeaves_program (s : State) (t : List LeafEntry) (j : Fin 16) :
    (s.setLeaves t).program j = s.program j := rfl
@[simp] theorem setLeaves_volume (s : State) (t : List LeafEntry) (j : Fin 16) :
    (s.setLeaves t).volume j = s.volume j := rfl
@[simp] theorem setLeaves_mounted (s : State) (t : List LeafEntry) : (s.setLeaves t).mounted = s.mounted := rfl
@[simp] theorem setLeaves_moving (s : State) (t : List LeafEntry) : (s.setLeaves t).moving = s.moving := rfl
@[simp] theorem setLeaves_inFlight (s : State) (t : List LeafEntry) : (s.setLeaves t).inFlight = s.inFlight := rfl
@[simp] theorem setLeaves_claimHeld (s : State) (t : List LeafEntry) : (s.setLeaves t).claimHeld = s.claimHeld := rfl
@[simp] theorem setLeaves_drainIdle (s : State) (t : List LeafEntry) : (s.setLeaves t).drainIdle = s.drainIdle := rfl
@[simp] theorem setLeaves_lowestFree (s : State) (t : List LeafEntry) : (s.setLeaves t).lowestFree = s.lowestFree := rfl

/-! ### `setExceptions` -/

@[simp] theorem setExceptions_opening (s : State) (t : List ExcRecord) : (s.setExceptions t).opening = s.opening := rfl
@[simp] theorem setExceptions_capture (s : State) (t : List ExcRecord) : (s.setExceptions t).capture = s.capture := rfl
@[simp] theorem setExceptions_light (s : State) (t : List ExcRecord) : (s.setExceptions t).light = s.light := rfl
@[simp] theorem setExceptions_memory (s : State) (t : List ExcRecord) : (s.setExceptions t).memory = s.memory := rfl
@[simp] theorem setExceptions_mem (s : State) (t : List ExcRecord) : (s.setExceptions t).mem = s.mem := rfl
@[simp] theorem setExceptions_drain (s : State) (t : List ExcRecord) : (s.setExceptions t).drain = s.drain := rfl
@[simp] theorem setExceptions_links (s : State) (t : List ExcRecord) : (s.setExceptions t).links = s.links := rfl
@[simp] theorem setExceptions_pending (s : State) (t : List ExcRecord) : (s.setExceptions t).pending = s.pending := rfl
@[simp] theorem setExceptions_account_exceptions (s : State) (t : List ExcRecord) :
    (s.setExceptions t).account.exceptions = t := rfl
@[simp] theorem setExceptions_account_volumes (s : State) (t : List ExcRecord) :
    (s.setExceptions t).account.volumes = s.account.volumes := rfl
@[simp] theorem setExceptions_account_leaves (s : State) (t : List ExcRecord) :
    (s.setExceptions t).account.leaves = s.account.leaves := rfl
@[simp] theorem setExceptions_link (s : State) (t : List ExcRecord) (m : LinkId) :
    (s.setExceptions t).link m = s.link m := rfl
@[simp] theorem setExceptions_ctx (s : State) (t : List ExcRecord) (g : Half) :
    (s.setExceptions t).ctx g = s.ctx g := rfl
@[simp] theorem setExceptions_claimOf (s : State) (t : List ExcRecord) (g : Half) :
    (s.setExceptions t).claimOf g = s.claimOf g := rfl
@[simp] theorem setExceptions_rx (s : State) (t : List ExcRecord) (g : Half) :
    (s.setExceptions t).rx g = s.rx g := rfl
@[simp] theorem setExceptions_slot (s : State) (t : List ExcRecord) (j : Fin 8) :
    (s.setExceptions t).slot j = s.slot j := rfl
@[simp] theorem setExceptions_lamp (s : State) (t : List ExcRecord) (j : Fin 8) :
    (s.setExceptions t).lamp j = s.lamp j := rfl
@[simp] theorem setExceptions_program (s : State) (t : List ExcRecord) (j : Fin 16) :
    (s.setExceptions t).program j = s.program j := rfl
@[simp] theorem setExceptions_volume (s : State) (t : List ExcRecord) (j : Fin 16) :
    (s.setExceptions t).volume j = s.volume j := rfl
@[simp] theorem setExceptions_mounted (s : State) (t : List ExcRecord) : (s.setExceptions t).mounted = s.mounted := rfl
@[simp] theorem setExceptions_moving (s : State) (t : List ExcRecord) : (s.setExceptions t).moving = s.moving := rfl
@[simp] theorem setExceptions_inFlight (s : State) (t : List ExcRecord) : (s.setExceptions t).inFlight = s.inFlight := rfl
@[simp] theorem setExceptions_claimHeld (s : State) (t : List ExcRecord) : (s.setExceptions t).claimHeld = s.claimHeld := rfl
@[simp] theorem setExceptions_drainIdle (s : State) (t : List ExcRecord) : (s.setExceptions t).drainIdle = s.drainIdle := rfl
@[simp] theorem setExceptions_lowestFree (s : State) (t : List ExcRecord) : (s.setExceptions t).lowestFree = s.lowestFree := rfl

/-! ### `setOpening` -/

@[simp] theorem setOpening_account (s : State) (o : Opening) : (s.setOpening o).account = s.account := rfl
@[simp] theorem setOpening_capture (s : State) (o : Opening) : (s.setOpening o).capture = s.capture := rfl
@[simp] theorem setOpening_light (s : State) (o : Opening) : (s.setOpening o).light = s.light := rfl
@[simp] theorem setOpening_memory (s : State) (o : Opening) : (s.setOpening o).memory = s.memory := rfl
@[simp] theorem setOpening_mem (s : State) (o : Opening) : (s.setOpening o).mem = s.mem := rfl
@[simp] theorem setOpening_drain (s : State) (o : Opening) : (s.setOpening o).drain = s.drain := rfl
@[simp] theorem setOpening_links (s : State) (o : Opening) : (s.setOpening o).links = s.links := rfl
@[simp] theorem setOpening_pending (s : State) (o : Opening) : (s.setOpening o).pending = s.pending := rfl
@[simp] theorem setOpening_opening (s : State) (o : Opening) :
    (s.setOpening o).opening = o := rfl
@[simp] theorem setOpening_link (s : State) (o : Opening) (m : LinkId) :
    (s.setOpening o).link m = s.link m := rfl
@[simp] theorem setOpening_ctx (s : State) (o : Opening) (g : Half) :
    (s.setOpening o).ctx g = s.ctx g := rfl
@[simp] theorem setOpening_claimOf (s : State) (o : Opening) (g : Half) :
    (s.setOpening o).claimOf g = s.claimOf g := rfl
@[simp] theorem setOpening_rx (s : State) (o : Opening) (g : Half) :
    (s.setOpening o).rx g = s.rx g := rfl
@[simp] theorem setOpening_slot (s : State) (o : Opening) (j : Fin 8) :
    (s.setOpening o).slot j = s.slot j := rfl
@[simp] theorem setOpening_lamp (s : State) (o : Opening) (j : Fin 8) :
    (s.setOpening o).lamp j = s.lamp j := rfl
@[simp] theorem setOpening_program (s : State) (o : Opening) (j : Fin 16) :
    (s.setOpening o).program j = s.program j := rfl
@[simp] theorem setOpening_volume (s : State) (o : Opening) (j : Fin 16) :
    (s.setOpening o).volume j = s.volume j := rfl
@[simp] theorem setOpening_mounted (s : State) (o : Opening) : (s.setOpening o).mounted = s.mounted := rfl
@[simp] theorem setOpening_moving (s : State) (o : Opening) : (s.setOpening o).moving = s.moving := rfl
@[simp] theorem setOpening_inFlight (s : State) (o : Opening) : (s.setOpening o).inFlight = s.inFlight := rfl
@[simp] theorem setOpening_claimHeld (s : State) (o : Opening) : (s.setOpening o).claimHeld = s.claimHeld := rfl
@[simp] theorem setOpening_drainIdle (s : State) (o : Opening) : (s.setOpening o).drainIdle = s.drainIdle := rfl
@[simp] theorem setOpening_lowestFree (s : State) (o : Opening) : (s.setOpening o).lowestFree = s.lowestFree := rfl

/-! ### `setActive` -/

@[simp] theorem setActive_opening (s : State) (a : Option ActiveDrain) : (s.setActive a).opening = s.opening := rfl
@[simp] theorem setActive_account (s : State) (a : Option ActiveDrain) : (s.setActive a).account = s.account := rfl
@[simp] theorem setActive_capture (s : State) (a : Option ActiveDrain) : (s.setActive a).capture = s.capture := rfl
@[simp] theorem setActive_light (s : State) (a : Option ActiveDrain) : (s.setActive a).light = s.light := rfl
@[simp] theorem setActive_memory (s : State) (a : Option ActiveDrain) : (s.setActive a).memory = s.memory := rfl
@[simp] theorem setActive_mem (s : State) (a : Option ActiveDrain) : (s.setActive a).mem = s.mem := rfl
@[simp] theorem setActive_links (s : State) (a : Option ActiveDrain) : (s.setActive a).links = s.links := rfl
@[simp] theorem setActive_pending (s : State) (a : Option ActiveDrain) : (s.setActive a).pending = s.pending := rfl
@[simp] theorem setActive_drain_active (s : State) (a : Option ActiveDrain) :
    (s.setActive a).drain.active = a := rfl
@[simp] theorem setActive_drain_queue (s : State) (a : Option ActiveDrain) :
    (s.setActive a).drain.queue = s.drain.queue := rfl
@[simp] theorem setActive_drain_buffer (s : State) (a : Option ActiveDrain) :
    (s.setActive a).drain.buffer = s.drain.buffer := rfl
@[simp] theorem setActive_drain_readyIn (s : State) (a : Option ActiveDrain) :
    (s.setActive a).drain.readyIn = s.drain.readyIn := rfl
@[simp] theorem setActive_link (s : State) (a : Option ActiveDrain) (m : LinkId) :
    (s.setActive a).link m = s.link m := rfl
@[simp] theorem setActive_ctx (s : State) (a : Option ActiveDrain) (g : Half) :
    (s.setActive a).ctx g = s.ctx g := rfl
@[simp] theorem setActive_claimOf (s : State) (a : Option ActiveDrain) (g : Half) :
    (s.setActive a).claimOf g = s.claimOf g := rfl
@[simp] theorem setActive_rx (s : State) (a : Option ActiveDrain) (g : Half) :
    (s.setActive a).rx g = s.rx g := rfl
@[simp] theorem setActive_slot (s : State) (a : Option ActiveDrain) (j : Fin 8) :
    (s.setActive a).slot j = s.slot j := rfl
@[simp] theorem setActive_lamp (s : State) (a : Option ActiveDrain) (j : Fin 8) :
    (s.setActive a).lamp j = s.lamp j := rfl
@[simp] theorem setActive_program (s : State) (a : Option ActiveDrain) (j : Fin 16) :
    (s.setActive a).program j = s.program j := rfl
@[simp] theorem setActive_volume (s : State) (a : Option ActiveDrain) (j : Fin 16) :
    (s.setActive a).volume j = s.volume j := rfl
@[simp] theorem setActive_mounted (s : State) (a : Option ActiveDrain) : (s.setActive a).mounted = s.mounted := rfl
@[simp] theorem setActive_moving (s : State) (a : Option ActiveDrain) : (s.setActive a).moving = s.moving := rfl
@[simp] theorem setActive_inFlight (s : State) (a : Option ActiveDrain) : (s.setActive a).inFlight = s.inFlight := rfl
@[simp] theorem setActive_claimHeld (s : State) (a : Option ActiveDrain) : (s.setActive a).claimHeld = s.claimHeld := rfl
@[simp] theorem setActive_lowestFree (s : State) (a : Option ActiveDrain) : (s.setActive a).lowestFree = s.lowestFree := rfl

/-! ### Banks -/

@[simp] theorem Pair.get_set {α : Type} (p : Pair α) (h g : Half) (a : α) :
    (p.set h a).get g = if g = h then a else p.get g := by
  cases h <;> cases g <;> rfl

@[simp] theorem Links.get_set (b : Links) (l m : LinkId) (k : Link) :
    (b.set l k).get m = if m = l then k else b.get m := by
  cases l <;> cases m <;> rfl

@[simp] theorem Links.set_get (b : Links) (l : LinkId) : b.set l (b.get l) = b := by
  cases l <;> rfl

@[simp] theorem Links.set_set (b : Links) (l : LinkId) (k k' : Link) : (b.set l k).set l k' = b.set l k' := by
  cases l <;> rfl

@[simp] theorem Pair.set_get {α : Type} (p : Pair α) (h : Half) : p.set h (p.get h) = p := by
  cases h <;> rfl

@[simp] theorem Pair.set_set {α : Type} (p : Pair α) (h : Half) (a b : α) : (p.set h a).set h b = p.set h b := by
  cases h <;> rfl

@[simp] theorem setLink_link (s : State) (l m : LinkId) (k : Link) :
    (s.setLink l k).link m = if m = l then k else s.link m :=
  Links.get_set s.links l m k

@[simp] theorem setCtx_ctx (s : State) (h g : Half) (c : Option Ctx) :
    (s.setCtx h c).ctx g = if g = h then c else s.ctx g :=
  Pair.get_set s.capture.ctxs h g c

@[simp] theorem setClaim_claimOf (s : State) (h g : Half) (c : Option Claim) :
    (s.setClaim h c).claimOf g = if g = h then c else s.claimOf g :=
  Pair.get_set s.capture.claims h g c

@[simp] theorem setRx_rx (s : State) (h g : Half) (r : Receiver) :
    (s.setRx h r).rx g = if g = h then r else s.rx g :=
  Pair.get_set s.memory.rx h g r

@[simp] theorem setSlot_slot (s : State) (i j : Fin 8) (x : Slot) :
    (s.setSlot i x).slot j = if j = i then x else s.slot j := by
  simp only [State.setSlot, State.slot, Fin.getElem_fin, Vector.getElem_set, Fin.ext_iff, eq_comm (a := i.val)]

@[simp] theorem setLamp_lamp (s : State) (i j : Fin 8) (x : Lamp) :
    (s.setLamp i x).lamp j = if j = i then x else s.lamp j := by
  simp only [State.setLamp, State.lamp, Fin.getElem_fin, Vector.getElem_set, Fin.ext_iff, eq_comm (a := i.val)]

@[simp] theorem setProgram_program (s : State) (i j : Fin 16) (p : Program) :
    (s.setProgram i p).program j = if j = i then p else s.program j := by
  simp only [State.setProgram, State.program, Fin.getElem_fin, Vector.getElem_set, Fin.ext_iff, eq_comm (a := i.val)]

@[simp] theorem setVolume_volume (s : State) (i j : Fin 16) (v : Volume) :
    (s.setVolume i v).volume j = if j = i then v else s.volume j := by
  simp only [State.setVolume, State.volume, Fin.getElem_fin, Vector.getElem_set, Fin.ext_iff, eq_comm (a := i.val)]

@[simp] theorem getElem_mapBank {α : Type} {n : Nat} (f : α → α) (v : Vector α n) (i : Nat) (h : i < n) :
    (mapBank f v)[i] = f v[i] := by
  simp [mapBank]

@[simp] theorem mapLamps_lamp (s : State) (f : Lamp → Lamp) (j : Fin 8) :
    (s.mapLamps f).lamp j = f (s.lamp j) := by
  simp [State.mapLamps, State.lamp]

@[simp] theorem mapSlots_slot (s : State) (f : Slot → Slot) (j : Fin 8) :
    (s.mapSlots f).slot j = f (s.slot j) := by
  simp [State.mapSlots, State.slot]

/-! ### Setting what stands -/

@[simp] theorem setLink_same (s : State) (l : LinkId) : s.setLink l (s.link l) = s := by
  simp [State.setLink, State.link]

@[simp] theorem setLink_setLink (s : State) (l : LinkId) (k k' : Link) :
    (s.setLink l k).setLink l k' = s.setLink l k' := by
  simp [State.setLink]

@[simp] theorem setRx_same (s : State) (h : Half) : s.setRx h (s.rx h) = s := by
  simp [State.setRx, State.rx]

@[simp] theorem setCtx_same (s : State) (h : Half) : s.setCtx h (s.ctx h) = s := by
  simp [State.setCtx, State.ctx]

@[simp] theorem setOpening_same (s : State) : s.setOpening s.opening = s := rfl

@[simp] theorem setOpening_setOpening (s : State) (o o' : Opening) :
    (s.setOpening o).setOpening o' = s.setOpening o' := rfl

@[simp] theorem setHeld_same (s : State) : s.setHeld s.light.held = s := rfl

@[simp] theorem setLeaves_same (s : State) : s.setLeaves s.account.leaves = s := rfl

/-! ### Updates of different parts commute with an update of a link -/

theorem setCtx_setLink (s : State) (h : Half) (c : Option Ctx) (m : LinkId) (q : Link) :
    (s.setLink m q).setCtx h c = (s.setCtx h c).setLink m q := rfl
theorem setClaim_setLink (s : State) (h : Half) (c : Option Claim) (m : LinkId) (q : Link) :
    (s.setLink m q).setClaim h c = (s.setClaim h c).setLink m q := rfl
theorem setWaitOrder_setLink (s : State) (w : List Half) (m : LinkId) (q : Link) :
    (s.setLink m q).setWaitOrder w = (s.setWaitOrder w).setLink m q := rfl
theorem setRx_setLink (s : State) (h : Half) (r : Receiver) (m : LinkId) (q : Link) :
    (s.setLink m q).setRx h r = (s.setRx h r).setLink m q := rfl
theorem setSlot_setLink (s : State) (i : Fin 8) (x : Slot) (m : LinkId) (q : Link) :
    (s.setLink m q).setSlot i x = (s.setSlot i x).setLink m q := rfl
theorem setBurst_setLink (s : State) (b : Option Burst) (m : LinkId) (q : Link) :
    (s.setLink m q).setBurst b = (s.setBurst b).setLink m q := rfl
theorem setEngine_setLink (s : State) (e : Engine) (m : LinkId) (q : Link) :
    (s.setLink m q).setEngine e = (s.setEngine e).setLink m q := rfl
theorem mapSlots_setLink (s : State) (f : Slot → Slot) (m : LinkId) (q : Link) :
    (s.setLink m q).mapSlots f = (s.mapSlots f).setLink m q := rfl
theorem setLamp_setLink (s : State) (i : Fin 8) (x : Lamp) (m : LinkId) (q : Link) :
    (s.setLink m q).setLamp i x = (s.setLamp i x).setLink m q := rfl
theorem setHeld_setLink (s : State) (r : List LightRequest) (m : LinkId) (q : Link) :
    (s.setLink m q).setHeld r = (s.setHeld r).setLink m q := rfl
theorem setProgram_setLink (s : State) (i : Fin 16) (p : Program) (m : LinkId) (q : Link) :
    (s.setLink m q).setProgram i p = (s.setProgram i p).setLink m q := rfl
theorem mapLamps_setLink (s : State) (f : Lamp → Lamp) (m : LinkId) (q : Link) :
    (s.setLink m q).mapLamps f = (s.mapLamps f).setLink m q := rfl
theorem setVolume_setLink (s : State) (i : Fin 16) (v : Volume) (m : LinkId) (q : Link) :
    (s.setLink m q).setVolume i v = (s.setVolume i v).setLink m q := rfl
theorem setLeaves_setLink (s : State) (t : List LeafEntry) (m : LinkId) (q : Link) :
    (s.setLink m q).setLeaves t = (s.setLeaves t).setLink m q := rfl
theorem setExceptions_setLink (s : State) (t : List ExcRecord) (m : LinkId) (q : Link) :
    (s.setLink m q).setExceptions t = (s.setExceptions t).setLink m q := rfl
theorem setOpening_setLink (s : State) (o : Opening) (m : LinkId) (q : Link) :
    (s.setLink m q).setOpening o = (s.setOpening o).setLink m q := rfl
theorem setActive_setLink (s : State) (a : Option ActiveDrain) (m : LinkId) (q : Link) :
    (s.setLink m q).setActive a = (s.setActive a).setLink m q := rfl

end Sys2Proof.Machine
end

