-- ==== Sys2Proof/Laws/Frame.lean ====
section
/-! SUPPORT. The frames of the shared operations: the parts of the state each leaves as they were. -/

namespace Sys2Proof.Machine

open Sys2Proof

/-! ### The links (R188) -/

@[simp] theorem notify_frame (s : State) (l : LinkId) (n : Notice) :
    (s.notify l n).opening = s.opening ∧ (s.notify l n).account = s.account ∧
      (s.notify l n).capture = s.capture ∧ (s.notify l n).light = s.light ∧ (s.notify l n).memory = s.memory ∧
      (s.notify l n).mem = s.mem ∧ (s.notify l n).drain = s.drain ∧ (s.notify l n).pending = s.pending := by simp [State.notify]

@[simp] theorem notifyFault_frame (s : State) (c : FaultCause) (d : Option Direction) :
    (s.notifyFault c d).opening = s.opening ∧ (s.notifyFault c d).account = s.account ∧
      (s.notifyFault c d).capture = s.capture ∧ (s.notifyFault c d).light = s.light ∧
      (s.notifyFault c d).memory = s.memory ∧ (s.notifyFault c d).mem = s.mem ∧
      (s.notifyFault c d).drain = s.drain ∧ (s.notifyFault c d).pending = s.pending := by
  unfold State.notifyFault; dsimp only; simp

/-! ### The account unit -/

@[simp] theorem changeSide_frame (s : State) (f : Face) (j : Nat) (g : SideRec → SideRec) :
    (s.changeSide f j g).opening = s.opening ∧ (s.changeSide f j g).capture = s.capture ∧
      (s.changeSide f j g).light = s.light ∧ (s.changeSide f j g).memory = s.memory ∧
      (s.changeSide f j g).mem = s.mem ∧ (s.changeSide f j g).drain = s.drain ∧
      (s.changeSide f j g).links = s.links ∧ (s.changeSide f j g).pending = s.pending := by
  unfold State.changeSide; dsimp only; (repeat' split) <;> simp

@[simp] theorem charge_frame (s : State) (a b : Option Nat) (dl dr : Nat) :
    (s.charge a b dl dr).opening = s.opening ∧ (s.charge a b dl dr).capture = s.capture ∧
      (s.charge a b dl dr).light = s.light ∧ (s.charge a b dl dr).memory = s.memory ∧
      (s.charge a b dl dr).mem = s.mem ∧ (s.charge a b dl dr).drain = s.drain ∧
      (s.charge a b dl dr).links = s.links ∧ (s.charge a b dl dr).pending = s.pending := by
  unfold State.charge; dsimp only; (repeat' split) <;> simp

@[simp] theorem addException_frame (s : State) (x : ExcRecord) :
    (s.addException x).opening = s.opening ∧ (s.addException x).capture = s.capture ∧
      (s.addException x).light = s.light ∧ (s.addException x).memory = s.memory ∧
      (s.addException x).mem = s.mem ∧ (s.addException x).drain = s.drain ∧
      (s.addException x).pending = s.pending := by
  unfold State.addException; dsimp only; (repeat' split) <;> simp

@[simp] theorem addExceptionOf_frame (s : State) (x : Option ExcRecord) :
    (s.addException? x).opening = s.opening ∧ (s.addException? x).capture = s.capture ∧
      (s.addException? x).light = s.light ∧ (s.addException? x).memory = s.memory ∧
      (s.addException? x).mem = s.mem ∧ (s.addException? x).drain = s.drain ∧
      (s.addException? x).pending = s.pending := by
  unfold State.addException?; (repeat' split) <;> simp

@[simp] theorem emptyTables_frame (s : State) :
    (s.emptyTables).opening = s.opening ∧ (s.emptyTables).capture = s.capture ∧
      (s.emptyTables).light = s.light ∧ (s.emptyTables).memory = s.memory ∧ (s.emptyTables).mem = s.mem ∧
      (s.emptyTables).drain = s.drain ∧ (s.emptyTables).links = s.links ∧ (s.emptyTables).pending = s.pending := by
  unfold State.emptyTables; simp

/-! ### The opening controller -/

@[simp] theorem takeEvaluated_frame (s : State) :
    (s.takeEvaluated).account = s.account ∧ (s.takeEvaluated).capture = s.capture ∧
      (s.takeEvaluated).light = s.light ∧ (s.takeEvaluated).memory = s.memory ∧ (s.takeEvaluated).mem = s.mem ∧
      (s.takeEvaluated).drain = s.drain ∧ (s.takeEvaluated).pending = s.pending := by
  unfold State.takeEvaluated; dsimp only; (repeat' split) <;> simp

@[simp] theorem evaluate_frame (s : State) :
    (s.evaluate).account = s.account ∧ (s.evaluate).capture = s.capture ∧ (s.evaluate).light = s.light ∧
      (s.evaluate).memory = s.memory ∧ (s.evaluate).mem = s.mem ∧ (s.evaluate).drain = s.drain ∧
      (s.evaluate).pending = s.pending := by
  unfold State.evaluate; (repeat' split) <;> simp

@[simp] theorem evaluateSide_frame (s : State) (f : Face) (j : Nat) :
    (s.evaluateSide f j).account = s.account ∧ (s.evaluateSide f j).capture = s.capture ∧
      (s.evaluateSide f j).light = s.light ∧ (s.evaluateSide f j).memory = s.memory ∧
      (s.evaluateSide f j).mem = s.mem ∧ (s.evaluateSide f j).drain = s.drain ∧
      (s.evaluateSide f j).pending = s.pending := by
  unfold State.evaluateSide; (repeat' split) <;> simp

@[simp] theorem enterSettling_frame (s : State) :
    (s.enterSettling).account = s.account ∧ (s.enterSettling).capture = s.capture ∧
      (s.enterSettling).light = s.light ∧ (s.enterSettling).memory = s.memory ∧ (s.enterSettling).mem = s.mem ∧
      (s.enterSettling).drain = s.drain ∧ (s.enterSettling).pending = s.pending := by
  unfold State.enterSettling; dsimp only; (repeat' split) <;> simp

@[simp] theorem enterIdle_frame (s : State) :
    (s.enterIdle).account = s.account ∧ (s.enterIdle).capture = s.capture ∧ (s.enterIdle).light = s.light ∧
      (s.enterIdle).memory = s.memory ∧ (s.enterIdle).mem = s.mem ∧ (s.enterIdle).drain = s.drain ∧
      (s.enterIdle).links = s.links ∧ (s.enterIdle).pending = s.pending := by
  unfold State.enterIdle; dsimp only; simp

@[simp] theorem enterCradle_frame (s : State) (i : Fin 16) (k : Nat) :
    (s.enterCradle i k).account = s.account ∧ (s.enterCradle i k).capture = s.capture ∧
      (s.enterCradle i k).light = s.light ∧ (s.enterCradle i k).memory = s.memory ∧
      (s.enterCradle i k).mem = s.mem ∧ (s.enterCradle i k).drain = s.drain ∧
      (s.enterCradle i k).pending = s.pending := by
  unfold State.enterCradle; dsimp only; (repeat' split) <;> simp

/-! ### The capture unit -/

@[simp] theorem placeRequest_frame (s : State) (h : Half) :
    (s.placeRequest h).opening = s.opening ∧ (s.placeRequest h).account = s.account ∧
      (s.placeRequest h).capture = s.capture ∧ (s.placeRequest h).memory = s.memory ∧
      (s.placeRequest h).mem = s.mem ∧ (s.placeRequest h).drain = s.drain ∧ (s.placeRequest h).links = s.links ∧
      (s.placeRequest h).pending = s.pending := by
  unfold State.placeRequest; (repeat' split) <;> simp

@[simp] theorem withdraw_frame (s : State) (h : Half) :
    (s.withdraw h).opening = s.opening ∧ (s.withdraw h).account = s.account ∧
      (s.withdraw h).capture = s.capture ∧ (s.withdraw h).memory = s.memory ∧ (s.withdraw h).mem = s.mem ∧
      (s.withdraw h).drain = s.drain ∧ (s.withdraw h).links = s.links ∧ (s.withdraw h).pending = s.pending := by
  unfold State.withdraw; simp

@[simp] theorem bindSlot_frame (s : State) (h : Half) (i : Fin 8) :
    (s.bindSlot h i).opening = s.opening ∧ (s.bindSlot h i).account = s.account ∧
      (s.bindSlot h i).light = s.light ∧ (s.bindSlot h i).mem = s.mem ∧ (s.bindSlot h i).drain = s.drain ∧
      (s.bindSlot h i).links = s.links ∧ (s.bindSlot h i).pending = s.pending := by
  unfold State.bindSlot; dsimp only; (repeat' split) <;> simp

@[simp] theorem stopSlotLimit_frame (s : State) (h : Half) :
    (s.stopSlotLimit h).opening = s.opening ∧ (s.stopSlotLimit h).account = s.account ∧
      (s.stopSlotLimit h).light = s.light ∧ (s.stopSlotLimit h).memory = s.memory ∧
      (s.stopSlotLimit h).mem = s.mem ∧ (s.stopSlotLimit h).drain = s.drain ∧
      (s.stopSlotLimit h).links = s.links ∧ (s.stopSlotLimit h).pending = s.pending := by
  unfold State.stopSlotLimit; (repeat' split) <;> simp

@[simp] theorem offerOnce_frame (s : State) :
    (s.offerOnce).opening = s.opening ∧ (s.offerOnce).account = s.account ∧ (s.offerOnce).mem = s.mem ∧
      (s.offerOnce).drain = s.drain ∧ (s.offerOnce).links = s.links ∧ (s.offerOnce).pending = s.pending := by
  unfold State.offerOnce; (repeat' split) <;> simp

@[simp] theorem offerSlots_frame (s : State) :
    (s.offerSlots).opening = s.opening ∧ (s.offerSlots).account = s.account ∧ (s.offerSlots).mem = s.mem ∧
      (s.offerSlots).drain = s.drain ∧ (s.offerSlots).links = s.links ∧ (s.offerSlots).pending = s.pending := by
  unfold State.offerSlots; simp

@[simp] theorem freeSlot_frame (s : State) (i : Fin 8) :
    (s.freeSlot i).opening = s.opening ∧ (s.freeSlot i).account = s.account ∧ (s.freeSlot i).mem = s.mem ∧
      (s.freeSlot i).drain = s.drain ∧ (s.freeSlot i).links = s.links ∧ (s.freeSlot i).pending = s.pending := by
  unfold State.freeSlot; simp

@[simp] theorem returnSlot_frame (s : State) (x : Option (Fin 8)) :
    (s.returnSlot x).opening = s.opening ∧ (s.returnSlot x).account = s.account ∧ (s.returnSlot x).mem = s.mem ∧
      (s.returnSlot x).drain = s.drain ∧ (s.returnSlot x).links = s.links ∧ (s.returnSlot x).pending = s.pending := by
  unfold State.returnSlot; (repeat' split) <;> simp

@[simp] theorem bindOrWait_frame (s : State) (h : Half) :
    (s.bindOrWait h).opening = s.opening ∧ (s.bindOrWait h).account = s.account ∧
      (s.bindOrWait h).light = s.light ∧ (s.bindOrWait h).mem = s.mem ∧ (s.bindOrWait h).drain = s.drain ∧
      (s.bindOrWait h).links = s.links ∧ (s.bindOrWait h).pending = s.pending := by
  unfold State.bindOrWait; (repeat' split) <;> simp

@[simp] theorem startStep_frame (s : State) (h : Half) :
    (s.startStep h).opening = s.opening ∧ (s.startStep h).account = s.account ∧ (s.startStep h).mem = s.mem ∧
      (s.startStep h).drain = s.drain ∧ (s.startStep h).links = s.links ∧ (s.startStep h).pending = s.pending := by
  unfold State.startStep; dsimp only; (repeat' split) <;> simp

@[simp] theorem sharePairLimit_frame (s : State) :
    (s.sharePairLimit).opening = s.opening ∧ (s.sharePairLimit).account = s.account ∧
      (s.sharePairLimit).memory = s.memory ∧ (s.sharePairLimit).mem = s.mem ∧
      (s.sharePairLimit).drain = s.drain ∧ (s.sharePairLimit).links = s.links ∧
      (s.sharePairLimit).pending = s.pending := by
  unfold State.sharePairLimit; (repeat' split) <;> simp

@[simp] theorem startPair_frame (s : State) :
    (s.startPair).opening = s.opening ∧ (s.startPair).account = s.account ∧ (s.startPair).mem = s.mem ∧
      (s.startPair).drain = s.drain ∧ (s.startPair).links = s.links ∧ (s.startPair).pending = s.pending := by
  unfold State.startPair; simp

@[simp] theorem startWaiting_frame (s : State) :
    (s.startWaiting).opening = s.opening ∧ (s.startWaiting).account = s.account ∧ (s.startWaiting).mem = s.mem ∧
      (s.startWaiting).drain = s.drain ∧ (s.startWaiting).links = s.links ∧ (s.startWaiting).pending = s.pending := by
  unfold State.startWaiting; dsimp only; (repeat' split) <;> simp

@[simp] theorem endClaim_frame (s : State) (h : Half) (e : Bool) :
    (s.endClaim h e).opening = s.opening ∧ (s.endClaim h e).light = s.light ∧
      (s.endClaim h e).memory = s.memory ∧ (s.endClaim h e).mem = s.mem ∧ (s.endClaim h e).drain = s.drain ∧
      (s.endClaim h e).pending = s.pending := by
  unfold State.endClaim; dsimp only; (repeat' split) <;> simp

@[simp] theorem endClaims_frame (s : State) (e : Bool) :
    (s.endClaims e).opening = s.opening ∧ (s.endClaims e).light = s.light ∧ (s.endClaims e).memory = s.memory ∧
      (s.endClaims e).mem = s.mem ∧ (s.endClaims e).drain = s.drain ∧ (s.endClaims e).pending = s.pending := by
  unfold State.endClaims; simp

@[simp] theorem partnerEnded_frame (s : State) (h : Half) :
    (s.partnerEnded h).opening = s.opening ∧ (s.partnerEnded h).account = s.account ∧
      (s.partnerEnded h).light = s.light ∧ (s.partnerEnded h).memory = s.memory ∧
      (s.partnerEnded h).mem = s.mem ∧ (s.partnerEnded h).drain = s.drain ∧ (s.partnerEnded h).links = s.links ∧
      (s.partnerEnded h).pending = s.pending := by
  unfold State.partnerEnded; dsimp only; (repeat' split) <;> simp

@[simp] theorem setCause_frame (s : State) (h : Half) (c : EndCause) (x : Option Cap) :
    (s.setCause h c x).opening = s.opening ∧ (s.setCause h c x).account = s.account ∧
      (s.setCause h c x).light = s.light ∧ (s.setCause h c x).memory = s.memory ∧
      (s.setCause h c x).mem = s.mem ∧ (s.setCause h c x).drain = s.drain ∧ (s.setCause h c x).links = s.links ∧
      (s.setCause h c x).pending = s.pending := by
  unfold State.setCause; (repeat' split) <;> simp

@[simp] theorem orderEnd_frame (s : State) (h : Half) (o : EndOrder) :
    (s.orderEnd h o).opening = s.opening ∧ (s.orderEnd h o).account = s.account ∧
      (s.orderEnd h o).light = s.light ∧ (s.orderEnd h o).memory = s.memory ∧ (s.orderEnd h o).mem = s.mem ∧
      (s.orderEnd h o).drain = s.drain ∧ (s.orderEnd h o).links = s.links ∧ (s.orderEnd h o).pending = s.pending := by
  unfold State.orderEnd; (repeat' split) <;> simp

@[simp] theorem markCancel_frame (s : State) (h : Half) :
    (s.markCancel h).opening = s.opening ∧ (s.markCancel h).account = s.account ∧
      (s.markCancel h).capture = s.capture ∧ (s.markCancel h).light = s.light ∧ (s.markCancel h).mem = s.mem ∧
      (s.markCancel h).drain = s.drain ∧ (s.markCancel h).links = s.links ∧ (s.markCancel h).pending = s.pending := by
  unfold State.markCancel; dsimp only; (repeat' split) <;> simp

@[simp] theorem endOne_frame (s : State) (h : Half) :
    (s.endOne h).mem = s.mem ∧ (s.endOne h).drain = s.drain ∧ (s.endOne h).pending = s.pending := by
  unfold State.endOne; dsimp only; (repeat' split) <;> simp

@[simp] theorem endCapture_frame (s : State) (h : Half) :
    (s.endCapture h).mem = s.mem ∧ (s.endCapture h).drain = s.drain ∧ (s.endCapture h).pending = s.pending := by
  unfold State.endCapture; dsimp only; (repeat' split) <;> simp

@[simp] theorem endIfNow_frame (s : State) (h : Half) :
    (s.endIfNow h).mem = s.mem ∧ (s.endIfNow h).drain = s.drain ∧ (s.endIfNow h).pending = s.pending := by
  unfold State.endIfNow; (repeat' split) <;> simp

@[simp] theorem cancelCtx_frame (s : State) (h : Half) :
    (s.cancelCtx h).mem = s.mem ∧ (s.cancelCtx h).drain = s.drain ∧ (s.cancelCtx h).pending = s.pending := by
  unfold State.cancelCtx; simp

@[simp] theorem cancelBoth_frame (s : State) :
    (s.cancelBoth).mem = s.mem ∧ (s.cancelBoth).drain = s.drain ∧ (s.cancelBoth).pending = s.pending := by
  unfold State.cancelBoth; dsimp only; simp

@[simp] theorem abortBoth_frame (s : State) :
    (s.abortBoth).mem = s.mem ∧ (s.abortBoth).drain = s.drain ∧ (s.abortBoth).pending = s.pending := by
  unfold State.abortBoth; simp

/-! ### Faults -/

@[simp] theorem enterFault_frame (s : State) (c : FaultCause) :
    (s.enterFault c).mem = s.mem ∧ (s.enterFault c).drain = s.drain ∧ (s.enterFault c).pending = s.pending := by
  unfold State.enterFault; dsimp only; simp

@[simp] theorem takeCause_frame (s : State) (c : FaultCause) :
    (s.takeCause c).mem = s.mem ∧ (s.takeCause c).drain = s.drain ∧ (s.takeCause c).pending = s.pending := by
  unfold State.takeCause; (repeat' split) <;> simp

/-! ### The light unit -/

@[simp] theorem failGrant_frame (s : State) (v : Served) (c : EndCause) (x : Option Cap) :
    (s.failGrant v c x).mem = s.mem ∧ (s.failGrant v c x).drain = s.drain ∧
      (s.failGrant v c x).pending = s.pending := by
  unfold State.failGrant; dsimp only; (repeat' split) <;> simp

@[simp] theorem fireCtx_frame (s : State) (h : Half) :
    (s.fireCtx h).opening = s.opening ∧ (s.fireCtx h).account = s.account ∧ (s.fireCtx h).light = s.light ∧
      (s.fireCtx h).memory = s.memory ∧ (s.fireCtx h).mem = s.mem ∧ (s.fireCtx h).drain = s.drain ∧
      (s.fireCtx h).links = s.links ∧ (s.fireCtx h).pending = s.pending := by
  unfold State.fireCtx; (repeat' split) <;> simp

theorem foldl_setLamp_frame (s : State) (xs : List (Fin 8)) :
    let t := xs.foldl (fun a x => a.setLamp x (a.lamp x).fire) s
    t.opening = s.opening ∧ t.account = s.account ∧ t.capture = s.capture ∧ t.memory = s.memory ∧ t.mem = s.mem ∧
      t.drain = s.drain ∧ t.links = s.links ∧ t.pending = s.pending := by
  induction xs generalizing s with
  | nil => simp
  | cons x xs ih => simpa using ih (s.setLamp x (s.lamp x).fire)

@[simp] theorem beginFlash_frame (s : State) (r : LightRequest) (i : DoseInput) (u : Nat) (d : Bool) :
    (s.beginFlash r i u d).opening = s.opening ∧ (s.beginFlash r i u d).account = s.account ∧
      (s.beginFlash r i u d).memory = s.memory ∧ (s.beginFlash r i u d).mem = s.mem ∧
      (s.beginFlash r i u d).drain = s.drain ∧ (s.beginFlash r i u d).links = s.links ∧
      (s.beginFlash r i u d).pending = s.pending := by
  have h := foldl_setLamp_frame s (lampsOf r.mask)
  unfold State.beginFlash
  cases r.served <;> simp_all [Served.halves]

@[simp] theorem grantRequest_frame (s : State) (r : LightRequest) :
    (s.grantRequest r).mem = s.mem ∧ (s.grantRequest r).drain = s.drain ∧ (s.grantRequest r).pending = s.pending := by
  unfold State.grantRequest; dsimp only; (repeat' split) <;> simp

theorem lightDecisions_frame (n : Nat) (s : State) :
    (lightDecisions n s).mem = s.mem ∧ (lightDecisions n s).drain = s.drain ∧
      (lightDecisions n s).pending = s.pending := by
  induction n generalizing s with
  | zero => simp [lightDecisions]
  | succ n ih => unfold lightDecisions; (repeat' split) <;> simp [ih]

@[simp] theorem decideLight_frame (s : State) :
    (s.decideLight).mem = s.mem ∧ (s.decideLight).drain = s.drain ∧ (s.decideLight).pending = s.pending := lightDecisions_frame 4 s

/-! ### The frame memory controller -/

@[simp] theorem handReport_frame (s : State) (h : Half) (i : Fin 8) (x : Seal) :
    (s.handReport h i x).opening = s.opening ∧ (s.handReport h i x).account = s.account ∧
      (s.handReport h i x).light = s.light ∧ (s.handReport h i x).memory = s.memory ∧
      (s.handReport h i x).mem = s.mem ∧ (s.handReport h i x).drain = s.drain ∧
      (s.handReport h i x).links = s.links ∧ (s.handReport h i x).pending = s.pending := by
  unfold State.handReport; (repeat' split) <;> simp

@[simp] theorem sealFrame_frame (s : State) (h : Half) (x : Seal) :
    (s.sealFrame h x).opening = s.opening ∧ (s.sealFrame h x).account = s.account ∧
      (s.sealFrame h x).light = s.light ∧ (s.sealFrame h x).mem = s.mem ∧ (s.sealFrame h x).drain = s.drain ∧
      (s.sealFrame h x).pending = s.pending := by
  unfold State.sealFrame; dsimp only; (repeat' split) <;> simp

@[simp] theorem sealIfReady_frame (s : State) (h : Half) :
    (s.sealIfReady h).opening = s.opening ∧ (s.sealIfReady h).account = s.account ∧
      (s.sealIfReady h).light = s.light ∧ (s.sealIfReady h).mem = s.mem ∧ (s.sealIfReady h).drain = s.drain ∧
      (s.sealIfReady h).pending = s.pending := by
  unfold State.sealIfReady; (repeat' split) <;> simp

@[simp] theorem grantRefresh_frame (s : State) :
    (s.grantRefresh).opening = s.opening ∧ (s.grantRefresh).account = s.account ∧
      (s.grantRefresh).capture = s.capture ∧ (s.grantRefresh).light = s.light ∧ (s.grantRefresh).mem = s.mem ∧
      (s.grantRefresh).drain = s.drain ∧ (s.grantRefresh).links = s.links ∧ (s.grantRefresh).pending = s.pending := by
  unfold State.grantRefresh; dsimp only; simp

@[simp] theorem enterRetention_frame (s : State) :
    (s.enterRetention).opening = s.opening ∧ (s.enterRetention).account = s.account ∧
      (s.enterRetention).capture = s.capture ∧ (s.enterRetention).light = s.light ∧
      (s.enterRetention).mem = s.mem ∧ (s.enterRetention).drain = s.drain ∧ (s.enterRetention).links = s.links ∧
      (s.enterRetention).pending = s.pending := by
  unfold State.enterRetention; dsimp only; simp

@[simp] theorem grantBurst_frame (s : State) (r : Requester) :
    (s.grantBurst r).opening = s.opening ∧ (s.grantBurst r).account = s.account ∧
      (s.grantBurst r).capture = s.capture ∧ (s.grantBurst r).light = s.light ∧ (s.grantBurst r).mem = s.mem ∧
      (s.grantBurst r).drain = s.drain ∧ (s.grantBurst r).links = s.links ∧ (s.grantBurst r).pending = s.pending := by
  unfold State.grantBurst; dsimp only; (repeat' split) <;> simp

@[simp] theorem decideMemory_frame (s : State) :
    (s.decideMemory).opening = s.opening ∧ (s.decideMemory).account = s.account ∧
      (s.decideMemory).capture = s.capture ∧ (s.decideMemory).light = s.light ∧ (s.decideMemory).mem = s.mem ∧
      (s.decideMemory).drain = s.drain ∧ (s.decideMemory).links = s.links ∧ (s.decideMemory).pending = s.pending := by
  unfold State.decideMemory; (repeat' split) <;> simp

@[simp] theorem parkMemory_frame (s : State) :
    (s.parkMemory).opening = s.opening ∧ (s.parkMemory).account = s.account ∧
      (s.parkMemory).capture = s.capture ∧ (s.parkMemory).light = s.light ∧ (s.parkMemory).mem = s.mem ∧
      (s.parkMemory).drain = s.drain ∧ (s.parkMemory).links = s.links ∧ (s.parkMemory).pending = s.pending := by
  unfold State.parkMemory; dsimp only; (repeat' split) <;> simp

@[simp] theorem engineDone_frame (s : State) :
    (s.engineDone).opening = s.opening ∧ (s.engineDone).account = s.account ∧
      (s.engineDone).capture = s.capture ∧ (s.engineDone).light = s.light ∧ (s.engineDone).mem = s.mem ∧
      (s.engineDone).drain = s.drain ∧ (s.engineDone).links = s.links ∧ (s.engineDone).pending = s.pending := by
  unfold State.engineDone; (repeat' split) <;> simp

@[simp] theorem wakeMemory_frame (s : State) :
    (s.wakeMemory).opening = s.opening ∧ (s.wakeMemory).account = s.account ∧
      (s.wakeMemory).capture = s.capture ∧ (s.wakeMemory).light = s.light ∧ (s.wakeMemory).mem = s.mem ∧
      (s.wakeMemory).drain = s.drain ∧ (s.wakeMemory).links = s.links ∧ (s.wakeMemory).pending = s.pending := by
  unfold State.wakeMemory; dsimp only; simp

@[simp] theorem beginSave_frame (s : State) (x : Fin 8) (n : Nat) :
    (s.beginSave x n).opening = s.opening ∧ (s.beginSave x n).account = s.account ∧
      (s.beginSave x n).capture = s.capture ∧ (s.beginSave x n).light = s.light ∧
      (s.beginSave x n).mem = s.mem ∧ (s.beginSave x n).drain = s.drain ∧ (s.beginSave x n).links = s.links ∧
      (s.beginSave x n).pending = s.pending := by
  unfold State.beginSave; simp

@[simp] theorem beginRestore_frame (s : State) (x : Fin 8) :
    (s.beginRestore x).opening = s.opening ∧ (s.beginRestore x).account = s.account ∧
      (s.beginRestore x).capture = s.capture ∧ (s.beginRestore x).light = s.light ∧
      (s.beginRestore x).mem = s.mem ∧ (s.beginRestore x).drain = s.drain ∧ (s.beginRestore x).links = s.links ∧
      (s.beginRestore x).pending = s.pending := by
  unfold State.beginRestore; dsimp only; simp

@[simp] theorem abandonTransfer_frame (s : State) :
    (s.abandonTransfer).opening = s.opening ∧ (s.abandonTransfer).account = s.account ∧
      (s.abandonTransfer).capture = s.capture ∧ (s.abandonTransfer).light = s.light ∧
      (s.abandonTransfer).mem = s.mem ∧ (s.abandonTransfer).drain = s.drain ∧
      (s.abandonTransfer).links = s.links ∧ (s.abandonTransfer).pending = s.pending := by
  unfold State.abandonTransfer; dsimp only; (repeat' split) <;> simp

@[simp] theorem staleBurst_frame (s : State) :
    (s.staleBurst).opening = s.opening ∧ (s.staleBurst).account = s.account ∧
      (s.staleBurst).capture = s.capture ∧ (s.staleBurst).light = s.light ∧ (s.staleBurst).mem = s.mem ∧
      (s.staleBurst).drain = s.drain ∧ (s.staleBurst).links = s.links ∧ (s.staleBurst).pending = s.pending := by
  unfold State.staleBurst; (repeat' split) <;> simp

@[simp] theorem saveWords_frame (s : State) (n : Nat) :
    (s.saveWords n).opening = s.opening ∧ (s.saveWords n).account = s.account ∧
      (s.saveWords n).capture = s.capture ∧ (s.saveWords n).light = s.light ∧
      (s.saveWords n).memory = s.memory ∧ (s.saveWords n).drain = s.drain ∧ (s.saveWords n).links = s.links ∧
      (s.saveWords n).pending = s.pending := by
  unfold State.saveWords; dsimp only; (repeat' split) <;> simp

@[simp] theorem saveCompleted_frame (s : State) (i : Fin 16) :
    (s.saveCompleted i).opening = s.opening ∧ (s.saveCompleted i).capture = s.capture ∧
      (s.saveCompleted i).light = s.light ∧ (s.saveCompleted i).memory = s.memory ∧
      (s.saveCompleted i).mem = s.mem ∧ (s.saveCompleted i).drain = s.drain ∧
      (s.saveCompleted i).pending = s.pending := by
  unfold State.saveCompleted; dsimp only; (repeat' split) <;> simp

@[simp] theorem restoreCompleted_frame (s : State) (i : Fin 16) (x : Fin 8) (n : Nat) :
    (s.restoreCompleted i x n).mem = s.mem ∧ (s.restoreCompleted i x n).drain = s.drain ∧
      (s.restoreCompleted i x n).pending = s.pending := by
  unfold State.restoreCompleted; dsimp only; simp

@[simp] theorem engineCompleted_frame (s : State) (e : Engine) :
    (s.engineCompleted e).mem = s.mem ∧ (s.engineCompleted e).drain = s.drain ∧
      (s.engineCompleted e).pending = s.pending := by
  unfold State.engineCompleted; dsimp only; (repeat' split) <;> simp

@[simp] theorem engineBurst_frame (s : State) (n : Nat) :
    (s.engineBurst n).drain = s.drain ∧ (s.engineBurst n).pending = s.pending := by
  unfold State.engineBurst; dsimp only; (repeat' split) <;> simp

/-! ### The drain unit -/

@[simp] theorem activateDrain_frame (s : State) :
    (s.activateDrain).opening = s.opening ∧ (s.activateDrain).account = s.account ∧
      (s.activateDrain).capture = s.capture ∧ (s.activateDrain).light = s.light ∧
      (s.activateDrain).mem = s.mem ∧ (s.activateDrain).links = s.links ∧ (s.activateDrain).pending = s.pending := by
  unfold State.activateDrain; dsimp only; (repeat' split) <;> simp

@[simp] theorem discardSide_frame (s : State) (x : Slot) :
    (s.discardSide x).capture = s.capture ∧ (s.discardSide x).light = s.light ∧
      (s.discardSide x).memory = s.memory ∧ (s.discardSide x).mem = s.mem ∧ (s.discardSide x).drain = s.drain ∧
      (s.discardSide x).pending = s.pending := by
  unfold State.discardSide; (repeat' split) <;> simp

@[simp] theorem notifyDropped_frame (s : State) (i : Fin 8) (x : Slot) (d : Bool) (r : Option Status) :
    (s.notifyDropped i x d r).opening = s.opening ∧ (s.notifyDropped i x d r).account = s.account ∧
      (s.notifyDropped i x d r).capture = s.capture ∧ (s.notifyDropped i x d r).light = s.light ∧
      (s.notifyDropped i x d r).memory = s.memory ∧ (s.notifyDropped i x d r).mem = s.mem ∧
      (s.notifyDropped i x d r).drain = s.drain ∧ (s.notifyDropped i x d r).pending = s.pending := by
  unfold State.notifyDropped; (repeat' split) <;> simp

@[simp] theorem releaseNow_frame (s : State) (i : Fin 8) (d : Bool) :
    (s.releaseNow i d).state.mem = s.mem ∧ (s.releaseNow i d).state.drain = s.drain ∧
      (s.releaseNow i d).state.pending = s.pending := by
  unfold State.releaseNow; dsimp only; (repeat' split) <;> simp

@[simp] theorem evaluateDeferred_frame (s : State) (i : Fin 8) (d : Bool) :
    (s.evaluateDeferred i d).state.mem = s.mem ∧ (s.evaluateDeferred i d).state.drain = s.drain ∧
      (s.evaluateDeferred i d).state.pending = s.pending := by
  unfold State.evaluateDeferred; dsimp only; (repeat' split) <;> simp

@[simp] theorem drainReleases_frame (s : State) (j : DrainJob) (x : DrainStatus) :
    (s.drainReleases j x).state.mem = s.mem ∧ (s.drainReleases j x).state.drain = s.drain ∧
      (s.drainReleases j x).state.pending = s.pending := by
  unfold State.drainReleases; dsimp only; (repeat' split) <;> simp

@[simp] theorem runDeferred_frame (s : State) (i : Fin 8) :
    (s.runDeferred i).mem = s.mem ∧ (s.runDeferred i).drain = s.drain ∧ (s.runDeferred i).pending = s.pending := by
  unfold State.runDeferred; dsimp only; (repeat' split) <;> simp

@[simp] theorem drainEnd_frame (s : State) (x : DrainStatus) :
    (s.drainEnd x).mem = s.mem ∧ (s.drainEnd x).pending = s.pending := by
  unfold State.drainEnd; dsimp only; (repeat' split) <;> simp

@[simp] theorem orderDrain_frame (s : State) (x : DrainStatus) :
    (s.orderDrain x).mem = s.mem ∧ (s.orderDrain x).pending = s.pending := by
  unfold State.orderDrain; dsimp only; (repeat' split) <;> simp

@[simp] theorem drainBurstDone_frame (s : State) (n : Nat) :
    (s.drainBurstDone n).mem = s.mem ∧ (s.drainBurstDone n).pending = s.pending := by
  unfold State.drainBurstDone; dsimp only; (repeat' split) <;> simp

/-! ### Both arbiters -/

@[simp] theorem arbitrate_frame (s t : State) :
    (s.arbitrate t).mem = t.mem ∧ (s.arbitrate t).drain = t.drain ∧ (s.arbitrate t).pending = t.pending := by
  simp only [State.arbitrate, State.decideIfBegan, State.decideIfPlaced]; (repeat' split) <;> simp

end Sys2Proof.Machine
end

