-- ==== Sys2Proof/Laws/Memory.lean ====
section
/-! SUPPORT. The stacked DRAM as byte cells (log 6): a read after a write, the canonical form kept by every write,
and the words of a slot. -/

namespace Sys2Proof.Machine

open Sys2Proof

/-- The canonical form, read off the front of the cells. -/
theorem Memory.wf_cons (x : Nat) (y : Byte) (t : List Host.Cell) :
    Memory.wf ((x, y) :: t) = true ↔
      y ≠ unlisted ∧ (∀ c ∈ t.head?, x < c.1) ∧ Memory.wf t = true := by
  cases t with
  | nil => simp [Memory.wf]
  | cons c t => obtain ⟨x', y'⟩ := c; simp [Memory.wf, and_assoc]

/-- Below the first cell every address reads as unlisted. -/
theorem memRead_below (m : List Host.Cell) (a : Nat) (h : Memory.wf m = true) (hb : ∀ c ∈ m.head?, a < c.1) :
    memRead m a = unlisted := by
  induction m with
  | nil => rfl
  | cons c t ih =>
    obtain ⟨x, y⟩ := c
    have hx : a < x := hb (x, y) rfl
    obtain ⟨-, ht, hw⟩ := (Memory.wf_cons x y t).1 h
    rw [memRead, if_neg (by omega), ih hw]
    intro c hc
    have := ht c hc
    omega

/-- The first address of the cells after a write. -/
theorem memWrite_head (m : List Host.Cell) (a : Nat) (b : Byte) (n : Nat) (hn : n < a)
    (hb : ∀ c ∈ m.head?, n < c.1) (h : Memory.wf m = true) : ∀ c ∈ (memWrite m a b).head?, n < c.1 := by
  cases m with
  | nil => unfold memWrite; split <;> simp [hn]
  | cons c t =>
    obtain ⟨x, y⟩ := c
    have hx : n < x := hb (x, y) rfl
    obtain ⟨-, ht, -⟩ := (Memory.wf_cons x y t).1 h
    unfold memWrite
    split
    · split <;> simp [hn, hx]
    · split
      · split
        · intro c hc; have := ht c hc; omega
        · simp [hn]
      · simp [hx]

/-- A write keeps the canonical form. -/
theorem memWrite_wf (m : List Host.Cell) (a : Nat) (b : Byte) (h : Memory.wf m = true) :
    Memory.wf (memWrite m a b) = true := by
  induction m with
  | nil => unfold memWrite; split <;> simp_all [Memory.wf]
  | cons c t ih =>
    obtain ⟨x, y⟩ := c
    obtain ⟨hy, ht, hw⟩ := (Memory.wf_cons x y t).1 h
    unfold memWrite
    split
    · split
      · exact h
      · rename_i hlt hb
        exact (Memory.wf_cons a b _).2 ⟨hb, by simpa using hlt, h⟩
    · split
      · split
        · exact hw
        · rename_i he hb
          subst he
          exact (Memory.wf_cons _ b t).2 ⟨hb, ht, hw⟩
      · refine (Memory.wf_cons x y _).2 ⟨hy, memWrite_head t a b x ?_ ht hw, ih hw⟩
        omega

/-- A read after a write: the byte written at its address, and every other address as before. -/
theorem memRead_memWrite (m : List Host.Cell) (a c : Nat) (b : Byte) (h : Memory.wf m = true) :
    memRead (memWrite m a b) c = if c = a then b else memRead m c := by
  induction m with
  | nil =>
    unfold memWrite
    split
    · simp_all [memRead]
    · simp only [memRead, eq_comm]
  | cons d t ih =>
    obtain ⟨x, y⟩ := d
    obtain ⟨hy, ht, hw⟩ := (Memory.wf_cons x y t).1 h
    have below : ∀ n, n ≤ x → memRead t n = unlisted := fun n hn =>
      memRead_below t n hw (fun c hc => by have := ht c hc; omega)
    unfold memWrite
    split
    · rename_i hlt
      split
      · rename_i hb
        by_cases hc : c = a
        · subst hc
          rw [if_pos rfl, memRead, if_neg (by omega), below c (by omega), hb]
        · rw [if_neg hc]
      · by_cases hc : c = a
        · subst hc; simp [memRead]
        · rw [memRead, if_neg (by omega), if_neg hc]
    · split
      · rename_i hne heq
        subst heq
        split
        · rename_i hb
          by_cases hc : c = a
          · subst hc; rw [if_pos rfl, below c (by omega), hb]
          · rw [if_neg hc, memRead, if_neg (by omega)]
        · by_cases hc : c = a
          · subst hc; simp [memRead]
          · rw [if_neg hc, memRead, if_neg (by omega), memRead, if_neg (by omega)]
      · rename_i hne1 hne2
        by_cases hx : x = c
        · subst hx; simp [memRead, Ne.symm hne2]
        · rw [memRead, if_neg hx, ih hw, memRead, if_neg hx]

/-! ### Words of a slot -/

/-- A write of a word keeps the canonical form. -/
theorem writeWord_wf (m : List Host.Cell) (i : Fin 8) (loc : Nat) (w : Word) (h : Memory.wf m = true) :
    Memory.wf (writeWord m i loc w) = true :=
  memWrite_wf _ _ _ (memWrite_wf _ _ _ h)

/-- A write of words keeps the canonical form. -/
theorem writeWords_wf (m : List Host.Cell) (i : Fin 8) (loc : Nat) (ws : List Word) (h : Memory.wf m = true) :
    Memory.wf (writeWords m i loc ws) = true := by
  induction ws generalizing m loc with
  | nil => exact h
  | cons w ws ih => exact ih _ _ (writeWord_wf m i loc w h)

/-- The bytes of a word, high byte first, spell the word. -/
theorem wordOf_bytes (w : Word) :
    wordOf (BitVec.ofNat 8 (w.toNat / 256)) (BitVec.ofNat 8 w.toNat) = w := by
  apply BitVec.eq_of_toNat_eq
  have := w.isLt
  simp only [wordOf, BitVec.toNat_ofNat]
  omega

/-- A write of a word changes its two bytes alone. -/
theorem memRead_writeWord (m : List Host.Cell) (i : Fin 8) (loc : Nat) (w : Word) (a : Nat)
    (h : Memory.wf m = true) (ha : a < wordAddr i loc ∨ wordAddr i (loc + 1) ≤ a) :
    memRead (writeWord m i loc w) a = memRead m a := by
  have : wordAddr i (loc + 1) = wordAddr i loc + 2 := by simp only [wordAddr]; omega
  rw [writeWord, memRead_memWrite _ _ _ _ (memWrite_wf _ _ _ h), if_neg (by omega), memRead_memWrite _ _ _ _ h,
    if_neg (by omega)]

/-- A word reads back as it was written. -/
theorem readWord_writeWord (m : List Host.Cell) (i : Fin 8) (loc : Nat) (w : Word) (h : Memory.wf m = true) :
    readWord (writeWord m i loc w) i loc = w := by
  have h1 := memWrite_wf m (wordAddr i loc) (BitVec.ofNat 8 (w.toNat / 256)) h
  rw [readWord, writeWord, memRead_memWrite _ _ _ _ h1, if_neg (by omega), memRead_memWrite _ _ _ _ h, if_pos rfl,
    memRead_memWrite _ _ _ _ h1, if_pos rfl, wordOf_bytes]

/-- A write of words changes their bytes alone. -/
theorem memRead_writeWords (m : List Host.Cell) (i : Fin 8) (loc : Nat) (ws : List Word) (a : Nat)
    (h : Memory.wf m = true) (ha : a < wordAddr i loc ∨ wordAddr i (loc + ws.length) ≤ a) :
    memRead (writeWords m i loc ws) a = memRead m a := by
  induction ws generalizing m loc with
  | nil => rfl
  | cons w ws ih =>
    simp only [List.length_cons, wordAddr] at ha
    rw [writeWords, ih _ _ (writeWord_wf m i loc w h) (by simp only [wordAddr]; omega),
      memRead_writeWord m i loc w a h (by simp only [wordAddr]; omega)]

/-- Words read back as they were written. -/
theorem readWord_writeWords (m : List Host.Cell) (i : Fin 8) (loc : Nat) (ws : List Word) (n : Nat)
    (h : Memory.wf m = true) (hn : n < ws.length) :
    readWord (writeWords m i loc ws) i (loc + n) = ws.getD n 0 := by
  induction ws generalizing m loc n with
  | nil => simp at hn
  | cons w ws ih =>
    have hw := writeWord_wf m i loc w h
    cases n with
    | zero =>
      rw [writeWords, Nat.add_zero, readWord, memRead_writeWords _ _ _ _ _ hw (by simp only [wordAddr]; omega),
        memRead_writeWords _ _ _ _ _ hw (by simp only [wordAddr]; omega)]
      exact readWord_writeWord m i loc w h
    | succ n =>
      have := ih (writeWord m i loc w) (loc + 1) n hw (by simpa using hn)
      rw [writeWords, show loc + (n + 1) = loc + 1 + n by omega, this]
      simp

/-- The DRAM after power-on reset has the canonical form. -/
theorem reset_mem_wf : Memory.wf State.reset.mem = true := rfl

end Sys2Proof.Machine
end

