-- ==== Sys2Proof/Laws/Ops.lean ====
section
/-! SUPPORT. What the shared operations can do: when both arbiters change nothing, a request taken and answered by a
link that is free, and what the answer leaves as it was. -/

namespace Sys2Proof.Machine

open Sys2Proof

/-! ### The arbiters at the end of an event -/

/-- What a requester asks for depends on the frame memory controller and the drain unit alone. -/
theorem requests_congr {s t : State} (hm : t.memory = s.memory) (hd : t.drain = s.drain) :
    t.requests = s.requests := by
  funext r
  cases r <;> simp only [State.requests, State.rx, hm, hd]

/-- No light request placed and no requester that begins to request: the arbiters change nothing. -/
theorem arbitrate_eq {s t : State} (hh : ∀ r ∈ t.light.held, r ∈ s.light.held)
    (hr : ∀ r, t.requests r = true → s.requests r = true) : s.arbitrate t = t := by
  have h1 : s.decideIfPlaced t = t := by
    unfold State.decideIfPlaced
    rw [if_neg]
    simpa using hh
  unfold State.arbitrate State.decideIfBegan
  rw [h1, if_neg]
  simp only [List.any_eq_true, Bool.and_eq_true, Bool.not_eq_true', not_exists, not_and]
  intro r _ hr' hs
  simp [hr r hr'] at hs

/-- The arbiters change nothing after an event that leaves the light unit, the frame memory controller and the drain
unit as they were. -/
theorem arbitrate_same {s t : State} (hl : t.light.held = s.light.held) (hm : t.memory = s.memory)
    (hd : t.drain = s.drain) : s.arbitrate t = t :=
  arbitrate_eq (by simp [hl]) (by simp [requests_congr hm hd])

/-! ### Requests -/

@[simp] theorem taken_frame (s : State) (l : LinkId) (kind : Byte) :
    (s.taken l kind).opening = s.opening ∧ (s.taken l kind).account = s.account ∧
      (s.taken l kind).capture = s.capture ∧ (s.taken l kind).light = s.light ∧
      (s.taken l kind).memory = s.memory ∧ (s.taken l kind).mem = s.mem ∧ (s.taken l kind).drain = s.drain ∧
      (s.taken l kind).pending = s.pending := by
  simp [State.taken]

@[simp] theorem taken_link (s : State) (l m : LinkId) (kind : Byte) :
    (s.taken l kind).link m =
      if m = l then { s.link l with request := none, answerDue := some kind } else s.link m := by
  simp [State.taken]

@[simp] theorem answered_frame (s : State) (l : LinkId) (kind : Byte) (st : Status) (b : List Byte) :
    (s.answered l kind st b).opening = s.opening ∧ (s.answered l kind st b).account = s.account ∧
      (s.answered l kind st b).capture = s.capture ∧ (s.answered l kind st b).light = s.light ∧
      (s.answered l kind st b).memory = s.memory ∧ (s.answered l kind st b).mem = s.mem ∧
      (s.answered l kind st b).drain = s.drain ∧ (s.answered l kind st b).pending = s.pending := by
  simp [State.answered]

@[simp] theorem answered_link (s : State) (l m : LinkId) (kind : Byte) (st : Status) (b : List Byte) :
    (s.answered l kind st b).link m =
      if m = l then
        { s.link l with answerDue := none, response := some { echo := kind, status := st, body := b } }
      else s.link m := by
  simp [State.answered]

/-- A request that changes nothing is answered on the link alone. -/
theorem answered_taken {s : State} {l : LinkId} (h : s.portFree l) (kind : Byte) (st : Status) (b : List Byte) :
    (s.taken l kind).answered l kind st b = s.answered l kind st b := by
  obtain ⟨h1, -, -, -⟩ := h
  simp only [State.answered, State.taken, setLink_link, if_true, setLink_setLink, h1]

/-- A response placed on a link with no answer marked to be dropped. -/
theorem placeResponse_eq {s : State} {l : LinkId} (h : (s.link l).dropAnswer = false) (kind : Byte) (st : Status)
    (b : List Byte) :
    s.placeResponse l { echo := kind, status := st, body := b } = s.answered l kind st b := by
  simp [State.placeResponse, State.answered, h]

/-- The body of a dispatcher's refusal depends on the opening record and the account unit alone. -/
theorem dispatchBody_congr {s t : State} (ho : t.opening = s.opening) (ha : t.account = s.account) (kind : Byte) :
    t.dispatchBody kind = s.dispatchBody kind := by
  have hl : t.leaves = s.leaves := by simp only [State.leaves, State.volume, ho, ha]
  have hp : ∀ h, t.presentLeaf h = s.presentLeaf h := by
    intro h; simp only [State.presentLeaf, ho, hl]
  have hq : ∀ h, t.presentState h = s.presentState h := by
    intro h; simp only [State.presentState, State.side, hp, ha]
  simp only [State.dispatchBody, State.armView, State.openingStatus, State.halfStatus, ho, hl, hp, hq]

/-- A link free to take a request: the owning block acts on the state with the request taken, the response is placed,
and the arbiters decide. -/
theorem ask_eq {s : State} {c : Instr} {l : LinkId} {f : Frame} {act : State → Reply} {r : Role}
    (hf : frameOf c = some (l, f)) (hr : roleOf f.kind = some r) (ha : roleAllows r l = true)
    (hp : (parseBody l f.kind.toNat f.body).isSome = true) (hlen : f.body.length ≤ Config.maxRequestBody)
    (h : s.portFree l) :
    s.ask c act = s.arbitrate ((act (s.taken l f.kind)).state.placeResponse l
      { echo := f.kind, status := (act (s.taken l f.kind)).status, body := (act (s.taken l f.kind)).body }) := by
  obtain ⟨h1, h2, h3, h4⟩ := h
  have hd : (s.taken l f.kind).dispatch l f act = act (s.taken l f.kind) := by
    simp [State.dispatch, hr, ha, Option.isSome_iff_ne_none.1 hp]
  unfold State.ask
  simp only [hf]
  unfold State.request
  simp only [h1, h2, h3]
  rw [if_neg (by omega)]
  simp only [Option.isSome_none, Bool.false_and, Bool.false_eq_true, if_false, Option.isNone_none, Bool.and_self,
    if_true, State.takeRequest]
  change s.arbitrate ((((s.taken l f.kind).dispatch l f act).state.placeResponse l
    { echo := f.kind, status := ((s.taken l f.kind).dispatch l f act).status,
      body := ((s.taken l f.kind).dispatch l f act).body })) = _
  rw [hd]

/-- A request answered by a block that leaves the link's drop mark clear. -/
theorem ask_reply {s : State} {c : Instr} {l : LinkId} {f : Frame} {act : State → Reply} {r : Role} {u : State}
    {st : Status} {b : List Byte}
    (hf : frameOf c = some (l, f)) (hr : roleOf f.kind = some r) (ha : roleAllows r l = true)
    (hp : (parseBody l f.kind.toNat f.body).isSome = true) (hlen : f.body.length ≤ Config.maxRequestBody)
    (h : s.portFree l) (hact : act (s.taken l f.kind) = ⟨u, st, b⟩) (hdrop : (u.link l).dropAnswer = false) :
    s.ask c act = s.arbitrate (u.answered l f.kind st b) := by
  rw [ask_eq hf hr ha hp hlen h, hact]
  simp only []
  rw [placeResponse_eq hdrop]

/-- A request that leaves the light unit's requests, the frame memory controller and the drain unit as they were. -/
theorem ask_quiet {s : State} {c : Instr} {l : LinkId} {f : Frame} {act : State → Reply} {r : Role} {u : State}
    {st : Status} {b : List Byte}
    (hf : frameOf c = some (l, f)) (hr : roleOf f.kind = some r) (ha : roleAllows r l = true)
    (hp : (parseBody l f.kind.toNat f.body).isSome = true) (hlen : f.body.length ≤ Config.maxRequestBody)
    (h : s.portFree l) (hact : act (s.taken l f.kind) = ⟨u, st, b⟩) (hdrop : (u.link l).dropAnswer = false)
    (hl : u.light.held = s.light.held) (hm : u.memory = s.memory) (hd : u.drain = s.drain) :
    s.ask c act = u.answered l f.kind st b := by
  rw [ask_reply hf hr ha hp hlen h hact hdrop, arbitrate_same] <;> simp [hl, hm, hd]

/-- A request that changes nothing: the answer is all that happens. -/
theorem ask_pure {s : State} {c : Instr} {l : LinkId} {f : Frame} {act : State → Reply} {r : Role} {st : Status}
    {b : List Byte}
    (hf : frameOf c = some (l, f)) (hr : roleOf f.kind = some r) (ha : roleAllows r l = true)
    (hp : (parseBody l f.kind.toNat f.body).isSome = true) (hlen : f.body.length ≤ Config.maxRequestBody)
    (h : s.portFree l) (hact : act (s.taken l f.kind) = ⟨s.taken l f.kind, st, b⟩) :
    s.ask c act = s.answered l f.kind st b := by
  obtain ⟨h1, h2, h3, h4⟩ := id h
  rw [ask_quiet hf hr ha hp hlen h hact (by simp [h4]) (by simp) (by simp) (by simp), answered_taken h]

/-- A request of another link's role: refused with ROLE, and nothing else changes. -/
theorem ask_role {s : State} {c : Instr} {l : LinkId} {f : Frame} {act : State → Reply} {r : Role}
    (hf : frameOf c = some (l, f)) (hr : roleOf f.kind = some r) (ha : roleAllows r l = false)
    (hlen : f.body.length ≤ Config.maxRequestBody) (h : s.portFree l) :
    s.ask c act = s.answered l f.kind .role (s.dispatchBody f.kind) := by
  obtain ⟨h1, h2, h3, h4⟩ := id h
  have hd : (s.taken l f.kind).dispatch l f act =
      ⟨s.taken l f.kind, .role, (s.taken l f.kind).dispatchBody f.kind⟩ := by
    simp [State.dispatch, State.turnAway, hr, ha]
  have hb : (s.taken l f.kind).dispatchBody f.kind = s.dispatchBody f.kind := dispatchBody_congr (by simp) (by simp) _
  unfold State.ask State.request
  simp only [hf, h1, h2, h3]
  rw [if_neg (by omega)]
  simp only [Option.isSome_none, Bool.false_and, Bool.false_eq_true, if_false, Option.isNone_none, Bool.and_self,
    if_true, State.takeRequest]
  change s.arbitrate ((((s.taken l f.kind).dispatch l f act).state.placeResponse l
    { echo := f.kind, status := ((s.taken l f.kind).dispatch l f act).status,
      body := ((s.taken l f.kind).dispatch l f act).body })) = _
  rw [hd]
  simp only []
  rw [placeResponse_eq (by simp [h4]), arbitrate_same (by simp) (by simp) (by simp), answered_taken h, hb]

/-! ### What depends on which part -/

theorem mounted_congr {s t : State} (h : t.account.volumes = s.account.volumes) : t.mounted = s.mounted := by
  simp only [State.mounted, State.volume, h]
  rfl

theorem moving_congr {s t : State} (h : t.account.volumes = s.account.volumes) : t.moving = s.moving := by
  simp only [State.moving, State.volume, h]
  rfl

theorem side_congr {s t : State} (h : t.account.leaves = s.account.leaves) : t.side = s.side := by
  funext f j
  simp only [State.side, h]

theorem presentLeaf_congr {s t : State} (ho : t.opening = s.opening) (ha : t.account.volumes = s.account.volumes) :
    t.presentLeaf = s.presentLeaf := by
  funext h
  simp only [State.presentLeaf, State.leaves, State.volume, ho, ha]
  rfl

theorem lowestFree_congr {s t : State} (h : t.memory.slots = s.memory.slots) : t.lowestFree = s.lowestFree := by
  simp only [State.lowestFree, State.slot, h]
  rfl

/-! ### Notices -/

@[simp] theorem notify_link (s : State) (l m : LinkId) (n : Notice) :
    (s.notify l n).link m = if m = l then (s.link l).push (noticeDepth l) n else s.link m := by
  simp [State.notify]

/-- A notice changes the notices, the lost count and the NOTICE_LOST flag alone. -/
@[simp] theorem push_frame (k : Link) (d : Nat) (n : Notice) :
    (k.push d n).exchange = k.exchange ∧ (k.push d n).request = k.request ∧
      (k.push d n).answerDue = k.answerDue ∧ (k.push d n).dropAnswer = k.dropAnswer ∧
      (k.push d n).response = k.response ∧ (k.push d n).overrun = k.overrun ∧ (k.push d n).cut = k.cut ∧
      (k.push d n).malformed = k.malformed ∧ (k.push d n).shortRead = k.shortRead := by
  unfold Link.push
  split <;> simp

/-- A queue within its depth stays within it. -/
theorem push_length (k : Link) (d : Nat) (n : Notice) (h : k.notices.length ≤ d) :
    (k.push d n).notices.length ≤ d := by
  unfold Link.push
  split
  · simp only [List.length_append, List.length_cons, List.length_nil]; omega
  · exact h

/-! ### Banks searched lowest first -/

theorem mem_allSlots (i : Fin 8) : i ∈ allSlots := by
  revert i; decide

theorem mem_allVolumes (i : Fin 16) : i ∈ allVolumes := by
  revert i; decide

theorem mem_allLamps (i : Fin 8) : i ∈ allLamps := by
  revert i; decide

/-- A code below the size of a bank names its entry. -/
theorem finOf_eq {n v : Nat} {i : Fin n} (h : v = i.val) : finOf n v = some i := by
  subst h
  simp [finOf]

/-- A code at or above the size of a bank names none. -/
theorem finOf_none {n v : Nat} (h : n ≤ v) : finOf n v = none := by
  simp [finOf, Nat.not_lt.2 h]

/-- The first entry of a rising list that satisfies a test. -/
theorem find_rising {n : Nat} {p : Fin n → Bool} {i : Fin n} (t : List (Fin n)) (hs : t.Pairwise (· < ·))
    (hm : i ∈ t) (hi : p i = true) (hl : ∀ j, j < i → p j = false) : t.find? p = some i := by
  induction t with
  | nil => simp at hm
  | cons a t ih =>
    rw [List.pairwise_cons] at hs
    by_cases ha : a = i
    · subst ha; simp [hi]
    · have hit : i ∈ t := by simpa [Ne.symm ha] using hm
      rw [List.find?_cons_of_neg (by simp [hl a (hs.1 i hit)]), ih hs.2 hit]

/-- The lowest slot that satisfies a test. -/
theorem find_allSlots {p : Fin 8 → Bool} {i : Fin 8} (hi : p i = true) (hl : ∀ j, j < i → p j = false) :
    allSlots.find? p = some i :=
  find_rising allSlots (by decide) (mem_allSlots i) hi hl

/-- The lowest volume entry that satisfies a test. -/
theorem find_allVolumes {p : Fin 16 → Bool} {i : Fin 16} (hi : p i = true) (hl : ∀ j, j < i → p j = false) :
    allVolumes.find? p = some i :=
  find_rising allVolumes (by decide) (mem_allVolumes i) hi hl

/-- No volume entry satisfies a test. -/
theorem find_allVolumes_none {p : Fin 16 → Bool} : allVolumes.find? p = none ↔ ∀ i, p i = false := by
  simp [List.find?_eq_none, mem_allVolumes]

/-- No slot satisfies a test. -/
theorem find_allSlots_none {p : Fin 8 → Bool} : allSlots.find? p = none ↔ ∀ i, p i = false := by
  simp [List.find?_eq_none, mem_allSlots]

end Sys2Proof.Machine
end

