-- ==== Sys2Proof/Tests/Slice0.lean ====
section
/-! SUPPORT. Tests: the checks of WellFormed, request frames, one or two steps of each command with the values the
spec gives, and for each statement of the obligations a witness of the hypotheses of its clauses. -/

namespace Sys2Proof.Tests

open Sys2Proof Sys2Proof.Machine

-- one theorem at a time, within the memory limit of the check
set_option Elab.async false

/-! ### Small states -/

/-- The next state of a command. -/
def run (c : Instr) (s : State) : Option State :=
  match exec c s with
  | .next t => some t
  | _ => none

/-- A view of the next state of a command. -/
def got {α : Type} (c : Instr) (s : State) (f : State → α) : Option α := (run c s).map f

/-- Status and body of the response that waits on a link. -/
def reply (l : LinkId) (t : State) : Option (Status × List Byte) :=
  (t.link l).response.map fun r => (r.status, r.body)

/-- Status of the response that waits on a link. -/
def status (l : LinkId) (t : State) : Option Status := (t.link l).response.map (·.status)

/-- A volume of `n` leaves with the caps of the worked session. -/
def book (st : VolumeState) (n : Nat) : Volume :=
  { Volume.empty with
    state := st, mark := [0x41], n := n, leafCap := 100000, volumeCap := 10000000, settle := 400, turn := 8,
    life := 5000, counts := ⟨2 * n, 0, 0, 0, 0, 0, 0⟩ }

/-- Volume 0 of `n` leaves MOUNTED at opening `k`, every side WANTED. -/
def atK (n k : Nat) (st : OpeningState) : State :=
  ((State.reset.setVolume 0 (book .mounted n)).setLeaves (List.replicate n .fresh)).setOpening
    { Opening.reset with
      volume := some 0, k := k, state := st, settle := if st = .settling then some 400 else none,
      turn := if st = .turning then some 8000 else none,
      direction := if st = .turnable ∨ st = .turning then some .forward else none,
      cause := if st = .fault then some .armFault else none,
      parkReturn := if st = .parked then .volume else .nothing }

/-- A side brought to a state. -/
def sideTo (f : Face) (j : Nat) (x : SideState) (s : State) : State := s.changeSide f j fun r => { r with state := x }

/-- A claim of a half on its side of leaf `j`. -/
def claimed (h : Half) (j : Nat) (s : State) : State :=
  (s.changeSide (faceOf h) j fun r => { r with state := .claimed, owner := some h, prior := some .wanted }).setClaim h
    (some { leaf := j, prior := .wanted, life := 5000 })

/-- The program of the worked session: one step of lamps L0 and L1 at level 200 for 8,000 us. -/
def program0 : Program := { mode := .unpaired, stop := .never, steps := [⟨0x03, 200, 8000⟩] }

/-- The same as a pair program of two steps. -/
def program2 : Program := { mode := .paired, stop := .onDim, steps := [⟨0x03, 200, 8000⟩, ⟨0x03, 100, 50⟩] }

/-- Lamps L0 and L1 of the worked cases of chapter 5, CHARGED. -/
def lit (s : State) : State :=
  let e (g p : Nat) : LampEntry :=
    { present := true, side := .left, band := 0, eFull := 12000, gDirect := g, gSpill := p, lMin := 40,
      maxDuration := 20000, recharge := 100 }
  ((s.setLamp 0 { entry := e 900 60, state := .charged, recharge := none }).setLamp 1
    { entry := e 880 70, state := .charged, recharge := none }).setProgram 0 program0

/-- A context on a half, capture 7 of leaf `j`, its side CAPTURING. -/
def context (j : Nat) (st : CtxState) : Ctx :=
  { id := 7, leaf := j, prior := .wanted, program := 0, copy := program0, step := 1, state := st, slot := some 0,
    results := [], linked := false, order := none, cause := none, heldCap := none, partnerTimer := none,
    slotTimer := none, frameTimer := none, report := none }

/-- A capture in flight on a half. -/
def flying (h : Half) (c : Ctx) (s : State) : State :=
  (s.changeSide (faceOf h) c.leaf fun r =>
    { r with state := .capturing, owner := some h, prior := some .wanted }).setCtx h (some c)

/-- A slot OPEN for capture 7 of the left half on leaf `j`. -/
def openSlot (j : Nat) : Slot :=
  { Slot.free with state := .open', volume := some 0, captureId := some 7, side := some (.left, j), step := some 1 }

/-- A slot SEALED GOOD with `n` words, committed. -/
def sealedSlot (n : Nat) : Slot :=
  { openSlot 1 with
    state := .sealed, words := n, size := some (n, 1), sealStatus := some .good, committed := true }

/-- A request in a link's buffer and its response placed leave the link like this: free again. -/
def freed (l : LinkId) (s : State) : State := s.setLink l { s.link l with response := none }

/-- A flash of lamps L0 and L1 at level 152 for the left half's capture 7, as in Case B of chapter 5. -/
def flashB (a b : Confirm) (window : Option Nat) : Flash :=
  { served := .left, leftId := some 7, rightId := none, step := 1, mask := 0x03, levelRequested := 200,
    levelUsed := 152, duration := 8000, dimmed := true, clamped := false, leftLeaf := some 1, rightLeaf := some 2,
    lamps := [⟨0, .left, 6287, 420, a⟩, ⟨1, .left, 6148, 489, b⟩], timer := 8000, window := window }

/-- The flash of Case B in progress at opening 1 of three leaves. -/
def inFlash (a b : Confirm) (window : Option Nat) : State :=
  let s := (flying .left (context 1 .firing) (lit (atK 3 1 .exposing))).setSlot 0 (openSlot 1)
  let fire (x : Lamp) : Lamp := if x.state = .charged then { x with state := .firing } else x
  let s := s.mapLamps fire
  { s with light := { s.light with flash := some (flashB a b window) } }

/-- A frame of two words under way on the left link, in a receiver state. -/
def receiving (st : RxState) (s : State) : State :=
  ((flying .left (context 1 .receiving) s).setSlot 0 { openSlot 1 with size := some (2, 1) }).setRx .left
    { Receiver.reset with state := st, crc := some 0xFFFFFFFF, due := 2, limit := some 8000, slot := some 0 }

/-- An active drain of the two words of slot 0, both in the buffer. -/
def draining (left : Nat) (s : State) : State :=
  let s := s.setSlot 0 { sealedSlot 2 with state := .draining }
  { s with
    drain := { s.drain with
      active := some
        { job := { slot := 0, first := 0, count := 2, auto := false }, sent := 2 - left, left := left, next := 2,
          unread := 0, stall := none, ordered := none },
      buffer := List.replicate left 0x1234 } }

/-- A transfer of the engine on slot 1 for volume 0. -/
def moving (e : EngineState) (v : VolumeState) (length left : Nat) (s : State) : State :=
  let s := (s.setVolume 0 { book v 1 with saveSlot := some 1, lastOpening := some 1 }).setSlot 1
    { Slot.free with state := .save, volume := some 0, image := some length }
  (s.setEngine { state := e, slot := some 1, length := length, left := left, abandoned := false }).setBurst
    (some (.engine (min 64 left) false))

/-! ### WellFormed -/

/-- A shelf-mark longer than the 40 bytes R195 leaves room for. -/
theorem test_wf_registerMark :
    (Instr.register .S (List.replicate 41 0x41) 1 0 0 0 0 0).wellFormed = false ∧
      (Instr.register .S (List.replicate 40 0x41) 1 0 0 0 0 0).wellFormed = true := by decide +kernel

/-- READ_VOLUME with selector 1 is the row READ_VOLUME_SHELF_MARK. -/
theorem test_wf_readVolume :
    (Instr.readVolume .S 0 (some 1)).wellFormed = false ∧ (Instr.readVolume .S 0 (some 0)).wellFormed = true := by
  decide +kernel

/-- A PROGRAM_SET write with one step and a step count of 2. -/
theorem test_wf_programSet :
    (Instr.programSetWrite .S 0 0 0 2 [⟨1, 1, 1⟩]).wellFormed = false ∧
      (Instr.programSetWrite .S 0 0 0 1 [⟨1, 1, 1⟩]).wellFormed = true := by decide +kernel

/-- REQUEST_KIND_UNKNOWN: a body too long for a link, a frame of another row, the read marker. -/
theorem test_wf_requestKindUnknown :
    (Instr.requestKindUnknown .S 0x03 (List.replicate 59 0)).wellFormed = false ∧
      (Instr.requestKindUnknown .S 0x33 []).wellFormed = false ∧
      (Instr.requestKindUnknown .S 0xFF []).wellFormed = false ∧
      (Instr.requestKindUnknown .S 0x03 (List.replicate 58 0)).wellFormed = true := by decide +kernel

/-! ### Frames (R195) -/

/-- Frames written out from the layouts of R195, and the commands they spell; the table gives no row bits. -/
theorem test_frames :
    requestOf .S ⟨0x11, [0x05, 0xFF, 0xFF]⟩ = .mount .S 5 0xFFFF ∧
      requestOf .S ⟨0x10, [1, 0x41, 0, 20, 0, 1, 0x86, 0xA0, 0, 0, 0, 0x98, 0x96, 0x80, 0xFF, 0xFF, 0xFF, 0xFF, 0xFF]⟩ =
        .register .S [0x41] 20 100000 10000000 0xFFFF 0xFF 0xFFFF ∧
      requestOf .S ⟨0x41, [0, 0, 0, 1, 0x03, 200, 0x00, 0x1F, 0x40]⟩ = .programSetWrite .S 0 0 0 1 [⟨3, 200, 8000⟩] ∧
      requestOf .S ⟨0x50, [2, 0, 0, 0, 5, 0, 1, 0, 0, 1]⟩ = .drainOpen .S 2 5 65536 1 ∧
      requestOf .V ⟨0x63, [0x02, 0x00]⟩ = .cancel .V 512 ∧
      requestOf .A ⟨0x72, [2]⟩ = .turnEnd .A 2 ∧
      requestOf .S ⟨0x17, [3, 1]⟩ = .readVolumeShelfMark .S 3 ∧
      requestOf .S ⟨0x40, []⟩ = .lampSetStatus .S ∧
      requestOf .S ⟨0x33, [0]⟩ = .requestKindUnknown .S 0x33 [0] ∧ decodeTableWord 8 0 = none := by decide +kernel

/-! ### Resets and links (chapter 10) -/

/-- R25, R17: from FAULT to IDLE, the fault line released, no notice. -/
theorem test_powerOnReset :
    got .powerOnReset (atK 2 1 .fault) (fun t => (t.opening.state, t.opening.volume, t.faultLine, (t.link .S).notices)) =
      some (.idle, none, false, []) := by decide +kernel

/-- R190, R196: link role VERSO 1, one notice queued, none lost, fault line asserted. -/
theorem test_poll :
    got (.poll .V) ((atK 2 1 .fault).notify .V (.claimExpired 1 .verso .wanted)) (reply .V) =
      some (some (.ok, [1, 1, 0, 1])) := by decide +kernel

/-- R190, R196: the identification, on the arm's link (role 3). -/
theorem test_ident :
    got (.ident .A) .reset (reply .A) = some (some (.ok, [0x0D, 0x7A, 0x73, 0x20, 1, 8, 8, 0x10, 0x00, 16, 3])) := by
  decide +kernel

/-- Link R with a notice queued, three lost and CUT set. -/
def worn : State :=
  State.reset.setLink .R { Link.reset with notices := [.claimExpired 1 .recto .wanted], cut := true, lost := 3 }

/-- R191: queue, count and flags are cleared, and the response is placed. -/
theorem test_portReset :
    got (.portReset .R) worn (fun t => ((t.link .R).notices, (t.link .R).lost, (t.link .R).cut)) = some ([], 0, false) ∧
      got (.portReset .R) worn (reply .R) = some (some (.ok, [2, 0, 0, 0])) := by decide +kernel

/-- R186: kind 0x03 is no request kind, and a PARK of one body byte has a wrong length. -/
theorem test_requestKindUnknown :
    got (.requestKindUnknown .V 0x03 []) .reset (status .V) = some (some .malformed) ∧
      got (.requestKindUnknown .S 0x33 [0]) .reset (status .S) = some (some .malformed) := by decide +kernel

/-- R186: a station request on link V is refused with ROLE, with the opening status of 17 bytes (R3); an arm request on
link V, or of a wrong length on link A, with the arm view of 13 bytes (R26); any other refusal is empty. -/
theorem test_role :
    got (.park .V) .reset (reply .V) =
      some (some (.role, [0, 0xFF, 0, 0, 0, 0, 0xFF, 0xFF, 0, 0, 0, 0, 0, 0xFF, 0, 0, 0xFF])) ∧
      got (.turnAsk .V) .reset (reply .V) = some (some (.role, [0, 0xFF, 0, 0, 0, 0, 0, 0, 0, 0, 0, 0, 0])) ∧
      got (.requestKindUnknown .A 0x72 []) .reset (reply .A) =
        some (some (.malformed, [0, 0xFF, 0, 0, 0, 0, 0, 0, 0, 0, 0, 0, 0])) ∧
      got (.suspend .V) .reset (reply .V) = some (some (.role, [])) := by decide +kernel

/-- R183: with no response and no request the oldest notice goes out; a response goes first. -/
theorem test_selectFalling :
    got (.selectFalling .A) (State.reset.notify .A (.turnReady .forward 1 none))
        (fun t => (t.link .A).exchange.map (·.out)) = some (some (.notice (.turnReady .forward 1 none))) ∧
      got (.selectFalling .A) (State.reset.answered .A 0x70 .wait []) (fun t => (t.link .A).exchange.map (·.out)) =
        some (some (.response ⟨0x70, .wait, []⟩)) := by decide +kernel

/-- R183, R187: the fourth byte of an empty response consumes it; the third reports CUT. -/
theorem test_byteClocked :
    got (.byteClocked .A 0)
        (State.reset.setLink .A { Link.reset with
          response := some ⟨0x70, .wait, []⟩, exchange := some ⟨[0xFF, 0, 0], .response ⟨0x70, .wait, []⟩, true, some 2⟩ })
        (fun t => (t.link .A).response) = some none ∧
      got (.byteClocked .A 0)
        (State.reset.setLink .A { Link.reset with cut := true, exchange := some ⟨[0xFF, 0], .empty, true, some 2⟩ })
        (fun t => (t.link .A).cut) = some false := by decide +kernel

/-- R184, R185: a whole frame enters the request buffer; one byte alone is CUT. -/
theorem test_selectRising :
    got (.selectRising .A) (State.reset.setLink .A { Link.reset with exchange := some ⟨[0x72, 1, 2], .empty, true, none⟩ })
        (fun t => ((t.link .A).request, (t.link .A).exchange)) = some (some ⟨0x72, [2]⟩, none) ∧
      got (.selectRising .A) (State.reset.setLink .A { Link.reset with exchange := some ⟨[0x72], .empty, true, none⟩ })
        (fun t => (t.link .A).cut) = some true := by decide +kernel

/-! ### The opening (chapters 1 and 2) -/

/-- R13: a target other than k in READY makes the opening TURNABLE backward. -/
theorem test_seek :
    got (.seek .S 0) (atK 2 1 .ready) (fun t => (t.opening.seek, t.opening.state, t.opening.direction)) =
      some (some 0, .turnable, some .backward) ∧
      got (.seek .S 3) (atK 2 1 .ready) (status .S) = some (some .range) := by decide +kernel

/-- R20: from FAULT to SETTLING at the opening given, the settle timer at the settle time. -/
theorem test_resync :
    got (.resync .S 2) (atK 2 1 .fault) (fun t => (t.opening.k, t.opening.state, t.opening.settle, t.faultLine)) =
      some (2, .settling, some 400, false) := by decide +kernel

/-- R21, R50: a claim is released without a notice. -/
theorem test_abortOpening :
    got (.abortOpening .S) (claimed .left 1 (atK 2 1 .ready))
        (fun t => (t.claimOf .left, (t.link .V).notices, (t.side .verso 1).map (·.state))) =
      some (none, [], some .wanted) := by decide +kernel

/-- R22, R77, R128: a charged lamp is discharged and the memory enters retention. -/
theorem test_park :
    got (.park .S) (lit (atK 2 1 .settling))
        (fun t => (t.opening.state, t.opening.parkReturn, (t.lamp 0).state, t.memory.mode, t.memory.refreshTimer)) =
      some (.parked, .volume, .discharged, .retention, none) ∧
      got (.park .S) (atK 2 1 .turning) (status .S) = some (some .busy) := by decide +kernel

/-- R23: a WAKE with park return VOLUME enters SETTLING. -/
theorem test_wake :
    got (.wake .S) (atK 2 1 .parked) (fun t => (t.opening.state, t.opening.settle, t.memory.mode)) =
      some (.settling, some 400, .active) ∧ got (.wake .S) .reset (status .S) = some (some .state) := by decide +kernel

/-- R24, R189: a MOUNTED volume in IDLE goes to FAULT, and the notice heads the emptied queues. -/
theorem test_cradleReset :
    got (.cradleReset .S) ((atK 2 1 .idle).notify .A (.turnReady .forward 1 none))
        (fun t => (t.opening.state, t.opening.cause, (t.link .A).notices)) =
      some (.fault, some .reset, [.fault .reset 0 (some 0) 1 none]) := by decide +kernel

/-- R12, R7: with a WANTED side present the opening settles to READY. -/
theorem test_settleExpiry :
    got .settleExpiry (atK 2 1 .settling) (fun t => (t.opening.state, t.opening.settle)) = some (.ready, none) := by
  decide +kernel

/-- R28, R29: a grant starts the turn timer at the turn timeout; a settling opening answers WAIT. -/
theorem test_turnAsk :
    got (.turnAsk .A) (atK 2 1 .turnable) (fun t => (status .A t, t.opening.state, t.opening.turn)) =
      some (some .grant, .turning, some 8000) ∧
      got (.turnAsk .A) (atK 2 1 .settling) (status .A) = some (some .wait) := by decide +kernel

/-- R33: outside TURNING the opening enters FAULT. -/
theorem test_turnBegin :
    got (.turnBegin .A) (atK 2 1 .ready) (fun t => (status .A t, t.opening.state, t.opening.cause)) =
      some (some .fault, .fault, some .ungrantedMotion) ∧
      got (.turnBegin .A) (atK 2 1 .turning) (fun t => (status .A t, t.opening.state)) = some (some .ok, .turning) := by
  decide +kernel

/-- Row 12 of the worked session: from opening 1, a count of 2 moves to 3 with two DOUBLE_TURN records of opening 2,
the verso of leaf 2 first. -/
theorem test_turnEnd_double :
    got (.turnEnd .A 2) (atK 20 1 .turning) (fun t => (t.opening.k, t.opening.state)) = some (3, .settling) ∧
      got (.turnEnd .A 2) (atK 20 1 .turning) (fun t => t.account.exceptions) =
        some [⟨.doubleTurn, some (.verso, 2), 2, none, none, 2⟩, ⟨.doubleTurn, some (.recto, 3), 2, none, none, 2⟩] := by
  decide +kernel

/-- R38: a count of 3 loses the position. -/
theorem test_turnEnd_lost :
    got (.turnEnd .A 3) (atK 2 1 .turning) (fun t => (t.opening.state, t.opening.cause, t.opening.k)) =
      some (.fault, some .lostPosition, 1) := by decide +kernel

/-- R41: the code is kept in IDLE without a fault. -/
theorem test_armFault :
    got (.armFault .A 9) .reset (fun t => (t.opening.armCode, t.opening.state)) = some (9, .idle) ∧
      got (.armFault .A 9) (atK 2 1 .ready) (fun t => (t.opening.cause, (t.link .V).notices)) =
        some (some .armFault, [.fault .armFault 9 (some 0) 1 none]) := by decide +kernel

/-- R27: the turn timer's expiry in TURNING. -/
theorem test_turnTimerExpiry :
    got .turnTimerExpiry (atK 2 1 .turning) (fun t => (t.opening.cause, t.opening.turn)) =
      some (some .turnTimeout, none) := by decide +kernel

/-! ### Capture (chapter 3) -/

/-- R46, R47: a claim TAKEN (code 1), WAS_UNDONE, leaf 1, verso, the lifetime 5,000 ms, no capture. -/
theorem test_claim :
    got (.claim .V) (atK 2 1 .ready) (reply .V) =
      some (some (.ok, [1, 1, 0, 1, 0, 0, 0x13, 0x88, 0, 0])) ∧
      got (.claim .V) (atK 2 0 .ready) (reply .V) = some (some (.ok, [0, 0x10, 0, 0, 0xFF, 0xFF, 0, 0, 0, 0])) := by
  decide +kernel

/-- R49: the side returns to its prior state. -/
theorem test_unclaim :
    got (.unclaim .R) (claimed .right 2 (atK 2 1 .ready)) (fun t => (t.claimOf .right, reply .R t)) =
      some (none, some (.ok, [0, 2, 1, 0])) := by decide +kernel

/-- R48: an expired claim queues its notice. -/
theorem test_claimLifetimeExpiry :
    got (.claimLifetimeExpiry .right) (claimed .right 2 (atK 2 1 .ready)) (fun t => (t.claimOf .right, (t.link .R).notices)) =
      some (none, [.claimExpired 2 .recto .wanted]) := by decide +kernel

/-- Row 2 of the worked session: ACCEPTED, id 1, leaf 1, verso, one step, WAIT_SETTLE. -/
theorem test_capture_settling :
    got (.capture .V 0) (lit (atK 20 1 .settling)) (fun t => (reply .V t, t.opening.state)) =
      some (some (.accepted, [0, 1, 0, 1, 0, 1, 1]), .settling) := by decide +kernel

/-- A capture accepted in READY binds S0 and, with its lamps CHARGED, flashes at once: dimmed to 152 (Case B). -/
theorem test_capture_ready :
    got (.capture .V 0) (lit (atK 3 1 .ready))
        (fun t => ((t.slot 0).state, t.opening.state, t.light.flash.map (fun f => (f.levelUsed, f.dimmed)))) =
      some (.open', .exposing, some (152, true)) := by decide +kernel

/-- R68: a waiting capture ends CANCELLED, and its side returns to its prior state. -/
theorem test_cancel :
    got (.cancel .V 7) ((flying .left (context 1 .waitLight) (lit (atK 2 1 .exposing))).setSlot 0 (openSlot 1))
        (fun t => (t.ctx .left, (t.side .verso 1).map (·.state), (t.slot 0).state, t.opening.state)) =
      some (none, some .wanted, .free, .ready) ∧
      got (.cancel .V 5) .reset (status .V) = some (some .tooLate) := by decide +kernel

/-- Row 8 of the worked session: the commit of the one step of a NONE program ends the capture COMPLETE. -/
theorem test_commit :
    got (.commit .left)
        ((flying .left { context 1 .receiving with
            report := some (0, .good), results := [⟨1, some 0, none, 152, true, false, 99480, 7272⟩] }
          (atK 2 1 .exposing)).setSlot 0 { sealedSlot 2 with committed := false })
        (fun t => (t.ctx .left, (t.side .verso 1).map (·.state), (t.slot 0).committed, t.opening.state,
          (t.link .V).notices.length)) = some (none, some .captured, true, .ready, 1) := by decide +kernel

/-- R59: the frame start limit ends the capture FAILED with a FRAME_MISSING record. -/
theorem test_frameStartLimit :
    got (.frameStartLimitExpiry .left)
        ((flying .left { context 1 .awaitFrame with frameTimer := some 0 } (atK 2 1 .exposing)).setSlot 0 (openSlot 1))
        (fun t => (t.ctx .left, t.account.exceptions.map (·.kind))) = some (none, [.frameMissing]) := by decide +kernel

/-- R65: the partner wait limit ends the capture with a PARTNER_LATE record. -/
theorem test_partnerWaitLimit :
    got (.partnerWaitLimitExpiry .left)
        (flying .left { context 1 .waitPartner with partnerTimer := some 0, slot := none } (atK 2 1 .exposing))
        (fun t => (t.ctx .left, t.account.exceptions.map (·.kind))) = some (none, [.partnerLate]) := by decide +kernel

/-- R56: the slot wait limit ends the capture with a NO_SLOT record. -/
theorem test_slotWaitLimit :
    got (.slotWaitLimitExpiry .left)
        ((flying .left { context 1 .waitSlot with slotTimer := some 0, slot := none } (atK 2 1 .exposing)).setWaitOrder
          [.left])
        (fun t => (t.ctx .left, t.capture.waitOrder, t.account.exceptions.map (·.kind))) =
      some (none, [], [.noSlot]) := by decide +kernel

/-! ### Lamps and dose (chapters 4 and 5) -/

/-- R72, R73: a clamped write, the lamp CHARGING from its new interval. -/
theorem test_lampSetWrite :
    got (.lampSetWrite .S 2 1 1 0 12000 2000 0 40 50 3000) .reset
        (fun t => ((t.lamp 2).entry.gDirect, (t.lamp 2).entry.maxDuration, (t.lamp 2).state, (t.lamp 2).recharge)) =
      some (1024, 100, .charging, some 2000) ∧
      got (.lampSetWrite .S 2 1 1 0 0 1 1 1 100 1) .reset (status .S) = some (some .range) := by decide +kernel

/-- R74, R196: the entry of a channel after power-on reset. -/
theorem test_lampSetRead :
    got (.lampSetRead .S 7) .reset (reply .S) =
      some (some (.ok, [7, 0, 0, 0, 0, 1, 0, 0, 0, 0, 1, 0, 0, 100, 0, 1, 0, 0, 0, 0])) ∧
      got (.lampSetRead .S 8) .reset (status .S) = some (some .range) := by decide +kernel

/-- R74, R196: the light status has 42 bytes. -/
theorem test_lampSetStatus :
    got (.lampSetStatus .S) .reset (fun t => (reply .S t).map (fun r => (r.1, r.2.length))) = some (some (.ok, 42)) := by
  decide +kernel

/-- R79: a program stored as written; a stop code of 4 is refused. -/
theorem test_programSetWrite :
    got (.programSetWrite .S 3 1 2 1 [⟨3, 30, 50⟩]) .reset (fun t => t.program 3) =
      some { mode := .paired, stop := .onDim, steps := [⟨3, 30, 50⟩] } ∧
      got (.programSetWrite .S 3 1 4 1 [⟨3, 30, 50⟩]) .reset (status .S) = some (some .range) := by decide +kernel

/-- R80, R196. -/
theorem test_programSetRead :
    got (.programSetRead .S 0) (lit .reset) (reply .S) =
      some (some (.ok, [0, 0, 0, 1, 3, 200, 0x00, 0x1F, 0x40])) := by decide +kernel

/-- The dose input of the worked cases of chapter 5. -/
def caseInput (left right volume level : Nat) : DoseInput :=
  { (lit .reset).doseInput 0x03 level 8000 with left := some left, right := some right, volume := volume }

/-- Cases A to D of chapter 5 and the level 30 below the floor. -/
theorem test_doseCases :
    (caseInput 1000000 1000000 1000000 200).check = .fits 200 ∧
      (caseInput 1000000 1000000 1000000 200).dLeft 200 = 130896 ∧
      (caseInput 1000000 1000000 1000000 200).dRight 200 = 9568 ∧
      (caseInput 100000 1000000 1000000 200).check = .dimmed 152 ∧
      (caseInput 1000000 1000000 135000 200).check = .dimmed 192 ∧
      (caseInput 5000 1000000 1000000 200).check = .held (some .leafLeft) ∧
      (caseInput 5000 1000000 1000000 30).check = .held (some .leafLeft) ∧
      (caseInput 5000 1000000 1000000 0).check = .fits 0 := by decide +kernel

/-- R108, R109: Case B as a query: DIMMED (1) at 152 of 200, floor 40, 8,000 us; 99,480 and 7,272 DU. -/
theorem test_doseQuery :
    got (.doseQuery .S 0 1) (lit (atK 3 1 .ready)) (reply .S) =
      some (some (.ok, [0, 1, 0, 1, 0, 2, 200, 40, 0, 0x1F, 0x40, 0, 0x1F, 0x40, 1, 152, 0, 0, 0x30, 0x93, 0, 0x03, 0x8D,
        0, 1, 0x84, 0x98, 0, 0, 0x1C, 0x68, 0, 1, 0x86, 0xA0, 0, 1, 0x86, 0xA0, 0, 0, 0, 0x98, 0x96, 0x80])) := by
  decide +kernel

/-- R88: a lamp of the mask is confirmed inside the window. -/
theorem test_confirmInput :
    got (.confirmInput 1) (inFlash .pending .pending (some 50)) (fun t => t.light.flash.map (fun f => f.lamps.map (·.confirm))) =
      some (some [.pending, .confirmed]) := by decide +kernel

/-- Case E of chapter 5: L1 missed; the lamp is FAULTED and the opening enters FAULT. -/
theorem test_confirmWindowClose :
    got .confirmWindowClose (inFlash .confirmed .pending (some 0))
        (fun t => ((t.lamp 1).state, (t.lamp 0).state, t.opening.cause)) =
      some (.faulted, .firing, some .lampFault) := by decide +kernel

/-- Row 5 of the worked session and Case E: the charge of both lamps, and of L0 alone. -/
theorem test_flashEnd :
    got .flashEnd (inFlash .confirmed .confirmed none)
        (fun t => (t.account.leaves.map (·.dose), (t.volume 0).doseUsed, t.light.gap, (t.ctx .left).map (·.state))) =
      some ([99480, 7272, 0], 106752, some 2000, some .awaitFrame) ∧
      got .flashEnd (inFlash .confirmed .missed none) (fun t => (t.account.leaves.map (·.dose), (t.volume 0).doseUsed)) =
        some ([50296, 3360, 0], 53656) := by decide +kernel

/-- R83, R92: the gap's expiry grants the request held, dimmed to 152 (Case B). -/
theorem test_interFlashGapExpiry :
    got .interFlashGapExpiry
        (let s := (flying .left (context 1 .waitLight) (lit (atK 3 1 .exposing))).setHeld
           [⟨.left, some 7, none, 1, 0x03⟩]
         { s with light := { s.light with gap := some 0 } })
        (fun t => (t.light.flash.map (·.levelUsed), t.strobe 0, t.trigger .left, t.light.gap)) =
      some (some 152, true, true, none) := by decide +kernel

/-- R76: a CHARGING lamp becomes CHARGED. -/
theorem test_rechargeExpiry :
    got (.rechargeExpiry 0) ((lit .reset).setLamp 0 { (lit .reset).lamp 0 with state := .charging, recharge := some 0 })
        (fun t => (t.lamp 0).state) = some .charged := by decide +kernel

/-! ### Frame memory and drains (chapters 6 and 7) -/

/-- The check values of R120. -/
theorem test_crc : crcOf [0xFFFF] = 0xFFFF0000 ∧ crcOf [0xFFFF, 0xFFFF] = 0xFFFFFFFF := by decide +kernel

/-- R117: only the start marker opens a header. -/
theorem test_huntWord :
    got (.huntWord .left 0x5AF0) .reset (fun t => ((t.rx .left).state, (t.rx .left).header)) = some (.header, [0x5AF0]) ∧
      got (.huntWord .left 0x5AF1) .reset (fun t => (t.rx .left).state) = some .hunt := by decide +kernel

theorem test_headerWord :
    got (.headerWord .left 7) (State.reset.setRx .left { Receiver.reset with state := .header, header := [0x5AF0] })
        (fun t => (t.rx .left).header) = some [0x5AF0, 7] := by decide +kernel

/-- The header of capture 7, step 1, of the left half, 2 by 1 words (R197), up to its seventh word. -/
def header : List Word := [0x5AF0, 7, 0x0001, 2, 1, 0, 0]

/-- R118: a header that passes starts the frame; one for another capture is refused NO_MATCH. -/
theorem test_frameHeader :
    got (.frameHeader .left 0)
        (((flying .left (context 1 .awaitFrame) (atK 2 1 .exposing)).setSlot 0 (openSlot 1)).setRx .left
          { Receiver.reset with state := .header, header := header })
        (fun t => ((t.rx .left).state, (t.rx .left).due, (t.ctx .left).map (·.state), (t.slot 0).size)) =
      some (.payload, 2, some .receiving, some (2, 1)) ∧
      got (.frameHeader .left 0)
        ((flying .left { context 1 .awaitFrame with id := 8 } (atK 2 1 .exposing)).setRx .left
          { Receiver.reset with state := .header, header := header })
        (fun t => ((t.rx .left).state, (t.rx .left).lastRefusal, (t.rx .left).refusedCount)) =
      some (.hunt, some .noMatch, 1) := by decide +kernel

/-- R119, R126: the word enters the FIFO, and a free arbiter takes it at once into a burst. -/
theorem test_payloadWord :
    got (.payloadWord .left 0xFFFF) (receiving .payload (atK 2 1 .exposing))
        (fun t => ((t.rx .left).taken, (t.rx .left).fifo, t.memory.burst)) =
      some (1, [], some (.pixel .left [0xFFFF])) := by decide +kernel

/-- R121: the last CRC word of the frame of two 0xFFFF words decides GOOD, and the frame is sealed. -/
theorem test_trailerWord :
    got (.trailerWord .left 0xFFFF)
        ((receiving .trailer (atK 2 1 .exposing)).setRx .left
          { (receiving .trailer (atK 2 1 .exposing)).rx .left with crc := some 0, marker := true, crcHigh := some 0xFFFF })
        (fun t => ((t.rx .left).state, (t.slot 0).sealStatus, (t.slot 0).state)) =
      some (.hunt, some .good, .sealed) := by decide +kernel

/-- R122: the limit seals the frame DAMAGED_TIMEOUT. -/
theorem test_frameCompleteLimit :
    got (.frameCompleteLimitExpiry .left) (receiving .payload (atK 2 1 .exposing))
        (fun t => ((t.slot 0).sealStatus, (t.rx .left).limit)) = some (some .damagedTimeout, none) := by decide +kernel

/-- R119: the words of a burst are in the slot, high byte first (log 6). -/
theorem test_burstCompletion_pixel :
    got .burstCompletion ((receiving .payload (atK 2 1 .exposing)).setBurst (some (.pixel .left [0x1234])))
        (fun t => (t.mem, (t.slot 0).words, t.memory.burst)) = some ([(0, 0x12), (1, 0x34)], 1, none) := by decide +kernel

/-- R129, R157: the last burst of a save of 60 words leaves the entry SUSPENDED. -/
theorem test_burstCompletion_save :
    got .burstCompletion (moving .saving .suspending 60 4 (atK 1 1 .idle))
        (fun t => ((t.volume 0).state, t.memory.engine.state, t.account.leaves)) =
      some (.suspended, .idle, []) := by decide +kernel

/-- R126, R127: a refresh operation ends; the arbiter is free. -/
theorem test_refreshCompletion :
    got .refreshCompletion (State.reset.setBurst (some .refresh)) (fun t => t.memory.burst) = some none := by
  decide +kernel

/-- R127: the expiry adds one to the owed count, and a free arbiter grants the refresh, which takes it off. -/
theorem test_refreshTimerExpiry :
    got .refreshTimerExpiry .reset (fun t => (t.memory.owed, t.memory.burst, t.memory.refreshTimer)) =
      some (0, some .refresh, some 78) := by decide +kernel

/-- R134, R135: count 0 means to the end; the drain becomes active and its slot DRAINING. -/
theorem test_drainOpen :
    got (.drainOpen .S 0 0 0 1) (State.reset.setSlot 0 (sealedSlot 2))
        (fun t => ((t.slot 0).state, t.drain.active.map (fun a => (a.job.count, a.job.auto, a.left)))) =
      some (.draining, some (2, true, 2)) ∧
      got (.drainOpen .S 0 2 0 1) (State.reset.setSlot 0 (sealedSlot 2)) (status .S) = some (some .range) := by
  decide +kernel

/-- R138, R140: the drain ends STOPPED. -/
theorem test_drainStop :
    got (.drainStop .S 0) (draining 1 .reset) (fun t => (t.drain.active, (t.slot 0).state, (t.link .S).notices)) =
      some (none, .sealed, [.drainDone 0 (some 0) (some 7) .stopped 0 2 1 false .none]) := by decide +kernel

/-- R138, R196: refused RANGE, the response carries the drain status, 18 bytes, and no active slot. -/
theorem test_drainStop_range :
    got (.drainStop .S 8) .reset (fun t => (reply .S t).map (fun r => (r.1, r.2.length, r.2.head?))) =
      some (some (.range, 18, some 0xFF)) := by decide +kernel

/-- R114, R196: 50 bytes; a FREE slot. -/
theorem test_slotStatus :
    got (.slotStatus .S 3) .reset (fun t => (reply .S t).map (fun r => (r.1, r.2.length, r.2.take 6))) =
      some (some (.ok, 50, [3, 0, 0xFF, 0, 0, 0xFF])) ∧
      got (.slotStatus .S 8) .reset (status .S) = some (some .range) := by decide +kernel

/-- Row 14 of the worked session: a GOOD frame released with discard makes its CAPTURED side RESHOOT. -/
theorem test_release :
    got (.release .S 0 1)
        (((atK 2 1 .settling).changeSide .verso 1 fun r =>
          { r with state := .captured, summary := some ⟨7, .complete, some 0, [], 0, false⟩ }).setSlot 0 (sealedSlot 2))
        (fun t => ((t.slot 0).state, (t.side .verso 1).map (·.state), t.account.exceptions.map (·.kind))) =
      some (.free, some .reshoot, [.frameDiscarded]) ∧
      got (.release .S 0 0) (State.reset.setSlot 0 (sealedSlot 2)) (status .S) = some (some .undrained) := by
  decide +kernel

/-- R196: a RELEASE refused for its discard code shows the state of its slot, SEALED 2. -/
theorem test_release_code :
    got (.release .S 0 2) (State.reset.setSlot 0 (sealedSlot 2)) (reply .S) =
      some (some (.range, [0, 0xFF, 2, 0, 0, 0xFF, 0])) := by decide +kernel

/-- R136, R140: the last word ends the drain COMPLETE, drained fully. -/
theorem test_drainWordTaken :
    got .drainWordTaken (draining 1 .reset) (fun t => (t.drain.active, (t.slot 0).drainedFully)) = some (none, true) ∧
      got .drainWordTaken (draining 2 .reset) (fun t => t.drain.active.map (fun a => (a.sent, a.left))) =
        some (some (1, 1)) := by decide +kernel

/-- R137: ready falls, and the stall timer starts with 100 ms; it rises, and the timer stops. -/
theorem test_readyFalling :
    got .readyFalling (draining 1 .reset) (fun t => (t.drain.readyIn, t.drain.active.map (·.stall))) =
      some (false, some (some 100)) := by decide +kernel

/-- The drain of one word with ready low and the stall timer running. -/
def stalling : State := ((run .readyFalling (draining 1 .reset)).getD .reset)

theorem test_readyRising :
    got .readyRising stalling (fun t => (t.drain.readyIn, t.drain.active.map (·.stall))) =
      some (true, some none) := by decide +kernel

/-- R137, R140: the drain ends STALLED. -/
theorem test_stallTimerExpiry :
    got .stallTimerExpiry stalling (fun t => (t.drain.active, (t.link .S).notices)) =
      some (none, [.drainDone 0 (some 0) (some 7) .stalled 0 2 1 false .none]) := by decide +kernel

/-! ### Volumes, leaves and exceptions (chapters 8 and 9) -/

/-- R151, R152: the lowest EMPTY entry, the default timings 400 ms, 8 s and 5,000 ms. -/
theorem test_register :
    got (.register .S [0x42] 20 100000 10000000 0xFFFF 0xFF 0xFFFF) (atK 1 1 .ready)
        (fun t => (status .S t, (t.volume 1).state, (t.volume 1).settle, (t.volume 1).turn, (t.volume 1).life,
          (t.volume 1).counts.wanted)) = some (some .ok, .pending, 400, 8, 5000, 40) ∧
      got (.register .S [0x41] 1 0 0 0 0 0) (atK 1 1 .ready) (reply .S) = some (some (.duplicateMark, [0])) := by
  decide +kernel

/-- Row 1 of the worked session. -/
theorem test_mount :
    got (.mount .S 0 1) (State.reset.setVolume 0 (book .pending 20))
        (fun t => (t.opening.state, t.opening.k, (t.volume 0).state, t.account.leaves.length)) =
      some (.settling, 1, .mounted, 20) := by decide +kernel

/-- R155, R156: slot 0 becomes SAVE with 10 + 50 words, and the save begins. -/
theorem test_suspend :
    got (.suspend .S) (atK 1 1 .ready)
        (fun t => ((t.volume 0).state, (t.slot 0).state, (t.slot 0).image, t.opening.state, t.memory.burst)) =
      some (.suspending, .save, some 60, .idle, some (.engine 60 false)) := by decide +kernel

/-- R160, R161: two sides outstanding of N = 1 are reported. -/
theorem test_close :
    got (.close .S 0) (atK 1 1 .ready) (fun t => ((t.volume 0).state, (t.volume 0).lastOpening, (t.link .S).notices.length)) =
      some (.closed, some 1, 1) ∧ got (.close .S 16) .reset (status .S) = some (some .range) := by decide +kernel

/-- R162: a PENDING entry becomes EMPTY; a MOUNTED one is refused. -/
theorem test_clear :
    got (.clear .S 2) (State.reset.setVolume 2 (book .pending 1)) (fun t => (t.volume 2).state) = some .empty ∧
      got (.clear .S 0) (atK 1 1 .ready) (status .S) = some (some .state) := by decide +kernel

/-- R152: 2,005 ms settles to 2,000 and a turn timeout of 0 to 1; the default marker leaves the lifetime. -/
theorem test_setTiming :
    got (.setTiming .S 0 2005 0 0xFFFF) (atK 1 1 .ready)
        (fun t => ((t.volume 0).settle, (t.volume 0).turn, (t.volume 0).life)) = some (2000, 1, 5000) ∧
      got (.setTiming .S 1 0 0 0) .reset (status .S) = some (some .state) := by decide +kernel

/-- R150: the volume status of an EMPTY entry. -/
theorem test_readVolume :
    got (.readVolume .S 3 none) .reset (fun t => (reply .S t).map (fun r => (r.1, r.2.length, r.2.take 4))) =
      some (some (.ok, 53, [3, 0, 0, 0])) ∧
      got (.readVolume .S 3 (some 2)) .reset (status .S) = some (some .range) := by decide +kernel

theorem test_readVolumeShelfMark :
    got (.readVolumeShelfMark .S 0) (atK 1 1 .ready) (reply .S) = some (some (.ok, [0, 2, 1, 0x41])) := by decide +kernel

/-- R106: both caps replaced. -/
theorem test_setBudget :
    got (.setBudget .S 0 5 6) (atK 1 1 .ready) (fun t => ((t.volume 0).leafCap, (t.volume 0).volumeCap)) =
      some (5, 6) := by decide +kernel

/-- R171: a CAPTURED side returns to the queue; a CLAIMED one is refused. -/
theorem test_reshoot :
    got (.reshoot .S 1 0) (sideTo .verso 1 .captured (atK 2 1 .ready)) (fun t => (t.side .verso 1).map (·.state)) =
      some (some .reshoot) ∧
      got (.reshoot .S 1 0) (claimed .left 1 (atK 2 1 .ready)) (reply .S) = some (some (.claimed, [0, 1, 0, 1])) := by
  decide +kernel

/-- R172: the one WANTED side of the last opening exempted, the opening is FINISHED. -/
theorem test_exempt :
    got (.exempt .S 2 0 15) (atK 2 2 .ready) (fun t => ((t.side .verso 2).map (·.reason), t.opening.state)) =
      some (some (some 15), .finished) := by decide +kernel

/-- R173: an EXEMPT side is refused. -/
theorem test_acceptSide :
    got (.acceptSide .S 1 1) (atK 2 1 .ready) (fun t => (t.side .recto 1).map (fun r => (r.state, r.summary.map (·.outcome)))) =
      some (some (.captured, some .stationAccepted)) ∧
      got (.acceptSide .S 1 1) (sideTo .recto 1 .exempt (atK 2 1 .ready)) (status .S) = some (some .state) := by
  decide +kernel

/-- R174: 32 bytes; a view of 3 is refused. -/
theorem test_readLeaf :
    got (.readLeaf .S 1 0) (atK 2 1 .ready) (fun t => (reply .S t).map (fun r => (r.1, r.2.length, r.2.take 10))) =
      some (some (.ok, 32, [0, 1, 0, 0, 0, 0, 0, 1, 0x86, 0xA0])) ∧
      got (.readLeaf .S 1 3) (atK 2 1 .ready) (status .S) = some (some .range) := by decide +kernel

/-- R179: the oldest record is taken out: MISSED_TURN of opening 1, leaf count 0. -/
theorem test_readExceptions :
    got (.readExceptions .S 1) ((atK 2 1 .ready).setExceptions [⟨.missedTurn, none, 1, none, none, 0⟩])
        (fun t => (reply .S t, t.account.exceptions)) =
      some (some (.ok, [1, 1, 0xFF, 0, 0, 0, 1, 0, 0, 0xFF, 0, 0, 0, 0, 0, 0]), []) := by decide +kernel

/-- R193, R196: the image of N = 1 with one record has 65 words. -/
theorem test_image :
    (imageWords (book .mounted 1) [.fresh] [⟨.missedTurn, none, 1, none, none, 0⟩]).length = 65 ∧
      (readImage (imageWords (book .mounted 1) [.fresh] [⟨.missedTurn, none, 1, none, none, 0⟩])).leaves = [.fresh] := by
  decide +kernel

/-- The idle step: 1 ms off the settle timer (log 3); the front of the queue runs first. -/
theorem test_step :
    (match step (atK 2 1 .settling) with
     | .next t => t.opening.settle
     | _ => none) = some 399 ∧
      (match step { atK 2 1 .settling with pending := [.settleExpiry, .settleExpiry] } with
       | .next t => (t.opening.state, t.pending)
       | _ => (.idle, [])) = (.ready, [.settleExpiry]) := by decide +kernel

/-! ### Witnesses: for each statement, states and operands that meet the hypotheses of its clauses -/

/-- The nine opening states. -/
def openings : List OpeningState :=
  [.idle, .settling, .ready, .exposing, .turnable, .turning, .finished, .fault, .parked]

/-- The reset state with one link replaced. -/
def onLink (l : LinkId) (k : Link) : State := State.reset.setLink l k

/-- An exchange with bytes clocked in and an outgoing frame. -/
def exchanging (incoming : List Byte) (out : OutFrame) : Link :=
  { Link.reset with exchange := some { incoming := incoming, out := out, live := true, flags := some 0x02 } }

/-- An empty queue with every timer running: the settle, a claim, a limit of a capture, the gap, a flash and its window,
a recharge, a frame, the refresh and the stall timer. -/
theorem witness_StepRunsFront :
    State.reset.pending = [] ∧
    ((atK 2 1 .settling).pending = [] ∧ (atK 2 1 .settling).opening.settle = some 400) ∧
    ((claimed .left 1 (atK 2 1 .ready)).pending = [] ∧
      (claimed .left 1 (atK 2 1 .ready)).claimOf .left = some ⟨1, .wanted, 5000⟩) ∧
    (let c : Ctx := { context 1 .awaitFrame with frameTimer := some 1000 }
     (flying .left c (atK 2 1 .exposing)).pending = [] ∧ (flying .left c (atK 2 1 .exposing)).ctx .left = some c) ∧
    ((inFlash .pending .pending (some 50)).pending = [] ∧
      (inFlash .pending .pending (some 50)).light.flash = some (flashB .pending .pending (some 50))) ∧
    ((receiving .payload (atK 2 1 .exposing)).pending = [] ∧
      ((receiving .payload (atK 2 1 .exposing)).rx .left).limit = some 8000) ∧
    (stalling.pending = [] ∧ stalling.drain.active.map (·.stall) = some (some 100) ∧
      stalling.memory.refreshTimer = some 78) := by decide +kernel

theorem witness_SelectFalling :
    ((onLink .A (exchanging [] .empty)).link .A).exchange = some ⟨[], .empty, true, some 0x02⟩ ∧
    ((onLink .A { Link.reset with response := some ⟨0, .ok, []⟩ }).link .A).response = some ⟨0, .ok, []⟩ ∧
    (let k := (onLink .A { Link.reset with request := some ⟨0x70, []⟩ }).link .A
     k.exchange = none ∧ k.response = none ∧ k.request = some ⟨0x70, []⟩) ∧
    (let k := (onLink .A { Link.reset with answerDue := some 0x70 }).link .A
     k.exchange = none ∧ k.response = none ∧ k.request = none ∧ k.answerDue = some 0x70) ∧
    (let k := worn.link .R
     k.exchange = none ∧ k.response = none ∧ k.request = none ∧ k.answerDue = none ∧
       k.notices = [.claimExpired 1 .recto .wanted]) ∧
    (let k := State.reset.link .S
     k.exchange = none ∧ k.response = none ∧ k.request = none ∧ k.answerDue = none ∧ k.notices = []) := by
  decide +kernel

/-- Each kind of outgoing frame, at its last byte and at the third byte. -/
theorem witness_ByteClocked :
    (State.reset.link .A).exchange = none ∧
    (let e : Exchange := ⟨[0, 0, 0], .response ⟨0x70, .ok, []⟩, true, some 2⟩
     (onLink .A { Link.reset with exchange := some e }).link .A = { Link.reset with exchange := some e } ∧
       e.incoming.length + 1 = 4) ∧
    (let e : Exchange := ⟨[0, 0, 0], .notice (.volumeEnd none 0), true, some 2⟩
     e.live = true ∧ e.incoming.length + 1 = 4 ∧ 4 + (Notice.volumeEnd none 0).body.length = 7) ∧
    (let e : Exchange := ⟨[0, 0], .notReady 0x70, true, some 2⟩
     ((onLink .A { Link.reset with exchange := some e }).link .A).exchange = some e ∧ e.incoming.length + 1 = 3) ∧
    (let e : Exchange := ⟨[0], .empty, true, none⟩
     ((onLink .A { Link.reset with exchange := some e }).link .A).exchange = some e ∧ e.incoming.length + 1 = 2) := by
  decide +kernel

/-- The rows of R184: no byte, the read marker, one byte alone, a body one byte short, bodies of 58 and 59 bytes, a
PORT_RESET, an empty and a full buffer. -/
theorem witness_SelectRising :
    (State.reset.link .A).exchange = none ∧
    (∀ bs ∈ [[], [0xFF], [0x70], [0x72, 1], 0x72 :: 58 :: List.replicate 58 0, 0x72 :: 59 :: List.replicate 59 0,
        [0x02, 0], [0x70, 0]],
      ((onLink .A (exchanging bs .empty)).link .A).exchange = some ⟨bs, .empty, true, some 0x02⟩) ∧
    ((onLink .A { exchanging [0x70, 0] .empty with request := some ⟨0x70, []⟩ }).link .A).request ≠ none ∧
    ((onLink .A (exchanging [0x70, 0] .empty)).link .A).request = none ∧
    ([] : List Byte).length < (1 : Byte).toNat ∧ (58 : Byte).toNat ≤ 58 ∧ 58 < (59 : Byte).toNat := by decide +kernel

theorem witness_PortReset :
    (State.reset.link .A).answerDue = none ∧
    ((onLink .A { Link.reset with answerDue := some 0x70 }).link .A).answerDue = some 0x70 := by decide +kernel

theorem witness_ReadRequests :
    (State.reset.portFree .S ∧ State.reset.portFree .V ∧ State.reset.portFree .R ∧ State.reset.portFree .A) ∧
    ((15 : Byte).toNat = (15 : Fin 16).val ∧ 16 ≤ (16 : Byte).toNat ∧ (some 2 : Option Byte) ≠ some 1 ∧
      2 ≤ (2 : Byte).toNat ∧ (none : Option Byte) ≠ some 1) ∧
    ((7 : Byte).toNat = (7 : Fin 8).val ∧ 8 ≤ (8 : Byte).toNat) ∧ State.reset.mounted = none ∧
    (let s := atK 2 1 .ready
     s.portFree .S ∧ s.mounted ≠ none ∧ leafAt s.account.leaves (2 : Word).toNat = some .fresh ∧
       leafAt s.account.leaves (3 : Word).toNat = none ∧ leafAt s.account.leaves (0 : Word).toNat = none ∧
       2 < (3 : Byte).toNat) := by decide +kernel

/-- Refused by its kind, its role and its length, with each of the three bodies of a refusal; a request that waits. -/
theorem witness_RequestChecks :
    ((Instr.requestKindUnknown .S 0x03 []).wellFormed = true ∧ State.reset.portFree .S ∧ roleOf 0x03 = none) ∧
    (∀ k ∈ [(0x2F, Role.station), (0x30, .station), (0x35, .station), (0x70, .arm), (0x73, .arm)],
      (Instr.requestKindUnknown .V (k.1 : Byte) (List.replicate 5 0)).wellFormed = true ∧ State.reset.portFree .V ∧
        (k.1 = 0x2F ∨ roleOf k.1 = some k.2)) ∧
    ((Instr.requestKindUnknown .V 0x33 [0]).wellFormed = true ∧ roleOf 0x33 = some .station) ∧
    ((Instr.park .V).wellFormed = true ∧ frameOf (.park .V) = some (.V, ⟨0x33, []⟩) ∧ roleOf 0x33 = some .station ∧
      roleAllows .station .V = false ∧ State.reset.portFree .V) ∧
    ((Instr.turnAsk .V).wellFormed = true ∧ frameOf (.turnAsk .V) = some (.V, ⟨0x70, []⟩) ∧
      roleOf 0x70 = some .arm ∧ roleAllows .arm .V = false) ∧
    ((Instr.suspend .V).wellFormed = true ∧ frameOf (.suspend .V) = some (.V, ⟨0x12, []⟩) ∧
      roleOf 0x12 = some .station) ∧
    (let k : Link := { Link.reset with request := some ⟨0x33, []⟩, response := some ⟨0, .ok, []⟩ }
     (Instr.park .S).wellFormed = true ∧ frameOf (.park .S) = some (.S, ⟨0x33, []⟩) ∧
       ((onLink .S k).link .S).response ≠ none ∧ ((onLink .S k).link .S).request = some ⟨0x33, []⟩) ∧
    (let k : Link := { Link.reset with request := some ⟨0x34, []⟩ }
     ((onLink .S k).link .S).request = some ⟨0x34, []⟩ ∧ (⟨0x34, []⟩ : Frame) ≠ ⟨0x33, []⟩) ∧
    (let k : Link := { Link.reset with request := some ⟨0x33, []⟩ }
     ((onLink .S k).link .S).request = some ⟨0x33, []⟩ ∧ ((onLink .S k).link .S).response = none ∧
       ((onLink .S k).link .S).answerDue = none) := by decide +kernel

/-- The rows of R7: a capture in flight, TURNABLE anew and again, FINISHED anew, READY, and an unsettled state. -/
theorem witness_EvaluationEvent :
    (atK 2 1 .settling).opening.state.settled = false ∧ (atK 2 1 .ready).opening.state.settled = true ∧
    (flying .left (context 1 .waitLight) (atK 2 1 .ready)).ctx .left ≠ none ∧
    (let s := sideTo .recto 2 .exempt (sideTo .verso 1 .captured (atK 2 1 .ready))
     s.evaluate.opening.state = .turnable ∧ s.opening.state ≠ .turnable) ∧
    (let s := sideTo .recto 2 .exempt (sideTo .verso 1 .captured (atK 2 1 .turnable))
     s.evaluate.opening.state = .turnable ∧ s.opening.state = .turnable ∧ s.opening.direction = some s.turnDirection) ∧
    (let s := sideTo .verso 2 .exempt (atK 2 2 .ready)
     s.evaluate.opening.state = .finished ∧ s.opening.state ≠ .finished) ∧
    (atK 2 1 .turnable).evaluate.opening.state = .ready := by decide +kernel

/-- Every opening state, the targets N, N + 1 and k, and a target in force. -/
theorem witness_Seek :
    (∀ x ∈ openings, (atK 2 1 x).portFree .S ∧ (atK 2 1 x).opening.state = x) ∧
    (let s := atK 2 1 .ready
     s.leaves < (3 : Word).toNat ∧ (2 : Word).toNat ≤ s.leaves ∧ (some (2 : Word).toNat : Option Nat) ≠ s.opening.seek ∧
       (1 : Word).toNat = s.opening.k ∧ (none : Option Nat) = s.opening.seek) := by decide +kernel

theorem witness_Resync :
    (∀ x ∈ openings, (atK 2 1 x).portFree .S ∧ (atK 2 1 x).opening.state = x) ∧
    (flying .left (context 1 .firing) (atK 2 1 .fault)).inFlight = true ∧ (atK 2 1 .fault).inFlight = false ∧
    State.reset.mounted = none ∧ (atK 2 1 .idle).mounted ≠ none ∧
    (let s := atK 2 1 .fault
     s.leaves < (3 : Word).toNat ∧ (2 : Word).toNat ≤ s.leaves ∧ s.settleTime ≠ 0) ∧
    ((atK 2 1 .fault).setVolume 0 { book .mounted 2 with settle := 0 }).settleTime = 0 := by decide +kernel

/-- A claim alone, a capture that waits, one in FIRING, one in RECEIVING before its seal, and a pair of which one
waits; an orderly wait order. -/
theorem witness_AbortOpening :
    (∀ x ∈ openings, (atK 2 1 x).portFree .S ∧ (atK 2 1 x).opening.state = x ∧ (atK 2 1 x).ctx .left = none ∧
      (atK 2 1 x).ctx .right = none) ∧
    (let s := claimed .left 1 (atK 2 1 .ready)
     s.portFree .S ∧ s.claimOf .left = some ⟨1, .wanted, 5000⟩ ∧ s.ctx .left = none ∧
       (s.side .verso 1).map (·.state) = some .claimed) ∧
    (∀ x ∈ [CtxState.waitLight, .awaitFrame],
      let c := context 1 x
      let s := (flying .left c (atK 2 1 .exposing)).setSlot 0 (openSlot 1)
      s.portFree .S ∧ s.ctx .left = some c ∧ c.state ≠ .firing ∧ c.state ≠ .receiving ∧ c.order = none ∧
        s.capture.waitOrder = [] ∧ s.claimOf .left = none ∧ (s.side .verso 1).map (·.state) = some .capturing ∧
        c.slot = some 0 ∧ (s.slot 0).state = .open') ∧
    (let s := flying .left (context 1 .firing) (atK 2 1 .exposing)
     s.portFree .S ∧ s.ctx .left = some (context 1 .firing) ∧ s.ctx .right = none) ∧
    (let s := flying .left (context 1 .receiving) (atK 2 1 .exposing)
     s.portFree .S ∧ s.ctx .left = some (context 1 .receiving) ∧ (context 1 .receiving).report = none ∧
       (context 1 .receiving).order = none) ∧
    (let c : Ctx := { context 1 .receiving with linked := true }
     let d : Ctx := { context 2 .waitPartner with linked := true }
     let s := flying .right d (flying .left c (atK 2 1 .exposing))
     s.portFree .S ∧ s.ctx .left = some c ∧ s.ctx .right = some d ∧ d.linked = true ∧ d.state ≠ .firing ∧
       d.state ≠ .receiving) := by decide +kernel

theorem witness_Park :
    (∀ x ∈ openings, (atK 2 1 x).portFree .S ∧ (atK 2 1 x).opening.state = x ∧ (atK 2 1 x).inFlight = false ∧
      (atK 2 1 x).drainIdle = true) ∧
    (flying .left (context 1 .waitLight) (atK 2 1 .exposing)).inFlight = true ∧
    (draining 1 (atK 2 1 .ready)).drainIdle = false := by decide +kernel

theorem witness_Wake :
    (∀ x ∈ openings, (atK 2 1 x).portFree .S ∧ (atK 2 1 x).opening.state = x) ∧
    ((atK 2 1 .parked).opening.parkReturn = .volume ∧ (atK 2 1 .parked).settleTime ≠ 0) ∧
    ((atK 2 1 .parked).setVolume 0 { book .mounted 2 with settle := 0 }).settleTime = 0 ∧
    ((atK 2 1 .parked).setOpening { (atK 2 1 .parked).opening with parkReturn := .nothing }).opening.parkReturn =
      .nothing ∧
    ((atK 2 1 .parked).drain.active = none ∧ (atK 2 1 .parked).drain.queue = []) ∧
    (let s : State := { atK 2 1 .parked with drain := { Drain.reset with queue := [⟨0, 0, 2, false⟩] } }
     s.drain.active = none ∧ s.drain.queue = [⟨0, 0, 2, false⟩]) := by decide +kernel

/-- Every opening state; captures that wait; a save and a restore with their slots, with a burst in progress and
without, and in PARKED; an active drain with a burst of it in progress and without. -/
theorem witness_CradleReset :
    (∀ x ∈ openings, (atK 2 1 x).portFree .S ∧ (atK 2 1 x).opening.state = x) ∧
    ((atK 2 1 .idle).mounted ≠ none ∧ State.reset.mounted = none ∧ State.reset.moving = none) ∧
    (let c := context 1 .waitLight
     (flying .left c (atK 2 1 .exposing)).ctx .left = some c ∧ c.state ≠ .firing) ∧
    (let s := moving .saving .suspending 60 60 (atK 1 1 .idle)
     s.portFree .S ∧ s.moving = some 0 ∧ (s.volume 0).state = .suspending ∧ (s.volume 0).saveSlot = some 1 ∧
       s.drains 1 = false ∧ s.capture.waitOrder = [] ∧ s.memory.burst = some (.engine 60 false)) ∧
    (let s := (moving .restoring .resuming 60 60 (atK 1 1 .idle)).setBurst none
     s.portFree .S ∧ s.moving = some 0 ∧ (s.volume 0).state = .resuming ∧ (s.slot 1).state = .save ∧
       s.drains 1 = false ∧ s.memory.burst = none ∧ s.memory.mode ≠ .entering) ∧
    (let s0 := (moving .saving .suspending 60 60 (atK 1 1 .parked)).setBurst none
     let s : State := { s0 with memory := { s0.memory with mode := .entering } }
     s.moving ≠ none ∧ s.memory.burst = none ∧ s.memory.mode = .entering) ∧
    (let s := draining 1 .reset
     s.portFree .S ∧ s.memory.burst = none ∧ s.drain.active.isSome = true ∧
       (s.setBurst (some (.drain 1))).memory.burst = some (.drain 1)) := by decide +kernel

/-- A settled opening; SETTLING without a context, with one that waits for the settle, with two that are no pair and
with a pair; eight, one and no FREE slot. -/
theorem witness_SettleExpiry :
    (atK 2 1 .ready).opening.state ≠ .settling ∧
    ((atK 2 1 .settling).opening.state = .settling ∧ (atK 2 1 .settling).opening.settle ≠ none ∧
      (atK 2 1 .settling).ctx .left = none ∧ (atK 2 1 .settling).ctx .right = none) ∧
    (let s := flying .left (context 1 .waitSettle) (atK 2 1 .settling)
     s.inFlight = true ∧ s.ctx .left = some (context 1 .waitSettle) ∧ s.ctx .right = none ∧
       (context 1 .waitSettle).linked = false ∧ s.freeSlots = 0 :: [1, 2, 3, 4, 5, 6, 7] ∧
       (s.mapSlots fun _ => sealedSlot 2).freeSlots = [] ∧
       ((s.mapSlots fun _ => sealedSlot 2).setSlot 3 Slot.free).freeSlots = 3 :: []) ∧
    (∀ p ∈ [false, true],
      let a : Ctx := { context 1 .waitSettle with linked := p, slot := none }
      let b : Ctx := { context 2 .waitSettle with linked := p, slot := none }
      let s := flying .right b (flying .left a (atK 2 1 .settling))
      s.opening.state = .settling ∧ s.opening.settle ≠ none ∧ s.ctx .left = some a ∧ s.ctx .right = some b ∧
        a.linked = p ∧ b.linked = p ∧ s.freeSlots = 0 :: 1 :: [2, 3, 4, 5, 6, 7]) := by decide +kernel

/-- Room in a queue of 31 of 32 notices; a claim; a capture that awaits its frame; one in FIRING and in RECEIVING alone,
and with a partner that waits. -/
theorem witness_FaultEntry :
    (((onLink .S { Link.reset with notices := List.replicate 31 (.volumeEnd none 0) }).link .S).notices.length <
      noticeDepth .S) ∧
    (let s := claimed .left 1 (atK 2 1 .ready)
     s.claimOf .left = some ⟨1, .wanted, 5000⟩ ∧ (s.side .verso 1).isSome = true ∧ s.ctx .left = none) ∧
    (let c := context 1 .awaitFrame
     let s := flying .left c (atK 2 1 .exposing)
     s.ctx .left = some c ∧ c.state ≠ .firing ∧ c.state ≠ .receiving ∧ (s.side .verso 1).isSome = true ∧
       s.claimOf .left = none) ∧
    (∀ x ∈ [CtxState.firing, .receiving],
      let c : Ctx := { context 1 x with order := some .cancelled }
      let s := flying .left c (atK 2 1 .exposing)
      s.ctx .left = some c ∧ c.state = x ∧ s.ctx .right = none ∧ s.capture.waitOrder = []) ∧
    (let c : Ctx := { context 1 .receiving with linked := true }
     let d : Ctx := { context 2 .waitPartner with linked := true }
     let s := flying .right d (flying .left c (atK 2 1 .exposing))
     s.ctx .left = some c ∧ s.ctx .right = some d ∧ s.capture.waitOrder = [] ∧ d.linked = true ∧
       d.state ≠ .firing ∧ d.state ≠ .receiving) := by decide +kernel

theorem witness_FaultCauses :
    (∀ x ∈ openings, (atK 2 1 x).portFree .A ∧ (atK 2 1 x).opening.state = x) ∧
    ((atK 2 1 .turning).opening.turn ≠ none ∧ (atK 2 1 .ready).opening.turn = none) := by decide +kernel

theorem witness_TurnAsk :
    (∀ x ∈ openings, (atK 2 1 x).portFree .A ∧ (atK 2 1 x).opening.state = x) ∧
    (atK 2 1 .turnable).opening.volume = some 0 := by decide +kernel

/-- Every count with each direction, at the openings from which a count of 2 stays within 0..N and leaves it. -/
theorem witness_TurnEnd :
    (∀ x ∈ openings, (atK 2 1 x).portFree .A ∧ (atK 2 1 x).opening.state = x) ∧
    (3 < (4 : Byte).toNat) ∧
    ((atK 2 0 .turning).opening.direction = some .forward ∧ 0 + 2 ≤ (atK 2 0 .turning).leaves ∧
      (atK 2 1 .turning).leaves < 1 + 2) ∧
    (let back (k : Nat) := (atK 2 k .turning).setOpening { (atK 2 k .turning).opening with direction := some .backward }
     (back 2).opening.direction = some .backward ∧ 2 ≤ (back 2).opening.k ∧ (back 1).opening.k < 2) := by decide +kernel

/-- A CLAIM in every opening state and on a side in every state, and on a board. -/
theorem witness_ClaimTestAndSet :
    (∀ x ∈ openings, (atK 2 1 x).portFree .V ∧ (atK 2 1 x).opening.state = x) ∧
    (atK 2 0 .ready).presentState .left = none ∧
    (∀ x ∈ [SideState.wanted, .claimed, .capturing, .captured, .reshoot, .exempt, .held],
      (sideTo .verso 1 x (atK 2 1 .ready)).presentLeaf .left = some 1 ∧
        (sideTo .verso 1 x (atK 2 1 .ready)).presentState .left = some x) ∧
    (atK 2 1 .ready).opening.volume = some 0 := by decide +kernel

theorem witness_ClaimEnds :
    (State.reset.claimOf .left = none ∧ State.reset.presentLeaf .left = none ∧ State.reset.portFree .V) ∧
    ((atK 2 1 .ready).claimOf .left = none ∧ (atK 2 1 .ready).presentLeaf .left = some 1) ∧
    ((claimed .left 1 (atK 2 1 .ready)).claimOf .left = some ⟨1, .wanted, 5000⟩ ∧
      (claimed .left 1 (atK 2 1 .ready)).portFree .V) := by decide +kernel

/-- Each check of R51 in turn fails. -/
theorem witness_CaptureRefused :
    (∀ x ∈ openings, (atK 2 1 x).portFree .V ∧ (atK 2 1 x).opening.state = x) ∧
    (16 ≤ (16 : Byte).toNat ∧ (15 : Byte).toNat = (15 : Fin 16).val) ∧
    (atK 2 0 .ready).presentState .left = none ∧
    (let s := (atK 2 2 .ready).setProgram 0 program2
     (s.program 0).mode = .paired ∧ s.presentLeaf .right = none ∧ s.presentState .left ≠ none) ∧
    (let s := lit (atK 2 1 .ready)
     s.presentState .left = some .wanted ∧ (s.program 0).mode = .unpaired ∧ s.ctx .left = none) ∧
    (flying .left (context 1 .waitLight) (lit (atK 2 1 .exposing))).ctx .left ≠ none ∧
    (∀ x ∈ [SideState.captured, .exempt, .held], (sideTo .verso 1 x (atK 2 1 .ready)).presentState .left = some x) ∧
    (lit (atK 2 1 .ready)).programFits .left Program.empty = false ∧
    ((lit (atK 2 1 .ready)).programFits .left program0 = true ∧
      ((lit (atK 2 1 .ready)).setLamp 1 .reset).programFits .left program0 = true ∧
      ((lit (atK 2 1 .ready)).setLamp 1 .reset).lampsAvailable program0 = false) := by decide +kernel

/-- Every hypothesis of an accepted CAPTURE, in SETTLING and READY, with a claim, without a FREE slot, and for a pair
without a partner and with one. -/
theorem witness_CaptureAccepted :
    (∀ x ∈ [OpeningState.settling, .ready], let s := lit (atK 2 1 x)
      s.portFree .V ∧ s.opening.state.works = true ∧ s.presentLeaf .left = some 1 ∧ s.side .verso 1 = some .fresh ∧
        s.ctx .left = none ∧ s.partnerFor .left 0 program0 = none ∧ s.programFits .left program0 = true ∧
        s.lampsAvailable program0 = true ∧ s.lowestFree = some 0 ∧ s.claimOf .left = none ∧
        SideRec.fresh.state = Undone.wanted.toSide) ∧
    (claimed .left 1 (lit (atK 2 1 .ready))).claimOf .left ≠ none ∧
    ((lit (atK 2 1 .ready)).mapSlots fun _ => sealedSlot 2).lowestFree = none ∧
    (let s := (lit (atK 2 1 .ready)).setProgram 0 program2
     (s.program 0).mode = .paired ∧ s.presentLeaf .right ≠ none ∧ s.partnerFor .left 0 program2 = none ∧
       s.programFits .left program2 = true ∧ s.lampsAvailable program2 = true) ∧
    (let c : Ctx := { context 2 .waitPartner with copy := program2, slot := none, partnerTimer := some 2000 }
     ∀ x ∈ [OpeningState.settling, .exposing],
       let s := flying .right c ((lit (atK 2 1 x)).setProgram 0 program2)
       s.portFree .V ∧ s.opening.state = x ∧ s.opening.state.works = true ∧ s.presentLeaf .left = some 1 ∧
         s.side .verso 1 = some .fresh ∧ s.presentLeaf .right ≠ none ∧ s.partnerFor .left 0 program2 = some c ∧
         s.ctx .left = none ∧ s.programFits .left program2 = true ∧ s.lampsAvailable program2 = true) := by
  decide +kernel

theorem witness_CaptureEnd :
    (let c := context 1 .waitLight
     let s := (flying .left c (atK 2 1 .exposing)).setSlot 0 (openSlot 1)
     s.ctx .left = some c ∧ (s.side .verso 1).isSome = true ∧ (s.slot 0).state = .open' ∧ c.linked = false) ∧
    (let c : Ctx := { context 1 .waitLight with order := some .cancelled }
     c.outcome = .cancelled) ∧
    (let c : Ctx := { context 1 .waitLight with cause := some .held, heldCap := some .volume }
     c.outcome = .held ∧ (flying .left c (atK 2 1 .exposing)).mounted = some 0 ∧
       (flying .left c (atK 2 1 .exposing)).account.exceptions.length < 64) ∧
    (let c : Ctx := { context 1 .waitLight with linked := true }
     let d : Ctx := { context 2 .waitLight with linked := true, slot := some 1 }
     let s := ((flying .right d (flying .left c (atK 2 1 .exposing))).setSlot 1 (openSlot 2))
     s.ctx .left = some c ∧ s.ctx .right = some d ∧ (s.slot 1).state = .open' ∧ (s.side .verso 1).isSome = true) ∧
    (let c : Ctx := { context 1 .awaitFrame with linked := true }
     let d : Ctx := { context 2 .receiving with linked := true }
     let s := flying .right d (flying .left c (atK 2 1 .exposing))
     s.ctx .right = some d ∧ Half.right ∉ s.capture.waitOrder) ∧
    (let c : Ctx := { context 1 .waitSlot with cause := some .noSlot }
     c.outcome = .failed ∧ (atK 2 1 .exposing).mounted = some 0 ∧
       ((atK 2 1 .exposing).setExceptions
         (List.replicate 64 ⟨.missedTurn, none, 1, none, none, 0⟩)).account.exceptions.length = 64) ∧
    (let c : Ctx :=
       { context 1 .receiving with results := [⟨1, some 0, some .damagedCrc, 0, false, false, 0, 0⟩] }
     c.outcome = .failed ∧ c.cause = none) ∧
    (let c : Ctx :=
       { context 1 .receiving with cause := some .stop, results := [⟨1, some 0, some .good, 0, false, false, 0, 0⟩] }
     let s := flying .left c (atK 2 1 .exposing)
     let marked := s.changeSide .verso 1 fun r => { r with summary := some ⟨7, .inProgress, some 0, [], 0, true⟩ }
     c.outcome = .complete ∧ ((s.side .verso 1).map (·.summary)) = some none ∧
       ((marked.side .verso 1).bind (·.summary)).map (·.discarded) = some true) := by decide +kernel

/-- A context without an order in each case of the outcome table. -/
theorem witness_OutcomeRows :
    (let r (x : Option Seal) (dim : Bool) : StepResult := ⟨1, none, x, 0, dim, false, 0, 0⟩
     let c (cause : Option EndCause) (rs : List StepResult) (stop : StopRule) : Ctx :=
       { context 1 .receiving with cause := cause, results := rs, copy := { program2 with stop := stop } }
     (c (some .held) [] .never).outcome = .held ∧ (c (some .noSlot) [] .never).outcome = .failed ∧
       (c (some .stop) [r (some .damagedCrc) false] .onDamage).outcome = .failed ∧
       (c (some .partnerEnded) [r none false] .never).outcome = .cancelled ∧
       (c (some .stop) [r (some .good) true] .onDim).outcome = .shortened ∧
       (c (some .partnerEnded) [r (some .good) false] .never).outcome = .shortened ∧
       (c (some .stop) [r (some .good) false] .never).outcome = .complete) ∧
    (context 1 .firing).order = none ∧ (context 1 .firing).cause ≠ some .held := by decide +kernel

theorem witness_CancelByState :
    (State.reset.portFree .V ∧ State.reset.ctx .left = none ∧ (7 : Word) ≠ 0) ∧
    (∀ x ∈ [CtxState.firing, .receiving, .waitSettle, .waitPartner, .waitSlot, .waitLight, .awaitFrame],
      let s := flying .left (context 1 x) (atK 2 1 .exposing)
      s.portFree .V ∧ s.ctx .left = some (context 1 x) ∧ (7 : Word).toNat = (context 1 x).id ∧
        (6 : Word).toNat ≠ (context 1 x).id ∧ (context 1 x).order = none ∧ (context 1 x).report = none) ∧
    ({ context 1 .receiving with report := some (0, .good) } : Ctx).report ≠ none ∧
    ({ context 1 .firing with order := some .cancelled } : Ctx).order ≠ none := by decide +kernel

theorem witness_CommitStep :
    (State.reset.ctx .left = none) ∧
    (let c : Ctx := { context 1 .receiving with report := some (0, .good), results := [⟨1, none, none, 0, false, false, 0, 0⟩] }
     let s := (flying .left c (atK 2 1 .exposing)).setSlot 0 { sealedSlot 2 with committed := false }
     s.ctx .left = some c ∧ c.state = .receiving ∧ c.report = some (0, .good) ∧ (s.slot 0).deferred = none ∧
       c.order = none ∧ c.cause = none ∧ c.linked = false ∧ (s.side .verso 1).isSome = true ∧ c.stops = true) ∧
    ({ context 1 .receiving with copy := program2 } : Ctx).stops = false ∧
    ({ sealedSlot 2 with deferred := some true } : Slot).deferred ≠ none ∧
    (let c : Ctx := { context 1 .receiving with report := some (0, .good), linked := true, copy := program2 }
     let d : Ctx := { context 2 .waitPartner with linked := true, copy := program2 }
     let s := flying .right d (flying .left c (atK 2 1 .exposing))
     s.ctx .right = some d ∧ d.state = .waitPartner ∧ d.stops = false ∧ c.linked = true) ∧
    (let c : Ctx := { context 1 .receiving with report := some (0, .good), linked := true, copy := program2 }
     let d : Ctx :=
       { context 2 .waitPartner with
         linked := true, copy := program2, results := [⟨1, some 1, some .good, 200, true, false, 0, 0⟩] }
     let s := flying .right d (flying .left c (atK 2 1 .exposing))
     s.ctx .left = some c ∧ s.ctx .right = some d ∧ d.state = .waitPartner ∧ d.stops = true ∧
       (s.slot 0).deferred = none ∧ (s.side .verso 1).isSome = true ∧ (s.side .recto 2).isSome = true) ∧
    (flying .left (context 1 .receiving) (atK 2 1 .exposing)).ctxIn .right .waitPartner = false ∧
    ({ context 1 .receiving with order := some .cancelled } : Ctx).order ≠ none ∧
    ({ context 1 .receiving with cause := some .partnerEnded } : Ctx).cause = some .partnerEnded := by decide +kernel

/-- A commit whose slot carries a release, with each discard flag, evaluated at the commit or held by the queue; the side
with an earlier summary of this capture; a slot drained in full, and a frame that is not GOOD. -/
theorem witness_CommitStep_deferred :
    (∀ d ∈ [false, true],
      let c : Ctx :=
        { context 1 .receiving with report := some (0, .good), results := [⟨1, none, none, 0, false, false, 0, 0⟩] }
      let x : Slot := { sealedSlot 2 with committed := false, deferred := some d }
      let s := (flying .left c (atK 2 1 .exposing)).setSlot 0 x
      let q : State := { s with drain := { s.drain with queue := [⟨0, 0, 2, false⟩] } }
      s.ctx .left = some c ∧ c.state = .receiving ∧ c.report = some (0, .good) ∧ (s.slot 0).deferred = some d ∧
        (s.slot 0).state = .sealed ∧ s.queued 0 = false ∧ q.queued 0 = true ∧ s.capture.waitOrder = [] ∧
        (s.slot 0).drainedFully = false ∧ (s.slot 0).sealStatus = some .good ∧ s.mounted = some 0 ∧
        (s.slot 0).volume = s.mounted ∧ (s.slot 0).side = some (.left, 1) ∧ (s.slot 0).captureId = some c.id ∧
        (s.side .verso 1).map (·.state) = some .capturing) ∧
    ({ sealedSlot 2 with drainedFully := true } : Slot).drainedFully = true ∧
    ({ sealedSlot 2 with sealStatus := some .damagedCrc } : Slot).sealStatus ≠ some .good := by decide +kernel

theorem witness_CaptureLimits :
    State.reset.ctx .left = none ∧
    (let c : Ctx := { context 1 .awaitFrame with frameTimer := some 0 }
     (flying .left c (atK 2 1 .exposing)).ctx .left = some c ∧ c.state = .awaitFrame ∧ c.frameTimer ≠ none ∧
       c.partnerTimer = none ∧ c.slotTimer = none ∧ c.state ≠ .waitSlot) ∧
    (let c : Ctx := { context 1 .waitPartner with partnerTimer := some 0 }
     (flying .left c (atK 2 1 .exposing)).ctx .left = some c ∧ c.state = .waitPartner ∧ c.partnerTimer ≠ none ∧
       c.frameTimer = none) ∧
    (let c : Ctx := { context 1 .waitSlot with slotTimer := some 0 }
     (flying .left c (atK 2 1 .exposing)).ctx .left = some c ∧ c.slotTimer ≠ none ∧ c.linked = false ∧
       c.state = .waitSlot) ∧
    (let c : Ctx := { context 1 .waitSlot with slotTimer := some 0, linked := true }
     let d : Ctx := { context 2 .waitLight with linked := true }
     let s := flying .right d (flying .left c (atK 2 1 .exposing))
     s.ctx .left = some c ∧ s.ctx .right = some d ∧ c.slotTimer ≠ none ∧ c.linked = true) := by decide +kernel

/-- The slot wait limit of a pair: the right member without a slot and the left one holding slot 0; both without one; 62
and 63 records in the list. -/
theorem witness_CaptureLimits_pair :
    (let a : Ctx := { context 1 .waitLight with linked := true, slotTimer := some 0 }
     let b : Ctx := { context 2 .waitSlot with linked := true, slotTimer := some 0, slot := none }
     let s := (flying .right b (flying .left a (atK 2 1 .exposing))).setSlot 0 (openSlot 1)
     s.ctx .left = some a ∧ s.ctx .right = some b ∧ a.slotTimer ≠ none ∧ a.linked = true ∧ a.slot = some 0 ∧
       (s.slot 0).state = .open' ∧ a.state ≠ .waitSlot ∧ b.state = .waitSlot ∧ a.order = none ∧ b.order = none ∧
       a.results = [] ∧ (s.side .verso 1).isSome = true ∧ (s.side .recto 2).isSome = true ∧ s.mounted = some 0 ∧
       s.account.exceptions.length < 64) ∧
    (let a : Ctx := { context 1 .waitSlot with linked := true, slotTimer := some 0, slot := none }
     let b : Ctx := { context 2 .waitSlot with linked := true, slotTimer := some 0, slot := none }
     let s := flying .right b (flying .left a (atK 2 1 .exposing))
     s.ctx .left = some a ∧ s.ctx .right = some b ∧ a.state = .waitSlot ∧ b.state = .waitSlot) ∧
    (∀ n ∈ [62, 63],
      ((atK 2 1 .exposing).setExceptions
        (List.replicate n ⟨.missedTurn, none, 1, none, none, 0⟩)).account.exceptions.length = n) := by decide +kernel

/-- The fields of LAMP_SET and PROGRAM_SET at and beyond the ends of their ranges, and the lamp states they meet. -/
theorem witness_LightWrites :
    State.reset.portFree .S ∧ (8 ≤ (8 : Byte).toNat ∧ (7 : Byte).toNat = (7 : Fin 8).val) ∧
    (2 ≤ (2 : Byte).toNat ∧ (1 : Byte).toNat < 2 ∧ (7 : Byte).toNat < 8 ∧ (1 : Word) ≠ 0 ∧ (1 : Byte) ≠ 0) ∧
    (inFlash .pending .pending none).lamp 0 ≠ Lamp.reset ∧ ((inFlash .pending .pending none).lamp 0).state = .firing ∧
    (atK 2 1 .parked).opening.state = .parked ∧ State.reset.light.held = [] ∧
    ((Instr.programSetWrite .S 15 1 3 8 (List.replicate 8 ⟨1, 1, 1⟩)).wellFormed = true ∧
      (15 : Byte).toNat = (15 : Fin 16).val ∧ (1 : Byte) = b1 Mode.paired.code ∧ (3 : Byte) = b1 StopRule.onEither.code ∧
      (8 : Byte).toNat ≤ 8) ∧
    ((Instr.programSetWrite .S 16 2 4 9 (List.replicate 8 ⟨1, 1, 1⟩)).wellFormed = true ∧ 16 ≤ (16 : Byte).toNat ∧ 4 ≤ (4 : Byte).toNat ∧
      8 < (9 : Byte).toNat) := by decide +kernel

theorem witness_DoseQuery :
    (∀ x ∈ openings, (atK 2 1 x).portFree .S ∧ (atK 2 1 x).opening.state = x) ∧
    (16 ≤ (16 : Byte).toNat ∧ 8 < (9 : Byte).toNat ∧ (8 : Byte).toNat ≤ 8 ∧ (8 : Byte) ≠ 0) ∧
    ((atK 2 1 .ready).program 0).steps = [] ∧
    (let s := lit (atK 2 1 .ready)
     (s.program 0).steps ≠ [] ∧ (s.program 0).steps.length < (2 : Byte).toNat ∧
       (s.program 0).stepAt (1 : Byte).toNat = some ⟨3, 200, 8000⟩ ∧ lampsOf 3 = [0, 1] ∧ lampsOf 0 = [] ∧
       (∀ n ∈ lampsOf 3, (s.lamp n).state ≠ .absent ∧ (s.lamp n).state ≠ .faulted) ∧
       ((lampsOf 0x84).any fun n => decide ((s.lamp n).state = .absent)) = true) := by decide +kernel

/-- The worked cases: a duration at both ends of its range, a level that fits, dimmed ones and a held one. -/
theorem witness_DoseCheck :
    (∀ t ∈ [100, 20000], let i := { caseInput 100000 1 1 200 with stored := t }
      100 ≤ i.stored ∧ i.stored ≤ i.bound) ∧
    (let i := { caseInput 100000 1 1 200 with stored := 99 }
     i.stored < 100) ∧
    (let i := { caseInput 100000 1 1 200 with stored := 20001 }
     100 ≤ i.stored ∧ i.bound < i.stored) ∧
    ((caseInput 1000000 1000000 1000000 200).fits 200 = true ∧ (caseInput 1 1 1 1).lamps ≠ [] ∧
      (∀ e ∈ (caseInput 1 1 1 1).lamps, e.maxDuration ≤ 200000) ∧ (caseInput 1 1 1 1).left ≠ none) ∧
    (let i := caseInput 100000 1000000 1000000 200
     i.fits i.level = false ∧ i.floor ≤ 152 ∧ 152 < i.level ∧ i.fits 152 = true ∧ i.fits 153 = false) ∧
    (let i := caseInput 5000 1000000 1000000 200
     i.fits i.level = false ∧ i.fits i.floor = false ∧ i.left = some 5000 ∧ 5000 < i.dLeft 40) ∧
    (let i := caseInput 1000000 100 1000000 200
     i.dLeft 200 ≤ 1000000 ∧ 100 < i.dRight 200) ∧
    ((atK 3 1 .ready).mounted = some 0 ∧ (atK 3 1 .ready).presentLeaf .left = some 1 ∧
      leafAt (atK 3 1 .ready).account.leaves 1 = some .fresh ∧ (atK 3 0 .ready).presentLeaf .left = none) := by
  decide +kernel

theorem witness_ChargeWithinFit :
    (let s := lit (atK 3 1 .exposing)
     let r : LightRequest := ⟨.left, some 7, none, 1, 0x03⟩
     let i := s.doseInput r.mask 200 8000
     let f := s.flashRecord r i 152 true
     let lamps := f.lamps.map fun x => { x with confirm := Confirm.confirmed }
     i.fits 152 = true ∧ lamps.map (fun x => { x with confirm := .pending }) = f.lamps ∧ f.leftLeaf = some 1 ∧
       f.rightLeaf = some 2 ∧ s.mounted = some 0) := by decide +kernel

/-- The one request held at a gap's expiry, fitting, dimmed, held, and with a lamp ABSENT. -/
theorem witness_LightGrant :
    (let r : LightRequest := ⟨.left, some 7, none, 1, 0x03⟩
     let s0 := (flying .left (context 1 .waitLight) (lit (atK 3 1 .exposing))).setHeld [r]
     let s : State := { s0 with light := { s0.light with gap := some 0 } }
     let cap (n : Nat) := s.setVolume 0 { book .mounted 3 with leafCap := n }
     let dark := s.setLamp 1 .reset
     s.light.gap ≠ none ∧ s.light.flash = none ∧ s.light.held = [r] ∧ s.eligible r = true ∧
       s.ctx r.served.leader = some (context 1 .waitLight) ∧
       (context 1 .waitLight).copy.stepAt (context 1 .waitLight).step = some ⟨3, 200, 8000⟩ ∧
       (∀ n ∈ lampsOf r.mask, (s.lamp n).state = .charged) ∧
       (s.doseInput r.mask 200 8000).check = .dimmed 152 ∧
       ((cap 1000000).doseInput r.mask 200 8000).check = .fits 200 ∧
       ((cap 5000).doseInput r.mask 200 8000).check = .held (some .leafLeft) ∧ dark.eligible r = true ∧
       (dark.lamp 1).state = .absent ∧ (context 1 .waitLight).order = none ∧ (context 1 .waitLight).slot = some 0 ∧
       ((s.setSlot 0 (openSlot 1)).slot 0).state = .open' ∧ s.capture.waitOrder = [] ∧ s.mounted ≠ none ∧
       s.account.exceptions.length < 63 ∧ (s.side .verso 1).isSome = true) ∧
    State.reset.light.gap = none ∧ State.reset.light.held.filter State.reset.eligible = [] ∧
    (let s := (lit .reset).setLamp 0 { (lit .reset).lamp 0 with state := .charging, recharge := some 0 }
     (s.lamp 0).state = .charging ∧ (s.lamp 0).recharge ≠ none ∧ s.light.held.filter s.eligible = []) ∧
    (let l : LightRequest := ⟨.left, some 7, none, 1, 0x03⟩
     let r : LightRequest := ⟨.right, none, some 7, 1, 0x03⟩
     let c : Ctx := { context 2 .waitLight with slot := some 1 }
     let s0 := (flying .right c (flying .left (context 1 .waitLight) (lit (atK 3 1 .exposing)))).setHeld [l, r]
     ∀ last ∈ [Half.left, Half.right],
       let s : State := { s0 with light := { s0.light with gap := some 0, lastServed := last } }
       let x := if last = .left then r else l
       let y := if last = .left then l else r
       s.light.gap ≠ none ∧ s.light.flash = none ∧ s.eligible l = true ∧ s.eligible r = true ∧
         (s.light.held.filter s.eligible).filter (fun z => decide (z ≠ x)) = [y] ∧
         y.served = (if s.light.lastServed = .left then .left else .right) ∧
         x.served = (if s.light.lastServed = .left then .right else .left) ∧ (s.ctx x.served.leader).isSome = true) := by
  decide +kernel

/-- R57, R63, R86: at a grant that no level fits the capture ends HELD with the limiting cap, its slot FREE; with a lamp
ABSENT it ends FAILED with LAMP_UNAVAILABLE. -/
theorem test_lightGrant_fails :
    let r : LightRequest := ⟨.left, some 7, none, 1, 0x03⟩
    let s0 := ((flying .left (context 1 .waitLight) (lit (atK 3 1 .exposing))).setSlot 0 (openSlot 1)).setHeld [r]
    let s : State := { s0 with light := { s0.light with gap := some 0 } }
    let view (t : State) :=
      ((t.side .verso 1).map (·.state), t.account.exceptions.map fun x => (x.kind, x.extra), (t.slot 0).state)
    got .interFlashGapExpiry (s.setVolume 0 { book .mounted 3 with leafCap := 5000 }) view =
        some (some .held, [(.doseHeld, 1)], .free) ∧
      got .interFlashGapExpiry (s.setLamp 1 .reset) view =
        some (some .wanted, [(.lampUnavailable, 0)], .free) := by decide +kernel

theorem witness_FlashRuns :
    State.reset.light.flash = none ∧
    (let s := inFlash .pending .pending (some 50)
     s.light.flash = some (flashB .pending .pending (some 50)) ∧ (flashB .pending .pending (some 50)).window ≠ none ∧
       (s.lamp 0).state = .firing ∧ s.opening.state = .exposing) ∧
    (∀ x ∈ (flashB .confirmed .confirmed (some 0)).lamps, x.confirm ≠ .pending) ∧
    (∀ x ∈ [OpeningState.idle, .parked, .fault],
      ((inFlash .pending .pending (some 0)).setOpening { (atK 3 1 x).opening with state := x }).opening.state = x) ∧
    (let s := inFlash .confirmed .missed none
     s.light.flash = some (flashB .confirmed .missed none) ∧ (flashB .confirmed .missed none).window = none ∧
       s.mounted = some 0 ∧ (leafAt s.account.leaves 1).isSome = true ∧ s.ctx .left = some (context 1 .firing) ∧
       (context 1 .firing).order = none ∧ s.ctx .right = none ∧
       (flashB .confirmed .missed none).served.serves .left = true) ∧
    (let c : Ctx := { context 1 .firing with order := some .cancelled }
     let s := (inFlash .confirmed .confirmed none).setCtx .left (some c)
     s.light.flash = some (flashB .confirmed .confirmed none) ∧ s.ctx .left = some c ∧ (s.slot 0).state = .open' ∧
       c.slot = some 0 ∧ s.capture.waitOrder = [] ∧ (s.side .verso 1).isSome = true) ∧
    (let c : Ctx := { context 1 .firing with order := some .cancelled, linked := true }
     let d : Ctx := { context 2 .firing with linked := true, slot := some 1 }
     let s0 := flying .right d (flying .left c (lit (atK 3 1 .exposing)))
     let f : Flash := { flashB .confirmed .confirmed none with served := .pair, rightId := some 7 }
     let s : State := { s0 with light := { s0.light with flash := some f } }
     s.light.flash = some f ∧ f.served.serves .left = true ∧ s.ctx .left = some c ∧ s.ctx .right = some d ∧
       c.linked = true ∧ d.order = none ∧ d.state = .firing ∧ s.capture.waitOrder = []) := by decide +kernel

/-- Headers of capture 7: the wrong side, another step, a width of 8193, 8192 by 4097 and 8192 by 4096 words. -/
theorem witness_HeaderWords :
    (State.reset.rx .left).state = .hunt ∧
    (let s := State.reset.setRx .left { Receiver.reset with state := .header, header := List.replicate 6 0 }
     (s.rx .left).state = .header ∧ (s.rx .left).header.length < 7) ∧
    (let s := ((flying .left (context 1 .awaitFrame) (atK 2 1 .exposing)).setSlot 0 (openSlot 1)).setRx .left
       { Receiver.reset with state := .header, header := header }
     (s.rx .left).state = .header ∧ (s.rx .left).header.length = 7 ∧ s.ctx .left = some (context 1 .awaitFrame) ∧
       (context 1 .awaitFrame).state = .awaitFrame ∧ (context 1 .awaitFrame).slot = some 0) ∧
    State.reset.ctx .left = none ∧ ((0x0101 : Word).toNat / 256 ≠ halfCode .left) ∧ ((0x0002 : Word).toNat % 256 ≠ 1) ∧
    (8192 < (8193 : Word).toNat ∧ (8192 : Word).toNat ≤ 8192 ∧ 33554432 < 8192 * (4097 : Word).toNat ∧
      8192 * (4096 : Word).toNat ≤ 33554432) ∧
    ({ context 1 .awaitFrame with slot := none } : Ctx).slot = none := by decide +kernel

/-- A FIFO with 2047 and 2048 words, and the words of a trailer. -/
theorem witness_PayloadAndTrailer :
    (let s := receiving .payload (atK 2 1 .exposing)
     (s.rx .left).state = .payload ∧ (s.rx .left).fifo.length < 2048 ∧ (s.rx .left).slot = some 0 ∧
       (s.rx .left).limit ≠ none) ∧
    (let r : Receiver := { Receiver.reset with state := .payload, fifo := List.replicate 2047 0 }
     r.fifo.length < 2048 ∧ r.fifo ≠ [] ∧ 2048 ≤ (r.fifo ++ [0]).length) ∧
    (let s := receiving .trailer (atK 2 1 .exposing)
     (s.rx .left).state = .trailer ∧ (s.rx .left).marker = false ∧ (s.rx .left).crcHigh = none) ∧
    (let r : Receiver := { Receiver.reset with state := .trailer, marker := true, crcHigh := some 0xFFFF, crc := some 0 }
     r.marker = true ∧ r.crcHigh = some 0xFFFF ∧ r.crc.map (~~~ ·) = some 0xFFFFFFFF) ∧
    State.reset.memory.burst = none ∧ (State.reset.rx .left).limit = none ∧ (0x0FA6 : Word) ≠ 0x0FA5 := by
  decide +kernel

theorem witness_FrameSeals :
    (let s0 := receiving .sealing (atK 2 1 .exposing)
     let s := s0.setRx .left { s0.rx .left with result := some .good }
     (s.rx .left).state = .sealing ∧ (s.rx .left).result = some .good ∧ (s.rx .left).fifo = [] ∧
       s.pixelBurst .left = false ∧ (s.rx .left).slot = some 0 ∧ s.ctx .left = some (context 1 .receiving) ∧
       (context 1 .receiving).state = .receiving ∧
       (s.setBurst (some (.pixel .left [1]))).pixelBurst .left = true) := by decide +kernel

/-- Each requester in turn: refresh at 8 owed, the two pixel links, the engine, the drain, refresh at 1, nobody. -/
theorem witness_MemoryArbiter :
    (let m (owed : Nat) : State := { State.reset with memory := { FrameMemory.reset with owed := owed } }
     (m 8).memory.burst = none ∧ (m 8).memory.mode ≠ .retention ∧ 8 ≤ (m 8).memory.owed ∧ (m 7).memory.owed < 8 ∧
       (m 7).memory.refreshTimer ≠ none ∧ (m 0).memory.owed = 0 ∧ 1 ≤ (m 1).memory.owed) ∧
    ((State.reset.setRx .left { Receiver.reset with fifo := [1] }).rx .left).fifo ≠ [] ∧
    ((State.reset.setRx .right { Receiver.reset with fifo := [1] }).rx .left).fifo = [] ∧
    ((State.reset.setRx .right { Receiver.reset with fifo := [1] }).rx .right).fifo ≠ [] ∧
    (let e : Engine := { state := .saving, slot := some 0, length := 64, left := 1, abandoned := false }
     e.state ≠ .idle ∧ e.abandoned = false ∧ 0 < e.left) ∧
    (let a : ActiveDrain := ⟨⟨0, 0, 64, false⟩, 0, 64, 0, 64, none, none⟩
     (State.reset.setActive (some a)).drain.active = some a ∧ a.ordered = none ∧ 0 < a.unread ∧
       (List.replicate 64 (0 : Word)).length + min 64 a.unread ≤ 128) ∧
    (State.reset.setBurst (some .refresh)).memory.burst = some .refresh ∧
    (atK 2 1 .ready).memory.burst ≠ some .refresh ∧
    (State.reset.enterRetention).memory.refreshTimer = none ∧ State.reset.enterRetention.memory.mode = .retention := by
  decide +kernel

theorem witness_BurstCompletion :
    State.reset.memory.burst = none ∧
    (let s := (receiving .payload (atK 2 1 .exposing)).setBurst (some (.pixel .left [0x1234]))
     s.memory.burst = some (.pixel .left [0x1234]) ∧ (s.rx .left).slot = some 0 ∧ Memory.wf s.mem = true) ∧
    (∀ n ∈ [1, 60], let s := moving .saving .suspending 60 60 (atK 1 1 .idle)
      (s.setBurst (some (.engine n false))).memory.burst = some (.engine n false) ∧
        s.memory.engine.slot = some 1 ∧ s.moving = some 0 ∧ s.memory.engine.state = .saving ∧
        s.memory.engine.left = 60) ∧
    (let s := moving .saving .suspending 60 60 (atK 1 1 .idle)
     (s.volume 0).saveSlot = some 1 ∧ (s.slot 1).image = some 60 ∧ (s.link .S).notices.length < 31) ∧
    (let s := moving .restoring .resuming 60 60 (atK 1 1 .idle)
     s.memory.engine.slot = some 1 ∧ s.moving = some 0 ∧ s.memory.engine.state = .restoring ∧ s.memory.engine.left ≤ 60 ∧
       s.capture.waitOrder = [] ∧ s.opening.state ≠ .parked ∧ (s.volume 0).settle ≠ 0 ∧ (1 : Nat) < 60) ∧
    (let s := (State.reset.setEngine { Engine.idle with state := .saving, abandoned := true }).setBurst
       (some (.engine 64 true))
     s.memory.burst = some (.engine 64 true) ∧ s.memory.engine.abandoned = true) ∧
    (let a : ActiveDrain := ⟨⟨0, 0, 2, false⟩, 0, 2, 0, 2, none, none⟩
     let s := (State.reset.setActive (some a)).setBurst (some (.drain 2))
     s.memory.burst = some (.drain 2) ∧ s.drain.active = some a ∧ a.ordered = none ∧
       ({ a with ordered := some .stopped } : ActiveDrain).ordered ≠ none ∧ s.drain.queue = []) := by decide +kernel

/-- The last burst of an abandoned save still runs, and a new save has begun. -/
theorem witness_BurstCompletion_stale :
    let s := (moving .saving .suspending 60 60 (atK 1 1 .idle)).setBurst (some (.engine 60 true))
    s.memory.burst = some (.engine 60 true) ∧ s.memory.engine.abandoned = false ∧
      s.memory.engine.state = .saving := by decide +kernel

theorem witness_DrainRequests :
    State.reset.portFree .S ∧ (8 ≤ (8 : Byte).toNat ∧ 2 ≤ (2 : Byte).toNat ∧ (7 : Byte).toNat = (7 : Fin 8).val) ∧
    (State.reset.slot 0).state ≠ .sealed ∧
    (let s := State.reset.setSlot 0 (sealedSlot 2)
     s.portFree .S ∧ (s.slot 0).state = .sealed ∧ s.drains 0 = false ∧ s.queued 0 = false ∧
       ¬4 ≤ s.drain.queue.length + (if s.drain.active.isSome then 1 else 0) ∧ (s.slot 0).words ≤ (2 : BitVec 32).toNat ∧
       (1 : BitVec 32).toNat < (s.slot 0).words ∧ s.drain.active = none ∧ s.memory.mode = .active) ∧
    (let s : State := { State.reset with drain := { Drain.reset with queue := List.replicate 4 ⟨1, 0, 1, false⟩ } }
     4 ≤ s.drain.queue.length + (if s.drain.active.isSome then 1 else 0) ∧ s.queued 1 = true ∧ s.drains 1 = false ∧
       s.drain.queue.find? (fun y => decide (y.slot = 1)) = some ⟨1, 0, 1, false⟩ ∧ (s.slot 1).deferred = none) ∧
    (let s := draining 1 .reset
     s.drain.active.isSome = true ∧ s.drains 0 = true ∧ s.drainBurst = false ∧
       (s.setBurst (some (.drain 1))).drainBurst = true) := by decide +kernel

/-- Slot 0 of the volume MOUNTED in the drain queue, with a release deferred, the side of its frame in a state. -/
def queuedRelease (d : Bool) (st : SideState) : State :=
  let s := ((atK 2 1 .ready).setSlot 0 { sealedSlot 2 with deferred := some d }).changeSide .verso 1 fun r =>
    { r with state := st, summary := some ⟨7, .complete, some 0, [], 0, false⟩ }
  { s with drain := { s.drain with queue := [⟨0, 0, 2, false⟩] } }

/-- A queue entry whose slot carries a release: its frame committed or not, drained in full or not, GOOD or not, its
volume MOUNTED or not, its side CAPTURED, CAPTURING and neither. -/
theorem witness_DrainRequests_deferred :
    (∀ d ∈ [false, true], ∀ st ∈ [SideState.captured, .capturing, .exempt],
      let s := queuedRelease d st
      s.portFree .S ∧ s.drains 0 = false ∧
        s.drain.queue.find? (fun y => decide (y.slot = 0)) = some ⟨0, 0, 2, false⟩ ∧
        s.slot 0 = { sealedSlot 2 with deferred := some d } ∧ s.mounted = some 0 ∧
        (s.side .verso 1).map (·.state) = some st ∧
        ((s.side .verso 1).bind (·.summary)).map (·.captureId) = some 7 ∧
        s.capture.waitOrder = [] ∧ s.account.exceptions.length < 64) ∧
    ((sealedSlot 2).committed = true ∧ (sealedSlot 2).drainedFully = false ∧
      (sealedSlot 2).sealStatus = some .good ∧ (sealedSlot 2).volume = some 0 ∧
      (sealedSlot 2).side = some (.left, 1) ∧ (sealedSlot 2).captureId = some 7) ∧
    ({ sealedSlot 2 with committed := false, deferred := some true } : Slot).committed = false ∧
    ({ sealedSlot 2 with drainedFully := true } : Slot).drainedFully = true ∧
    ({ sealedSlot 2 with sealStatus := some .damagedCrc } : Slot).sealStatus ≠ some .good ∧
    State.reset.mounted = none := by decide +kernel

/-- R138, R142, R143: the entry leaves, DRAIN_DONE reports the release, the side is RESHOOT and the slot FREE; without
discard the release is dropped. -/
theorem test_drainStop_release :
    got (.drainStop .S 0) (queuedRelease true .captured)
        (fun t => ((t.slot 0).state, (t.side .verso 1).map (·.state), t.drain.queue, (t.link .S).notices.head?)) =
      some (.free, some .reshoot, [],
        some (.drainDone 0 (some 0) (some 7) .stopped 0 2 0 false .freedDeferred)) ∧
      got (.drainStop .S 0) (queuedRelease false .captured) (fun t => ((t.slot 0).deferred, (t.link .S).notices)) =
        some (none,
          [.drainDone 0 (some 0) (some 7) .stopped 0 2 0 false .dropped,
            .releaseDropped 0 .undrained false (some .good) false]) := by decide +kernel

theorem witness_Release :
    State.reset.portFree .S ∧ (8 ≤ (8 : Byte).toNat ∧ 2 ≤ (2 : Byte).toNat ∧ (7 : Byte).toNat = (7 : Fin 8).val) ∧
    (∀ x ∈ [SlotState.free, .open', .save, .draining],
      ((atK 2 1 .ready).setSlot 0 { Slot.free with state := x }).portFree .S ∧
        (((atK 2 1 .ready).setSlot 0 { Slot.free with state := x }).slot 0).state = x) ∧
    (let s := sideTo .verso 1 .captured ((atK 2 1 .ready).setSlot 0 (sealedSlot 2))
     (s.slot 0).state = .sealed ∧ s.queued 0 = false ∧ (s.slot 0).committed = true ∧ (s.slot 0).drainedFully = false ∧
       (s.slot 0).sealStatus = some .good ∧ s.mounted = some 0 ∧ (s.slot 0).volume = s.mounted ∧
       (s.slot 0).side = some (.left, 1) ∧ (s.side .verso 1).map (·.state) = some .captured ∧
       s.capture.waitOrder = [] ∧ s.account.exceptions.length < 64) ∧
    (let m : Summary := ⟨7, .inProgress, some 0, [], 0, false⟩
     some m.captureId = (sealedSlot 2).captureId) ∧
    (State.reset.setSlot 0 (sealedSlot 2)).mounted = none ∧
    ({ sealedSlot 2 with sealStatus := some .damagedCrc } : Slot).sealStatus ≠ some .good ∧
    ({ sealedSlot 2 with drainedFully := true } : Slot).drainedFully = true ∧
    ({ sealedSlot 2 with committed := false } : Slot).committed = false := by decide +kernel

theorem witness_DrainLink :
    State.reset.drainValid = false ∧
    (∀ n ∈ [1, 2], let s := draining n .reset
      s.drain.active = some ⟨⟨0, 0, 2, false⟩, 2 - n, n, 2, 0, none, none⟩ ∧
        s.drain.buffer = 0x1234 :: List.replicate (n - 1) 0x1234 ∧ s.drain.readyIn = true ∧
        (s.slot 0).deferred = none ∧ s.drain.queue = []) ∧
    stalling.drain.readyIn = false ∧ (stalling.drain.active.map (·.stall)) = some (some 100) ∧
    stalling.drainBurst = false ∧ (stalling.setBurst (some (.drain 1))).drainBurst = true ∧
    State.reset.drain.active = none := by decide +kernel

/-- A drain that ends, whole or with words left, with another queued or none; its slot committed or not, with a release
deferred or not, its side CAPTURED or CAPTURING by its capture, and its volume MOUNTED or not. -/
theorem witness_DrainLink_ends :
    (let s : State :=
       { draining 0 .reset with drain := { (draining 0 .reset).drain with queue := [⟨1, 0, 1, false⟩] } }
     s.drain.active.isSome = true ∧ s.drain.queue = ⟨1, 0, 1, false⟩ :: [] ∧ s.memory.mode = .active ∧
       s.enterRetention.memory.mode ≠ .active ∧ s.enterRetention.drain.queue = ⟨1, 0, 1, false⟩ :: []) ∧
    (let s := draining 0 .reset
     let x := s.slot 0
     s.drain.active.map (fun a => (a.job.first, a.job.count)) = some (0, x.words) ∧ s.drain.queue = [] ∧
       x.committed = true ∧ x.deferred = none ∧ s.capture.waitOrder = [] ∧ x.sealStatus = some .good ∧
       s.mounted = none) ∧
    (∀ d ∈ [false, true], ∀ st ∈ [SideState.captured, .capturing, .exempt],
      let s0 := (draining 1 (atK 2 1 .ready)).setSlot 0
        { sealedSlot 2 with state := .draining, deferred := some d }
      let s := s0.changeSide .verso 1 fun r =>
        { r with state := st, summary := some ⟨7, .complete, some 0, [], 0, false⟩ }
      (s.slot 0).deferred = some d ∧ (s.slot 0).committed = true ∧ (s.slot 0).drainedFully = false ∧
        s.mounted = some 0 ∧ (s.slot 0).volume = s.mounted ∧ (s.slot 0).side = some (.left, 1) ∧
        (s.side .verso 1).map (·.state) = some st ∧
        ((s.side .verso 1).bind (·.summary)).map (fun m => some m.captureId) = some (s.slot 0).captureId ∧
        s.account.exceptions.length < 64 ∧ s.drain.queue = [] ∧ s.drain.active.isSome = true) ∧
    ({ sealedSlot 2 with committed := false, deferred := some true } : Slot).committed = false ∧
    ({ sealedSlot 2 with sealStatus := some .damagedCrc } : Slot).sealStatus ≠ some .good := by decide +kernel

/-- Marks of 0, 1, 40 and 41 characters, an unprintable one, N of 0, 1, 4096 and 4097, the timings at their ends. -/
theorem witness_Register :
    State.reset.portFree .S ∧ 40 < (List.replicate 41 (0x41 : Byte)).length ∧
    (List.replicate 40 (0x41 : Byte)).length ≤ 40 ∧ ([] : List Byte).length < 1 ∧
    (([0x1F] : List Byte).any fun b => decide (b.toNat < 0x20)) = true ∧ ((4097 : Word).toNat > 4096 ∧
      ¬4096 < (4096 : Word).toNat ∧ (0 : Word).toNat < 1) ∧
    ((State.reset.setVolume 0 (book .pending 1)).volume 0).mark = [0x41] ∧
    (∀ i : Fin 16, (State.reset.volume i).state = .empty) ∧
    (let s : State := { State.reset with account := { Account.reset with volumes := Vector.replicate 16 (book .closed 1) } }
     ∀ i : Fin 16, (s.volume i).state ≠ .empty ∧ (s.volume i).mark ≠ [0x42]) ∧
    (2000 < (2001 : Word).toNat ∧ ¬2000 < (2000 : Word).toNat ∧ ¬30 < (30 : Byte).toNat ∧ 30 < (31 : Byte).toNat ∧
      (499 : Word).toNat < 500 ∧ 10000 < (10001 : Word).toNat) := by decide +kernel

theorem witness_Mount :
    16 ≤ (16 : Byte).toNat ∧ (15 : Byte).toNat = (15 : Fin 16).val ∧
    (State.reset.portFree .S ∧ (atK 2 1 .parked).portFree .S ∧ (atK 2 1 .parked).opening.state = .parked) ∧
    ((atK 2 1 .ready).opening.state ≠ .parked ∧ ((atK 2 1 .ready).volume 0).state.held) ∧
    (let s := State.reset.setVolume 0 (book .pending 2)
     s.portFree .S ∧ s.opening.state ≠ .parked ∧ (∀ j : Fin 16, ¬(s.volume j).state.held) ∧ (s.volume 0).state = .pending ∧
       (s.volume 0).n < (3 : Word).toNat ∧ (2 : Word).toNat ≤ (s.volume 0).n ∧ (s.volume 0).settle ≠ 0 ∧
       (s.volume 1).state ≠ .pending ∧ (s.volume 1).state ≠ .suspended) ∧
    (let s := (State.reset.setVolume 0 { book .suspended 2 with saveSlot := some 1 }).setSlot 1
       { Slot.free with state := .save, image := some 110 }
     s.portFree .S ∧ (∀ j : Fin 16, ¬(s.volume j).state.held) ∧ (s.volume 0).state = .suspended ∧
       (3 : Word) ≠ 0xFFFF ∧ (s.volume 0).saveSlot = some 1 ∧ ((s.slot 1).image).getD 0 = 110 ∧
       s.memory.engine.state = .idle ∧ s.memory.burst = none ∧ s.memory.mode = .active ∧ s.memory.owed < 8 ∧
       (s.rx .left).fifo = [] ∧ (s.rx .right).fifo = []) := by decide +kernel

theorem witness_Suspend :
    (∀ x ∈ openings, (atK 2 1 x).portFree .S ∧ (atK 2 1 x).opening.state = x) ∧
    (moving .saving .suspending 60 60 (atK 1 1 .idle)).moving ≠ none ∧ State.reset.mounted = none ∧
    State.reset.moving = none ∧
    (let s := atK 2 1 .ready
     s.moving = none ∧ s.mounted = some 0 ∧ s.ctx .left = none ∧ s.ctx .right = none ∧ s.claimOf .left = none ∧
       s.claimOf .right = none ∧ (s.slot 0).state = .free) ∧
    (claimed .left 1 (atK 2 1 .ready)).claimOf .left ≠ none ∧
    (∀ x : Fin 8, (((atK 2 1 .ready).mapSlots fun _ => sealedSlot 2).slot x).state ≠ .free) := by decide +kernel

/-- Volume 0 MOUNTED with a capture of its left side that waits for a slot; volume 1 SUSPENDED with its image in slot 1,
and every other slot SEALED. -/
def waitingForImage : State :=
  let s := flying .left { context 1 .waitSlot with slot := none, slotTimer := some 9000 } (atK 2 1 .exposing)
  let s := s.mapSlots fun _ => sealedSlot 2
  let s := (s.setVolume 1 { book .suspended 2 with saveSlot := some 1 }).setSlot 1
    { Slot.free with state := .save, volume := some 1, image := some 110 }
  { s with capture := { s.capture with waitOrder := [.left] } }

/-- CLOSE and CLEAR of an entry whose slot a capture waits for. -/
theorem witness_Close_waiting :
    waitingForImage.portFree .S ∧ (waitingForImage.volume 1).state = .suspended ∧
    (waitingForImage.volume 1).saveSlot = some 1 ∧ waitingForImage.capture.waitOrder = .left :: [] ∧
    (∀ y : Fin 8, y ≠ 1 → (waitingForImage.slot y).state ≠ .free) ∧
    (waitingForImage.ctx .left).map (fun c => (c.state, c.linked)) = some (.waitSlot, false) ∧
    (∀ y : Fin 8, ¬(((waitingForImage.slot y).state = .sealed ∨ (waitingForImage.slot y).state = .draining) ∧
      (waitingForImage.slot y).volume = some 1)) ∧
    waitingForImage.opening.state = .exposing := by decide +kernel

/-- R112, R83, R86: the image's slot is bound to the capture that waits, its light request is granted at the same event,
and with its lamps ABSENT the capture ends LAMP_UNAVAILABLE. -/
theorem test_close_offers :
    got (.close .S 1) waitingForImage (fun t =>
      ((t.volume 1).state, t.ctx .left, t.account.exceptions.map (·.kind), (t.slot 1).state)) =
    some (.closed, none, [.lampUnavailable], .free) := by decide +kernel

theorem witness_Close :
    (∀ x ∈ openings, (atK 2 1 x).portFree .S ∧ (atK 2 1 x).opening.state = x ∧ ((atK 2 1 x).volume 0).state = .mounted) ∧
    16 ≤ (16 : Byte).toNat ∧ (15 : Byte).toNat = (15 : Fin 16).val ∧
    ((atK 2 1 .ready).volume 1).state ≠ .mounted ∧
    (flying .left (context 1 .waitLight) (atK 2 1 .exposing)).ctx .left ≠ none ∧
    (let s := (State.reset.setVolume 0 { book .suspended 2 with saveSlot := some 1 }).setSlot 1
       { Slot.free with state := .save, image := some 110 }
     s.portFree .S ∧ (s.volume 0).state = .suspended ∧ (s.volume 0).saveSlot = some 1 ∧
       s.capture.waitOrder = []) := by decide +kernel

theorem witness_Clear :
    State.reset.portFree .S ∧ 16 ≤ (16 : Byte).toNat ∧ (15 : Byte).toNat = (15 : Fin 16).val ∧
    ((atK 2 1 .ready).volume 0).state = .mounted ∧
    (∀ x ∈ [VolumeState.pending, .closed, .suspended],
      ((State.reset.setVolume 0 (book x 2)).volume 0).state = x ∧
        ∀ i : Fin 8, ((State.reset.setVolume 0 (book x 2)).slot i).state = .free) ∧
    (let s := (State.reset.setVolume 0 (book .closed 2)).setSlot 0 (sealedSlot 2)
     (s.slot 0).state = .sealed ∧ (s.slot 0).volume = some 0) ∧
    (State.reset.setVolume 0 { book .suspended 2 with saveSlot := some 1 }).capture.waitOrder = [] ∧
    ((State.reset.setVolume 0 { book .suspended 2 with saveSlot := some 1 }).volume 0).saveSlot = some 1 := by
  decide +kernel

theorem witness_TimingBudget :
    State.reset.portFree .S ∧ 16 ≤ (16 : Byte).toNat ∧ (15 : Byte).toNat = (15 : Fin 16).val ∧
    (State.reset.volume 0).state = .empty ∧ ((State.reset.setVolume 0 (book .closed 2)).volume 0).state = .closed ∧
    ((atK 2 1 .ready).volume 0).state = .mounted := by decide +kernel

/-- Faces 0, 1 and 2, leaves 0, 1, N and N + 1, reasons 15 and 16, a side in every state. -/
theorem witness_StationMarks :
    (State.reset.portFree .S ∧ State.reset.mounted = none) ∧
    ((atK 2 1 .ready).portFree .S ∧ (atK 2 1 .ready).mounted = some 0) ∧
    (2 ≤ (2 : Byte).toNat ∧ (0 : Byte).toNat = Face.verso.code ∧ (1 : Byte).toNat = Face.recto.code) ∧
    ((atK 2 1 .ready).side .verso (3 : Word).toNat = none ∧ (atK 2 1 .ready).side .verso (0 : Word).toNat = none ∧
      (atK 2 1 .ready).side .recto (2 : Word).toNat = some .fresh) ∧
    (16 ≤ (16 : Byte).toNat ∧ (15 : Byte).toNat < 16) ∧
    (∀ x ∈ [SideState.wanted, .claimed, .capturing, .captured, .reshoot, .exempt, .held],
      ((sideTo .verso 1 x (atK 2 1 .ready)).side .verso 1).map (·.state) = some x) := by decide +kernel

/-- Lists of 63 and 64 records, queues one short of their depth and at it, reads of 0, 1, 4 and 5. -/
theorem witness_ExceptionsAndNotices :
    (atK 2 1 .ready).mounted = some 0 ∧ (atK 2 1 .ready).portFree .S ∧
    (∀ n ∈ [63, 64],
      ((atK 2 1 .ready).setExceptions (List.replicate n ⟨.missedTurn, none, 1, none, none, 0⟩)).account.exceptions.length =
        n) ∧
    (State.reset.portFree .S ∧ State.reset.mounted = none) ∧
    ((0 : Byte).toNat = 0 ∧ 4 < (5 : Byte).toNat ∧ 1 ≤ (1 : Byte).toNat ∧ (4 : Byte).toNat ≤ 4) ∧
    (∀ n ∈ [31, 32],
      ((onLink .S { Link.reset with notices := List.replicate n (.volumeEnd none 0) }).link .S).notices.length = n) ∧
    (∀ n ∈ [7, 8],
      ((onLink .A { Link.reset with notices := List.replicate n (.volumeEnd none 0) }).link .A).notices.length = n) := by
  decide +kernel

/-- A state whose figures agree with its table. -/
theorem accounted_ready : (atK 2 1 .ready).Accounted := by
  intro i hi
  have h0 : (atK 2 1 .ready).mounted = some 0 := by decide +kernel
  obtain rfl : (0 : Fin 16) = i := by simpa [h0] using hi
  exact ⟨by decide +kernel, by decide +kernel, fun x => by cases x <;> decide +kernel⟩

/-- A volume about to be mounted; a state that meets every premise of the step, and a step from it. -/
theorem witness_AccountAgrees :
    (let s := State.reset.setVolume 0 (book .pending 2)
     (∀ j : Fin 16, (s.volume j).state ≠ .mounted) ∧ (s.volume 0).counts = ⟨2 * (s.volume 0).n, 0, 0, 0, 0, 0, 0⟩ ∧
       (s.volume 0).doseUsed = 0) ∧
    (atK 2 1 .ready).Accounted ∧
    (let s := { atK 2 1 .ready with pending := [.reshoot .S 1 0] }
     (∀ i : Fin 16, (s.volume i).state ≠ .pending ∧ (s.volume i).state ≠ .suspending ∧
         (s.volume i).state ≠ .resuming) ∧
       (∀ i : Fin 16, (s.volume i).state ≠ .suspended) ∧ s.memory.engine.state = .idle ∧
       s.light.flash = none ∧ leafAt s.account.leaves 1 = some .fresh ∧ leafAt s.account.leaves 2 = some .fresh ∧
       (match step s with
        | .next t => t.pending.isEmpty
        | _ => false) = true) :=
  ⟨by decide +kernel, accounted_ready, by decide +kernel⟩

/-- The restore of a volume of one leaf at its last burst, its image in slot 1, and a save at its last burst. -/
def restoring : State :=
  let s := moving .restoring .resuming 60 4 .reset
  { s with mem := writeWords [] 1 0 (imageWords (book .suspended 1) [.fresh] []), pending := [.burstCompletion] }

theorem witness_AccountAgrees_transfer :
    (moving .saving .suspending 60 4 .reset).Transferring ∧ restoring.Transferring ∧ restoring.Positioned := by
  have seek : ∀ k ∈ restoring.opening.seek, k ≤ restoring.leaves := by decide +kernel
  have possible : ∀ d ∈ restoring.opening.direction, restoring.turnPossible d = true := by decide +kernel
  have last : ∀ i : Fin 16, ∀ k ∈ (restoring.volume i).lastOpening, k ≤ (restoring.volume i).n := by decide +kernel
  refine ⟨⟨?_, ?_, ?_, ?_, ?_⟩, ⟨?_, ?_, ?_, ?_, ?_⟩,
    ⟨?_, ?_, ?_, ?_, ?_, ?_, ?_, ?_, ?_, fun k h => seek k h, fun d h => possible d h, fun i k h => last i k h⟩⟩ <;>
    decide +kernel

/-- The last burst of that restore: no entry MOUNTED, none PENDING, no flash, and an image that agrees with its entry. -/
theorem witness_AccountAgrees_image :
    (restoring.Accounted ∧ (∀ i : Fin 16, (restoring.volume i).state ≠ .pending ∧
      (restoring.volume i).state ≠ .suspending) ∧ restoring.light.flash = none) ∧
    ((restoring.volume 0).state = .resuming ∧ (restoring.volume 0).saveSlot = some 1 ∧
      restoring.memory.burst = some (.engine 4 false) ∧ restoring.memory.engine.left ≤ 4) ∧
    (let image := readImage (readWords restoring.mem 1 0 restoring.memory.engine.length)
     ({ restoring.volume 0 with counts := image.counts } : Volume).agrees image.leaves) := by
  have none : restoring.mounted = none := by decide +kernel
  exact ⟨⟨fun i h => by simp [none] at h, by decide +kernel⟩, by decide +kernel, by decide +kernel, by decide +kernel,
    fun x => by cases x <;> decide +kernel⟩

theorem witness_RequestRoundTrip :
    (Instr.register .S (List.replicate 40 0x41) 1 0 0 0 0 0).wellFormed = true ∧
    (frameOf (.register .S (List.replicate 40 0x41) 1 0 0 0 0 0)).map (fun x => x.2.body.length) = some 58 ∧
    ((Instr.requestKindUnknown .V 0x33 [0]).wellFormed = true ∧
      frameOf (.requestKindUnknown .V 0x33 [0]) = some (.V, ⟨0x33, [0]⟩)) ∧
    ((⟨0x33, [0]⟩ : Frame).kind ≠ 0xFF ∧ (⟨0x33, [0]⟩ : Frame).body.length ≤ 58) := by decide +kernel

/-- One leaf with a summary of eight steps, and one exception record. -/
theorem witness_ImageRoundTrip :
    Storable (book .mounted 1)
      [{ LeafEntry.fresh with
          dose := 4294967295, verso := { SideRec.fresh with
            reason := some 15, captures := 15,
            summary := some ⟨65535, .complete, some 15, List.replicate 8 ⟨8, some 7, some .good, 255, true, true⟩, 5,
              true⟩ } }]
      [⟨.doseHeld, some (.verso, 4096), 4096, some 65535, some 7, 3⟩] :=
  { size := by decide +kernel
    entries := by simp [LeafEntry.fresh, SideRec.fresh, SideRec.storable, Summary.storable,
      StepSummary.storable]
    records := by simp [Config.exceptionDepth, ExcRecord.storable]
    counts := fun x => by cases x <;> decide +kernel
    lost := by decide +kernel }

theorem witness_BoundedKept : (atK 2 1 .ready).Bounded ∧ (run .settleExpiry (atK 2 1 .ready)).isSome = true := by
  have empty : (atK 2 1 .ready).drainFits := (by decide +kernel : ([] : List Word).length ≤ 128)
  refine ⟨⟨?_, ?_, by decide +kernel, empty, by decide +kernel, by decide +kernel⟩, by decide +kernel⟩
  · intro l
    cases l <;> decide +kernel
  · intro h
    cases h <;> decide +kernel

theorem witness_PoweredKept : (atK 2 1 .ready).Powered :=
  { parked := by decide +kernel
    timer := by decide +kernel
    owed := by decide +kernel
    engine := by decide +kernel }

theorem witness_PositionedKept : (atK 2 1 .turnable).Positioned := by
  have h0 : (atK 2 1 .turnable).opening.seek = none := by decide +kernel
  have h1 : (atK 2 1 .turnable).opening.direction = some .forward := by decide +kernel
  have h2 : ∀ i : Fin 16, ((atK 2 1 .turnable).volume i).lastOpening = none := by decide +kernel
  exact
    { oneHeld := by decide +kernel
      volume := by decide +kernel
      positioned := by decide +kernel
      parkReturn := by decide +kernel
      settle := by decide +kernel
      turn := by decide +kernel
      direction := by decide +kernel
      inRange := by decide +kernel
      suspending := by decide +kernel
      seek := by simp [h0]
      possible := by intro d hd; obtain rfl : Direction.forward = d := by simpa [h1] using hd
                     decide +kernel
      lastOpenings := by simp [h2] }

end Sys2Proof.Tests
end

section
/-! SUPPORT. The steady operations: those that leave the standing of the cradle as it was. The record of the opening
changes by an evaluation alone (R8), each volume entry keeps its state, leaves, last opening and save slot, the memory
keeps its mode, refresh timer and engine, and the request and response buffers of the links and the commands that wait stay. -/

namespace Sys2Proof.Machine

open Sys2Proof

/-- What a volume entry keeps through every event inside an opening: all that R148 and R149 place it by. -/
structure Volume.Standing (v w : Volume) : Prop where
  state : w.state = v.state
  n : w.n = v.n
  lastOpening : w.lastOpening = v.lastOpening
  saveSlot : w.saveSlot = v.saveSlot

/-- A link keeps its request, its answer due and its response (R185). -/
structure Link.SamePort (k k' : Link) : Prop where
  request : k'.request = k.request
  answerDue : k'.answerDue = k.answerDue
  dropAnswer : k'.dropAnswer = k.dropAnswer
  response : k'.response = k.response

/-- The frame memory controller keeps what the standby is read from (R127, R128); refreshes owed are only granted. -/
structure FrameMemory.SameStandby (m m' : FrameMemory) : Prop where
  mode : m'.mode = m.mode
  timer : m'.refreshTimer = m.refreshTimer
  engine : m'.engine = m.engine
  owed : m'.owed ≤ m.owed

/-- An opening record that differs from a settled state's by evaluations alone (R7, R10). -/
structure State.Reevaluated (s : State) (o : Opening) : Prop where
  before : s.opening.state.settled = true
  after : o.state.settled = true
  rest : o = { s.opening with state := o.state, direction := o.direction }
  direction : o.direction.isSome = true ↔ o.state = .turnable
  possible : ∀ d, o.direction = some d → s.turnPossible d = true

/-- A state reached from another by steady operations. -/
structure Steady (s t : State) : Prop where
  opening : t.opening = s.opening ∨ s.Reevaluated t.opening
  volumes : ∀ i, (s.volume i).Standing (t.volume i)
  memory : s.memory.SameStandby t.memory
  ports : ∀ l, (s.link l).SamePort (t.link l)
  pending : t.pending = s.pending

theorem Volume.Standing.refl (v : Volume) : v.Standing v := ⟨rfl, rfl, rfl, rfl⟩

theorem Volume.Standing.trans {u v w : Volume} (h : u.Standing v) (h' : v.Standing w) : u.Standing w :=
  ⟨h'.state.trans h.state, h'.n.trans h.n, h'.lastOpening.trans h.lastOpening, h'.saveSlot.trans h.saveSlot⟩

theorem Link.SamePort.refl (k : Link) : k.SamePort k := ⟨rfl, rfl, rfl, rfl⟩

theorem Link.SamePort.trans {k k' k'' : Link} (h : k.SamePort k') (h' : k'.SamePort k'') : k.SamePort k'' :=
  ⟨h'.request.trans h.request, h'.answerDue.trans h.answerDue, h'.dropAnswer.trans h.dropAnswer,
    h'.response.trans h.response⟩

theorem FrameMemory.SameStandby.refl (m : FrameMemory) : m.SameStandby m := ⟨rfl, rfl, rfl, le_rfl⟩

theorem FrameMemory.SameStandby.trans {m m' m'' : FrameMemory} (h : m.SameStandby m') (h' : m'.SameStandby m'') :
    m.SameStandby m'' :=
  ⟨h'.mode.trans h.mode, h'.timer.trans h.timer, h'.engine.trans h.engine, h'.owed.trans h.owed⟩

namespace Steady

variable {s s0 t u : State}

theorem refl (s : State) : Steady s s := ⟨.inl rfl, fun _ => .refl _, .refl _, fun _ => .refl _, rfl⟩

/-- The opening number, the volume and the rest of the record outside an evaluation stay. -/
theorem opening_rest (h : Steady s t) :
    t.opening = { s.opening with state := t.opening.state, direction := t.opening.direction } := by
  obtain h | h := h.opening
  · rw [h]
  · exact h.rest

theorem opening_volume (h : Steady s t) : t.opening.volume = s.opening.volume := by rw [h.opening_rest]
theorem opening_k (h : Steady s t) : t.opening.k = s.opening.k := by rw [h.opening_rest]
theorem opening_seek (h : Steady s t) : t.opening.seek = s.opening.seek := by rw [h.opening_rest]

theorem leaves (h : Steady s t) : t.leaves = s.leaves := by
  simp only [State.leaves, h.opening_volume]
  split
  · rfl
  · exact (h.volumes _).n

theorem turnPossible (h : Steady s t) (d : Direction) : t.turnPossible d = s.turnPossible d := by
  cases d <;> simp only [State.turnPossible, h.opening_k, h.leaves]

/-- A settled state stays settled, and any other state stays as it is. -/
theorem state_settled (h : Steady s t) :
    t.opening.state = s.opening.state ∨ (s.opening.state.settled = true ∧ t.opening.state.settled = true) := by
  obtain h | h := h.opening
  · exact .inl (by rw [h])
  · exact .inr ⟨h.before, h.after⟩

/-- Outside the settled states the record of the opening stays as it is. -/
theorem opening_eq (h : Steady s t) (hs : s.opening.state.settled = false) : t.opening = s.opening :=
  h.opening.resolve_right fun h' => by simp [h'.before] at hs

theorem trans (h : Steady s t) (h' : Steady t u) : Steady s u where
  opening := by
    obtain e' | r' := h'.opening
    · rw [e']; exact h.opening
    · refine .inr ⟨?_, r'.after, ?_, r'.direction, fun d hd => ?_⟩
      · obtain e | r := h.opening
        · rw [← e]; exact r'.before
        · exact r.before
      · rw [h'.opening_rest, h.opening_rest]
      · rw [← h.turnPossible]; exact r'.possible d hd
  volumes i := (h.volumes i).trans (h'.volumes i)
  memory := h.memory.trans h'.memory
  ports l := (h.ports l).trans (h'.ports l)
  pending := h'.pending.trans h.pending

/-- An operation that keeps the opening record, and the standing of the entries, of the memory and of the links. -/
theorem keep (hs : Steady s0 s) (ho : t.opening = s.opening) (hv : ∀ i, (s.volume i).Standing (t.volume i))
    (hm : s.memory.SameStandby t.memory) (hl : ∀ l, (s.link l).SamePort (t.link l))
    (hp : t.pending = s.pending := by rfl) : Steady s0 t :=
  hs.trans ⟨.inl ho, hv, hm, hl, hp⟩

/-- An operation that keeps the opening record, the volume table, the memory and the links. -/
theorem same (hs : Steady s0 s) (ho : t.opening = s.opening) (ha : t.account.volumes = s.account.volumes)
    (hm : t.memory = s.memory) (hl : t.links = s.links) (hp : t.pending = s.pending := by rfl) : Steady s0 t := by
  refine hs.keep ho (fun i => ?_) (by rw [hm]; exact .refl _) (fun l => ?_) hp
  · simp only [State.volume, ha]; exact .refl _
  · simp only [State.link, hl]; exact .refl _

/-! ### The updates of the state -/

theorem setCtx (hs : Steady s0 s) {h c} : Steady s0 (s.setCtx h c) := hs.same rfl rfl rfl rfl
theorem setClaim (hs : Steady s0 s) {h c} : Steady s0 (s.setClaim h c) := hs.same rfl rfl rfl rfl
theorem setWaitOrder (hs : Steady s0 s) {w} : Steady s0 (s.setWaitOrder w) := hs.same rfl rfl rfl rfl
theorem setLamp (hs : Steady s0 s) {i x} : Steady s0 (s.setLamp i x) := hs.same rfl rfl rfl rfl
theorem setHeld (hs : Steady s0 s) {r} : Steady s0 (s.setHeld r) := hs.same rfl rfl rfl rfl
theorem setProgram (hs : Steady s0 s) {i p} : Steady s0 (s.setProgram i p) := hs.same rfl rfl rfl rfl
theorem mapLamps (hs : Steady s0 s) {f} : Steady s0 (s.mapLamps f) := hs.same rfl rfl rfl rfl
theorem setLeaves (hs : Steady s0 s) {x} : Steady s0 (s.setLeaves x) := hs.same rfl rfl rfl rfl
theorem setExceptions (hs : Steady s0 s) {x} : Steady s0 (s.setExceptions x) := hs.same rfl rfl rfl rfl
theorem setActive (hs : Steady s0 s) {a} : Steady s0 (s.setActive a) := hs.same rfl rfl rfl rfl

/-- An update of the memory that keeps the standby. -/
theorem setMemory (hs : Steady s0 s) {m : FrameMemory} (hm : s.memory.SameStandby m) :
    Steady s0 { s with memory := m } :=
  hs.keep rfl (fun _ => .refl _) hm (fun _ => .refl _)

theorem setRx (hs : Steady s0 s) {h r} : Steady s0 (s.setRx h r) := hs.setMemory ⟨rfl, rfl, rfl, le_rfl⟩
theorem setSlot (hs : Steady s0 s) {i x} : Steady s0 (s.setSlot i x) := hs.setMemory ⟨rfl, rfl, rfl, le_rfl⟩
theorem setBurst (hs : Steady s0 s) {b} : Steady s0 (s.setBurst b) := hs.setMemory ⟨rfl, rfl, rfl, le_rfl⟩
theorem mapSlots (hs : Steady s0 s) {f} : Steady s0 (s.mapSlots f) := hs.setMemory ⟨rfl, rfl, rfl, le_rfl⟩

/-- An update of one entry that keeps its standing. -/
theorem setVolume (hs : Steady s0 s) {i : Fin 16} {v : Volume} (hv : (s.volume i).Standing v) :
    Steady s0 (s.setVolume i v) := by
  refine hs.keep rfl (fun j => ?_) (.refl _) (fun _ => .refl _)
  rw [setVolume_volume]
  split
  · next h => rw [h]; exact hv
  · exact .refl _

theorem notify (hs : Steady s0 s) {l n} : Steady s0 (s.notify l n) := by
  refine hs.keep (by simp) (fun i => ?_) (by simp [FrameMemory.SameStandby.refl]) (fun m => ?_) (by simp)
  · simp only [State.volume, notify_frame]; exact .refl _
  · rw [notify_link]
    split
    · next h => subst h; constructor <;> simp
    · exact .refl _

/-! ### The account unit -/

theorem changeSide (hs : Steady s0 s) {f j g} : Steady s0 (s.changeSide f j g) := by
  unfold State.changeSide
  split
  · exact hs
  · dsimp only
    split
    · exact hs.setLeaves
    · exact hs.setLeaves.setVolume ⟨rfl, rfl, rfl, rfl⟩

theorem addException (hs : Steady s0 s) {x} : Steady s0 (s.addException x) := by
  unfold State.addException
  split
  · exact hs
  · dsimp only
    split
    · apply notify
      exact hs.setExceptions.setVolume ⟨rfl, rfl, rfl, rfl⟩
    · exact hs.setVolume ⟨rfl, rfl, rfl, rfl⟩

theorem addException? (hs : Steady s0 s) {x} : Steady s0 (s.addException? x) := by
  unfold State.addException?
  split
  · exact hs
  · exact hs.addException

theorem charge (hs : Steady s0 s) {a b dl dr} : Steady s0 (s.charge a b dl dr) := by
  unfold State.charge
  dsimp only
  split
  · exact hs.setLeaves
  · exact hs.setLeaves.setVolume ⟨rfl, rfl, rfl, rfl⟩

theorem emptyTables (hs : Steady s0 s) : Steady s0 s.emptyTables := hs.setLeaves.setExceptions

end Steady

/-! ### The evaluation -/

/-- The evaluation gives a settled state (R7). -/
theorem evaluated_settled (s : State) : s.evaluated.settled = true := by
  unfold State.evaluated
  repeat' split
  all_goals rfl

/-- An opening evaluated as TURNABLE can turn in the direction of R6. -/
theorem turnPossible_of_evaluated {s : State} (h : s.evaluated = .turnable) :
    s.turnPossible s.turnDirection = true := by
  unfold State.evaluated at h
  split at h
  · simp at h
  · split at h
    · next hc => simp only [Bool.and_eq_true] at hc; exact hc.2
    · split at h <;> simp at h

/-- The record that an evaluation leaves (R7, R10). -/
def State.evaluatedOpening (s : State) : Opening :=
  { s.opening with
    state := s.evaluated, direction := if s.evaluated = .turnable then some s.turnDirection else none }

/-- An evaluation writes the record and queues at most one notice (R9, R31). -/
theorem takeEvaluated_cases (s : State) :
    s.takeEvaluated = s.setOpening s.evaluatedOpening ∨
      ∃ l n, s.takeEvaluated = (s.setOpening s.evaluatedOpening).notify l n := by
  unfold State.takeEvaluated
  extract_lets st dir entry s1
  split
  · exact .inr ⟨_, _, rfl⟩
  · split
    · exact .inr ⟨_, _, rfl⟩
    · exact .inl rfl

@[simp] theorem takeEvaluated_opening (s : State) : s.takeEvaluated.opening = s.evaluatedOpening := by
  obtain h | ⟨l, n, h⟩ := takeEvaluated_cases s <;> rw [h] <;> simp

/-- The direction of an evaluation is in force exactly in TURNABLE, and possible (R10). -/
theorem takeEvaluated_direction (s : State) :
    (s.takeEvaluated.opening.direction.isSome = true ↔ s.takeEvaluated.opening.state = .turnable) ∧
      ∀ d, s.takeEvaluated.opening.direction = some d → s.turnPossible d = true := by
  rw [takeEvaluated_opening]
  dsimp only [State.evaluatedOpening]
  split
  · next h => simpa [h] using turnPossible_of_evaluated h
  · next h => simpa using h

/-- An evaluation queues notices alone on the links. -/
theorem takeEvaluated_ports (s : State) (l : LinkId) : (s.link l).SamePort (s.takeEvaluated.link l) := by
  obtain h | ⟨m, n, h⟩ := takeEvaluated_cases s
  · rw [h]; exact .refl _
  · rw [h]; exact ((Steady.refl (s.setOpening s.evaluatedOpening)).notify).ports l

namespace Steady

variable {s s0 t u : State}

theorem evaluate (hs : Steady s0 s) : Steady s0 s.evaluate := by
  unfold State.evaluate
  split
  · next h =>
    obtain ⟨hd, hp⟩ := takeEvaluated_direction s
    have hr : s.Reevaluated s.takeEvaluated.opening :=
      { before := h, after := by simp [State.evaluatedOpening, evaluated_settled],
        rest := by simp [State.evaluatedOpening], direction := hd, possible := hp }
    refine hs.trans ⟨.inr hr, fun i => ?_, by simp [FrameMemory.SameStandby.refl], takeEvaluated_ports s, by simp⟩
    simp only [State.volume, takeEvaluated_frame]
    exact .refl _
  · exact hs

theorem evaluateSide (hs : Steady s0 s) {f j} : Steady s0 (s.evaluateSide f j) := by
  unfold State.evaluateSide
  split
  · exact hs.evaluate
  · exact hs

end Steady

end Sys2Proof.Machine
end

section
/-! SUPPORT. The operations of the capture unit, the frame memory controller, the drain unit and the light unit are
steady. -/

namespace Sys2Proof.Machine

open Sys2Proof

namespace Steady

variable {s s0 t u : State}

/-! ### Slots and steps (R55, R56, R112, R113) -/

theorem placeRequest (hs : Steady s0 s) {h} : Steady s0 (s.placeRequest h) := by
  unfold State.placeRequest
  repeat' split
  all_goals first | exact hs | exact hs.setHeld

theorem withdraw (hs : Steady s0 s) {h} : Steady s0 (s.withdraw h) := hs.setHeld

theorem bindSlot (hs : Steady s0 s) {h i} : Steady s0 (s.bindSlot h i) := by
  unfold State.bindSlot
  split
  · exact hs
  · exact hs.setSlot.setCtx

theorem stopSlotLimit (hs : Steady s0 s) {h} : Steady s0 (s.stopSlotLimit h) := by
  unfold State.stopSlotLimit
  split
  · exact hs
  · split
    · split
      · exact hs.setCtx
      · split
        · exact hs
        · exact hs.setCtx.setCtx
    · exact hs.setCtx

theorem offerOnce (hs : Steady s0 s) : Steady s0 s.offerOnce := by
  unfold State.offerOnce
  split
  · exact hs
  · split
    · exact hs
    · exact hs.setWaitOrder.bindSlot.stopSlotLimit.placeRequest

theorem offerSlots (hs : Steady s0 s) : Steady s0 s.offerSlots := hs.offerOnce.offerOnce

theorem freeSlot (hs : Steady s0 s) {i} : Steady s0 (s.freeSlot i) := hs.setSlot.offerSlots

theorem returnSlot (hs : Steady s0 s) {x} : Steady s0 (s.returnSlot x) := by
  unfold State.returnSlot
  split
  · exact hs
  · split
    · exact hs.freeSlot
    · exact hs

theorem bindOrWait (hs : Steady s0 s) {h} : Steady s0 (s.bindOrWait h) := by
  unfold State.bindOrWait
  split
  · exact hs.bindSlot
  · split
    · exact hs
    · exact hs.setCtx.setWaitOrder

theorem startStep (hs : Steady s0 s) {h} : Steady s0 (s.startStep h) := by
  unfold State.startStep
  dsimp only
  split
  · exact hs.bindOrWait.placeRequest
  · exact hs.bindOrWait

theorem sharePairLimit (hs : Steady s0 s) : Steady s0 s.sharePairLimit := by
  unfold State.sharePairLimit
  split
  · split
    · exact hs.setCtx.setCtx
    · exact hs
  · exact hs.placeRequest

theorem startPair (hs : Steady s0 s) : Steady s0 s.startPair := hs.bindOrWait.bindOrWait.sharePairLimit

/-- An operation carried out or not. -/
theorem ite (c : Prop) [Decidable c] (ht : Steady s0 t) (hu : Steady s0 u) : Steady s0 (if c then t else u) := by
  split
  · exact ht
  · exact hu

theorem startWaiting (hs : Steady s0 s) : Steady s0 s.startWaiting := by
  unfold State.startWaiting
  extract_lets l r pair s1
  have h1 : Steady s0 s1 := ite _ hs.startStep hs
  exact ite _ hs.startPair (ite _ h1.startStep h1)

/-! ### Claims and ends (R48 to R50, R62 to R69) -/

theorem endClaim (hs : Steady s0 s) {h e} : Steady s0 (s.endClaim h e) := by
  unfold State.endClaim
  split
  · exact hs
  · exact ite _ hs.changeSide.setClaim.notify hs.changeSide.setClaim

theorem endClaims (hs : Steady s0 s) {e} : Steady s0 (s.endClaims e) := hs.endClaim.endClaim

theorem endOne (hs : Steady s0 s) {h} : Steady s0 (s.endOne h) := by
  unfold State.endOne
  split
  · exact hs
  · exact hs.changeSide.addException?.notify.notify.setCtx.setWaitOrder.withdraw.returnSlot.evaluate

theorem partnerEnded (hs : Steady s0 s) {h} : Steady s0 (s.partnerEnded h) := by
  unfold State.partnerEnded
  split
  · exact hs
  · exact ite _ hs.setCtx.setWaitOrder hs.setCtx

theorem endCapture (hs : Steady s0 s) {h} : Steady s0 (s.endCapture h) := by
  unfold State.endCapture
  split
  · exact hs
  · split
    · dsimp only
      split
      · exact hs.partnerEnded.endOne
      · exact ite _ hs.partnerEnded.endOne.endOne hs.partnerEnded.endOne
    · exact hs.endOne

theorem setCause (hs : Steady s0 s) {h c x} : Steady s0 (s.setCause h c x) := by
  unfold State.setCause
  split
  · exact hs
  · exact hs.setCtx

theorem orderEnd (hs : Steady s0 s) {h o} : Steady s0 (s.orderEnd h o) := by
  unfold State.orderEnd
  split
  · exact hs
  · split
    · exact hs.setCtx
    · exact hs
    · exact hs.setCtx

theorem endIfNow (hs : Steady s0 s) {h} : Steady s0 (s.endIfNow h) := by
  unfold State.endIfNow
  split
  · exact hs
  · exact ite _ hs.endCapture hs

theorem markCancel (hs : Steady s0 s) {h} : Steady s0 (s.markCancel h) := by
  unfold State.markCancel
  split
  · exact hs
  · exact ite _ hs.setRx hs

theorem cancelCtx (hs : Steady s0 s) {h} : Steady s0 (s.cancelCtx h) := hs.markCancel.orderEnd.endIfNow

theorem cancelBoth (hs : Steady s0 s) : Steady s0 s.cancelBoth :=
  hs.markCancel.orderEnd.markCancel.orderEnd.endIfNow.endIfNow

theorem abortBoth (hs : Steady s0 s) : Steady s0 s.abortBoth := hs.orderEnd.orderEnd.endIfNow.endIfNow

theorem notifyFault (hs : Steady s0 s) {c d} : Steady s0 (s.notifyFault c d) := hs.notify.notify.notify.notify

theorem abortOpening (hs : Steady s0 s) : Steady s0 s.abortOpening := hs.cancelBoth.endClaims.evaluate

/-! ### The light unit (R83 to R92) -/

theorem failGrant (hs : Steady s0 s) {v c x} : Steady s0 (s.failGrant v c x) := by
  have unlinked {h : Half} {r : State} (hr : Steady s0 r) : Steady s0
      (match r.ctx h with
       | none => r
       | some c => r.setCtx h (some { c with linked := false })) := by
    split
    · exact hr
    · exact hr.setCtx
  unfold State.failGrant
  split
  · exact hs.setCause.endCapture
  · exact hs.setCause.endCapture
  · exact (unlinked (unlinked hs.setCause).setCause).endOne.endOne

theorem fireCtx (hs : Steady s0 s) {h} : Steady s0 (s.fireCtx h) := by
  unfold State.fireCtx
  split
  · exact hs
  · exact hs.setCtx

/-- A steady operation carried out for each entry of a list. -/
theorem foldl {α : Type} {f : State → α → State} (hf : ∀ r x, Steady s0 r → Steady s0 (f r x)) (xs : List α)
    (hs : Steady s0 s) : Steady s0 (xs.foldl f s) := by
  induction xs generalizing s with
  | nil => exact hs
  | cons x xs ih => exact ih (hf s x hs)

/-- An update of the light unit. -/
theorem setLight (hs : Steady s0 s) {x : Light} : Steady s0 { s with light := x } := hs.same rfl rfl rfl rfl

/-- An update of the drain unit. -/
theorem setDrain (hs : Steady s0 s) {x : Drain} : Steady s0 { s with drain := x } := hs.same rfl rfl rfl rfl

/-- An update of the stacked DRAM. -/
theorem setMem (hs : Steady s0 s) {x : List Host.Cell} : Steady s0 { s with mem := x } := hs.same rfl rfl rfl rfl

/-- An update of the capture unit. -/
theorem setCapture (hs : Steady s0 s) {x : Capture} : Steady s0 { s with capture := x } := hs.same rfl rfl rfl rfl

theorem beginFlash (hs : Steady s0 s) {r i l d} : Steady s0 (s.beginFlash r i l d) := by
  unfold State.beginFlash
  exact foldl (fun _ _ hr => hr.fireCtx) _ (foldl (fun _ _ hr => hr.setLamp) _ hs).setLight

theorem grantRequest (hs : Steady s0 s) {r} : Steady s0 (s.grantRequest r) := by
  unfold State.grantRequest
  dsimp only
  split
  · exact hs.setHeld
  · split
    · exact hs.setHeld.failGrant
    · split
      · exact hs.setHeld.beginFlash
      · exact hs.setHeld.beginFlash
      · exact hs.setHeld.failGrant

theorem lightDecisions (n : Nat) (hs : Steady s0 s) : Steady s0 (lightDecisions n s) := by
  induction n generalizing s with
  | zero => exact hs
  | succ n ih =>
    unfold Machine.lightDecisions
    split
    · split
      · exact hs
      · exact ih hs.grantRequest
    · exact hs

theorem decideLight (hs : Steady s0 s) : Steady s0 s.decideLight := hs.lightDecisions 4

/-! ### The frame memory controller (R124, R126, R127) -/

theorem handReport (hs : Steady s0 s) {h i x} : Steady s0 (s.handReport h i x) := by
  unfold State.handReport
  split
  · exact hs
  · exact ite _ hs.setCtx hs

theorem sealFrame (hs : Steady s0 s) {h x} : Steady s0 (s.sealFrame h x) := by
  unfold State.sealFrame
  dsimp only
  split
  · exact hs.setRx
  · exact hs.setSlot.notify.handReport.setRx

theorem sealIfReady (hs : Steady s0 s) {h} : Steady s0 (s.sealIfReady h) := by
  unfold State.sealIfReady
  split
  · exact ite _ hs.sealFrame hs
  · exact hs

theorem grantRefresh (hs : Steady s0 s) : Steady s0 s.grantRefresh :=
  hs.setMemory ⟨rfl, rfl, rfl, Nat.sub_le _ _⟩

theorem grantBurst (hs : Steady s0 s) {r} : Steady s0 (s.grantBurst r) := by
  unfold State.grantBurst
  split
  · exact hs.grantRefresh
  · exact hs.setRx.setBurst
  · exact hs.setBurst
  · split
    · exact hs
    · exact hs.setBurst
  · exact hs.grantRefresh

theorem decideMemory (hs : Steady s0 s) : Steady s0 s.decideMemory := by
  unfold State.decideMemory
  split
  · split
    · exact hs
    · exact hs.grantBurst
  · exact hs

/-- Both arbiters at the end of an event (R83, R126). -/
theorem arbitrate (hs : Steady s0 s) {r : State} : Steady s0 (r.arbitrate s) := by
  have h1 : Steady s0 (r.decideIfPlaced s) := ite _ hs.decideLight hs
  exact ite _ h1.decideMemory h1

theorem saveWords (hs : Steady s0 s) {n} : Steady s0 (s.saveWords n) := by
  unfold State.saveWords
  dsimp only
  split
  · exact hs.setMem
  · exact hs

/-! ### The drain unit (R135 to R144) -/

theorem activateDrain (hs : Steady s0 s) : Steady s0 s.activateDrain := by
  unfold State.activateDrain
  split
  · split
    · exact hs
    · exact hs.setSlot.setDrain
  · exact hs

theorem discardSide (hs : Steady s0 s) {x} : Steady s0 (s.discardSide x) := by
  unfold State.discardSide
  split
  · exact hs
  · split
    · exact hs
    · exact hs.changeSide
    · exact hs.changeSide.evaluateSide

theorem releaseNow (hs : Steady s0 s) {i d} : Steady s0 (s.releaseNow i d).state := by
  unfold State.releaseNow
  dsimp only
  repeat' split
  · exact hs.freeSlot
  · exact hs
  · exact hs.freeSlot
  · exact hs
  · exact hs.discardSide.freeSlot

theorem evaluateDeferred (hs : Steady s0 s) {i d} : Steady s0 (s.evaluateDeferred i d).state := by
  unfold State.evaluateDeferred
  dsimp only
  split
  · exact hs.releaseNow
  · exact hs.releaseNow.setSlot

theorem notifyDropped (hs : Steady s0 s) {i x d r} : Steady s0 (s.notifyDropped i x d r) := by
  unfold State.notifyDropped
  split
  · exact hs
  · exact hs.notify

theorem runDeferred (hs : Steady s0 s) {i} : Steady s0 (s.runDeferred i) := by
  unfold State.runDeferred
  dsimp only
  split
  · exact hs
  · exact ite _ hs.evaluateDeferred.addException?.notifyDropped hs

theorem drainReleases (hs : Steady s0 s) {j x} : Steady s0 (s.drainReleases j x).state := by
  unfold State.drainReleases
  dsimp only
  split
  · exact hs.freeSlot
  · split
    · exact hs.setSlot
    · split
      · exact hs
      · split
        · exact hs.evaluateDeferred
        · exact hs

theorem drainEnd (hs : Steady s0 s) {x} : Steady s0 (s.drainEnd x) := by
  unfold State.drainEnd
  split
  · exact hs
  · extract_lets job idle s1 x o s2
    have ho : Steady s0 o.state := hs.setDrain.setSlot.drainReleases
    have h2 : Steady s0 s2 := ite _ ho ho.notify
    exact h2.addException?.notifyDropped.activateDrain

theorem orderDrain (hs : Steady s0 s) {x} : Steady s0 (s.orderDrain x) := by
  unfold State.orderDrain
  split
  · exact hs
  · exact ite _ hs.setActive hs.setActive.drainEnd

theorem drainBurstDone (hs : Steady s0 s) {n} : Steady s0 (s.drainBurstDone n) := by
  unfold State.drainBurstDone
  split
  · exact hs
  · dsimp only
    split
    · exact hs.setDrain
    · exact hs.setDrain.drainEnd

end Steady

end Sys2Proof.Machine
end

section
/-! SUPPORT. The commands inside an opening are steady: those of the cameras, the lights, the pixel and drain links, the
memory arbiter and the station marks. -/

namespace Sys2Proof.Machine

open Sys2Proof

namespace Steady

variable {s s0 t u : State}

/-! ### The capture unit -/

theorem testAndSet (hs : Steady s0 s) {h} : Steady s0 (s.testAndSet h).state := by
  unfold State.testAndSet
  split
  · dsimp only
    split
    · exact hs.changeSide.setClaim.evaluate
    · split
      · exact hs.setClaim
      · exact hs
  · exact hs

theorem unclaim (hs : Steady s0 s) {h} : Steady s0 (s.unclaim h).state := by
  unfold State.unclaim
  split
  · exact hs.endClaim.evaluate
  · exact hs

theorem claimExpires (hs : Steady s0 s) {h} : Steady s0 (s.claimExpires h) := by
  unfold State.claimExpires
  split
  · exact hs
  · exact hs.endClaim.evaluate

theorem beginCapture (hs : Steady s0 s) {h c p} : Steady s0 (s.beginCapture h c p) := by
  unfold State.beginCapture
  dsimp only
  split
  · split
    · exact hs.setCtx.setCtx
    · exact Steady.startPair hs.setCtx.setCtx
  · split
    · exact hs.setCtx
    · split
      · exact hs.setCtx
      · exact hs.setCtx.startStep

theorem tryCapture (hs : Steady s0 s) {h i} : Steady s0 (s.tryCapture h i).state := by
  unfold State.tryCapture
  dsimp only
  split
  · repeat' split
    all_goals first | exact hs | exact (hs.changeSide.setClaim.setCapture.beginCapture).evaluate
  · exact hs

theorem cancel (hs : Steady s0 s) {h n} : Steady s0 (s.cancel h n).state := by
  unfold State.cancel
  split
  · split
    · exact hs
    · exact hs
  · split
    · exact hs
    · exact hs.cancelCtx

theorem commitStep (hs : Steady s0 s) {h c i x} : Steady s0 (s.commitStep h c i x) :=
  hs.setCtx.changeSide.setSlot.runDeferred

theorem advance (hs : Steady s0 s) {h} : Steady s0 (s.advance h) := by
  unfold State.advance
  split
  · exact hs
  · exact hs.setCtx

theorem jointDecision (hs : Steady s0 s) : Steady s0 s.jointDecision := by
  unfold State.jointDecision
  split
  · exact ite _ hs.setCtx.setCtx.endOne.endOne hs.advance.advance.startPair
  · exact hs

theorem afterCommit (hs : Steady s0 s) {h} : Steady s0 (s.afterCommit h) := by
  unfold State.afterCommit
  split
  · exact hs
  · exact ite _ hs.endCapture <| ite _ hs.endOne <| ite _ (ite _ hs.jointDecision hs.setCtx) <|
      ite _ hs.setCause.endOne hs.advance.startStep

theorem commit (hs : Steady s0 s) {h} : Steady s0 (s.commit h) := by
  unfold State.commit
  split
  · exact hs
  · split
    · exact hs.commitStep.afterCommit
    · exact hs

theorem frameMissing (hs : Steady s0 s) {h} : Steady s0 (s.frameMissing h) := by
  unfold State.frameMissing
  split
  · exact hs
  · exact ite _ hs.setCause.endCapture hs

theorem partnerLate (hs : Steady s0 s) {h} : Steady s0 (s.partnerLate h) := by
  unfold State.partnerLate
  split
  · exact hs
  · exact ite _ hs.setCause.endCapture hs

theorem pairSlotWait (hs : Steady s0 s) : Steady s0 s.pairSlotWait := by
  unfold State.pairSlotWait
  split
  · have h1 {a b} : Steady s0 (((s.setCtx .left a).setCtx .right b).setWaitOrder []) :=
      hs.setCtx.setCtx.setWaitOrder
    exact ite _ h1.endOne.endOne h1.endOne.endOne
  · exact hs

theorem slotWaitEnds (hs : Steady s0 s) {h} : Steady s0 (s.slotWaitEnds h) := by
  unfold State.slotWaitEnds
  split
  · exact hs
  · exact ite _ hs <| ite _ hs.pairSlotWait <| ite _ hs.setCause.endOne hs

/-! ### The drain unit -/

theorem removeQueued (hs : Steady s0 s) {i j} : Steady s0 (s.removeQueued i j) := by
  unfold State.removeQueued
  extract_lets x rest s1 done
  have h1 : Steady s0 s1 := hs.setDrain
  split
  · exact h1.notify
  · exact ite _ h1.evaluateDeferred.notify.addException?.notifyDropped h1.notify

theorem drainStop (hs : Steady s0 s) {i} : Steady s0 (s.drainStop i) := by
  have queued : Steady s0
      (match s.drain.queue.find? fun j => decide (j.slot = i) with
       | some j => s.removeQueued i j
       | none => s) := by
    split
    · exact hs.removeQueued
    · exact hs
  unfold State.drainStop
  split
  · exact ite _ (ite _ hs hs.orderDrain) queued
  · exact queued

theorem release (hs : Steady s0 s) {i d} : Steady s0 (s.release i d).state := by
  unfold State.release
  dsimp only
  split
  · exact hs
  · exact hs
  · exact hs
  · exact hs.setSlot
  · split
    · exact hs.setSlot
    · split
      · exact hs.releaseNow.addException?
      · exact hs.releaseNow.addException?

theorem takeDrainWord (hs : Steady s0 s) : Steady s0 s.takeDrainWord := by
  unfold State.takeDrainWord
  split
  · exact hs
  · exact ite _ (ite _ hs.setDrain.drainEnd hs.setDrain) hs

theorem setStall (hs : Steady s0 s) {x} : Steady s0 (s.setStall x) := by
  unfold State.setStall
  split
  · exact hs
  · exact ite _ hs hs.setActive

theorem stallExpires (hs : Steady s0 s) : Steady s0 s.stallExpires := by
  unfold State.stallExpires
  split
  · exact hs
  · exact ite _ hs.orderDrain hs

/-! ### The station marks -/

theorem mark (hs : Steady s0 s) {leaf face rule} : Steady s0 (s.mark leaf face rule).state := by
  unfold State.mark
  repeat' split
  all_goals first | exact hs | exact ite _ hs.changeSide hs.changeSide.evaluateSide

/-! ### The light unit -/

theorem confirmRises (hs : Steady s0 s) {i} : Steady s0 (s.confirmRises i) := by
  unfold State.confirmRises
  split
  · exact hs
  · exact ite _ hs.setLight hs

theorem recordFlash (hs : Steady s0 s) {h r} : Steady s0 (s.recordFlash h r) := by
  unfold State.recordFlash
  split
  · exact hs
  · exact hs.setCtx

theorem endIfOrdered (hs : Steady s0 s) {h} : Steady s0 (s.endIfOrdered h) := by
  unfold State.endIfOrdered
  split
  · exact hs
  · exact ite _ hs.endCapture hs

theorem endFlash (hs : Steady s0 s) {f} : Steady s0 (s.endFlash f) := by
  unfold State.endFlash
  extract_lets dl dr wantL wantR s1 s2 s3 s4 s5
  have h1 : Steady s0 s1 := hs.mapLamps.charge
  have h2 : Steady s0 s2 := foldl (fun _ _ hr => hr.recordFlash) _ h1
  have h3 : Steady s0 s3 := foldl (fun _ _ hr => hr.endIfOrdered) _ h2
  have h4 : Steady s0 s4 := ite _ h3.notify h3
  have h5 : Steady s0 s5 := ite _ h4.notify h4
  exact h5.setLight

theorem flashTimerExpires (hs : Steady s0 s) : Steady s0 s.flashTimerExpires := by
  unfold State.flashTimerExpires
  split
  · exact hs
  · exact ite _ hs hs.endFlash

theorem gapExpires (hs : Steady s0 s) : Steady s0 s.gapExpires := by
  unfold State.gapExpires
  split
  · exact hs
  · exact hs.setLight.decideLight

theorem rechargeExpires (hs : Steady s0 s) {i} : Steady s0 (s.rechargeExpires i) := by
  unfold State.rechargeExpires
  split
  · exact hs.setLamp.decideLight
  · exact hs

/-! ### The memory and the pixel links -/

theorem pixelBurstDone (hs : Steady s0 s) {h ws} : Steady s0 (s.pixelBurstDone h ws) := by
  unfold State.pixelBurstDone
  split
  · exact hs.sealIfReady
  · exact hs.setMem.setSlot.sealIfReady

theorem refreshDone (hs : Steady s0 s) : Steady s0 s.refreshDone := by
  unfold State.refreshDone
  split
  · exact hs.setBurst.decideMemory
  · exact hs

theorem acceptHeader (hs : Steady s0 s) {h c x} : Steady s0 (s.acceptHeader h c x) := by
  unfold State.acceptHeader
  dsimp only
  split
  · exact hs.setRx.setCtx
  · exact hs.setSlot.setRx.setCtx

theorem headerComplete (hs : Steady s0 s) {h x} : Steady s0 (s.headerComplete h x) := by
  unfold State.headerComplete
  split
  · exact hs.setRx.setCause.endCapture
  · exact hs.setRx
  · split
    · exact hs
    · exact hs.acceptHeader

theorem takePayload (hs : Steady s0 s) {h w} : Steady s0 (s.takePayload h w) := by
  unfold State.takePayload
  dsimp only
  split
  · split
    · split
      · exact hs.setRx
      · exact hs.setRx.setSlot
    · exact hs
  · exact hs

theorem takeTrailer (hs : Steady s0 s) {h w} : Steady s0 (s.takeTrailer h w) := by
  unfold State.takeTrailer
  split
  · exact hs.setRx.sealIfReady
  · exact hs

theorem frameLate (hs : Steady s0 s) {h} : Steady s0 (s.frameLate h) := by
  unfold State.frameLate
  split
  · exact hs
  · exact hs.setRx.sealIfReady

/-! ### The links and the volume table -/

theorem emptyAllNotices (hs : Steady s0 s) : Steady s0 s.emptyAllNotices :=
  hs.keep rfl (fun _ => .refl _) (.refl _) (fun l => by cases l <;> exact ⟨rfl, rfl, rfl, rfl⟩)

end Steady

end Sys2Proof.Machine
end

section
/-! SUPPORT. Predicates that every steady operation keeps, and with them the commands inside an opening. -/

namespace Sys2Proof

/-- The commands that change no more than the inside of an opening: no cradle state outside an evaluation, no standing
of a volume entry, no standby of the memory. -/
def Instr.inside : Instr → Bool
  | .powerOnReset => false
  | .register .. => false
  | .mount .. => false
  | .suspend _ => false
  | .close .. => false
  | .clear .. => false
  | .seek .. => false
  | .resync .. => false
  | .park _ => false
  | .wake _ => false
  | .cradleReset _ => false
  | .turnAsk _ => false
  | .turnBegin _ => false
  | .turnEnd .. => false
  | .armFault .. => false
  | .settleExpiry => false
  | .turnTimerExpiry => false
  | .confirmWindowClose => false
  | .burstCompletion => false
  | .refreshTimerExpiry => false
  | _ => true

end Sys2Proof

namespace Sys2Proof.Machine

open Sys2Proof

/-- A predicate that the steady operations and every update of a link keep. -/
structure SteadyClosed (P : State → Prop) : Prop where
  steady : ∀ {s t : State}, Steady s t → P s → P t
  link : ∀ {s : State} (l : LinkId) (k : Link), P s → P (s.setLink l k)

namespace SteadyClosed

variable {P : State → Prop} {s : State}

theorem placeResponse (hP : SteadyClosed P) (h : P s) (l : LinkId) (r : Response) : P (s.placeResponse l r) := by
  unfold State.placeResponse
  dsimp only
  split
  · exact hP.link _ _ h
  · exact hP.link _ _ h

theorem arbitrate (hP : SteadyClosed P) (r : State) (h : P s) : P (r.arbitrate s) :=
  hP.steady (Steady.refl s).arbitrate h

/-- A request keeps what the block that owns it keeps. -/
theorem ask (hP : SteadyClosed P) {c : Instr} {act : State → Reply} (h : P s)
    (hact : ∀ r, P r → P (act r).state) : P (s.ask c act) := by
  have taken (l : LinkId) (f : Frame) : P (s.takeRequest l f act) := by
    refine hP.placeResponse ?_ _ _
    unfold State.dispatch State.turnAway
    repeat' split
    · exact hP.link _ _ h
    · exact hP.link _ _ h
    · exact hP.link _ _ h
    · exact hact _ (hP.link _ _ h)
  unfold State.ask
  split
  · exact h
  · refine hP.arbitrate _ ?_
    unfold State.request
    dsimp only
    repeat' split
    · exact hP.link _ _ h
    · exact hP.link _ _ h
    · exact taken _ _
    · exact hP.link _ _ h

/-- A request whose block is steady. -/
theorem ask_steady (hP : SteadyClosed P) {c : Instr} {act : State → Reply} (h : P s)
    (hact : ∀ r, Steady r (act r).state) : P (s.ask c act) :=
  hP.ask h fun r hr => hP.steady (hact r) hr

theorem portReset (hP : SteadyClosed P) (h : P s) (l : LinkId) : P (s.portReset l) := by
  unfold State.portReset
  dsimp only
  split
  · exact hP.link _ _ h
  · exact hP.placeResponse (hP.link _ _ h) _ _

theorem selectRises (hP : SteadyClosed P) (h : P s) (l : LinkId) : P (s.selectRises l) := by
  unfold State.selectRises
  dsimp only
  repeat' split
  · exact h
  · exact hP.link _ _ h
  · exact hP.link _ _ h
  · exact hP.link _ _ h
  · exact hP.link _ _ h
  · exact hP.portReset (hP.link _ _ h) l
  · exact hP.link _ _ h

end SteadyClosed

/-- The commands inside an opening keep every predicate that the steady operations keep. -/
theorem SteadyClosed.exec {P : State → Prop} (hP : SteadyClosed P) {c : Instr} (hc : c.inside = true) {s t : State}
    (h : P s) (he : exec c s = .next t) : P t := by
  have kept {r : State} (hr : Steady s r) : P r := hP.steady hr h
  cases c with
  | powerOnReset | register | mount | suspend | close | clear | seek | resync | park | wake | cradleReset | turnAsk
  | turnBegin | turnEnd | armFault | settleExpiry | turnTimerExpiry | confirmWindowClose | burstCompletion
  | refreshTimerExpiry => simp [Instr.inside] at hc
  | poll | ident | lampSetStatus =>
    obtain rfl := Host.Outcome.next.inj he
    exact hP.ask_steady h fun r => .refl r
  | lampSetRead | programSetRead | slotStatus =>
    obtain rfl := Host.Outcome.next.inj he
    refine hP.ask_steady h fun r => ?_
    split <;> exact .refl r
  | readVolume | readVolumeShelfMark =>
    obtain rfl := Host.Outcome.next.inj he
    refine hP.ask_steady h fun r => ?_
    unfold State.readVolume
    (repeat' split) <;> exact .refl r
  | readLeaf =>
    obtain rfl := Host.Outcome.next.inj he
    refine hP.ask_steady h fun r => ?_
    (repeat' split) <;> exact .refl r
  | doseQuery =>
    obtain rfl := Host.Outcome.next.inj he
    refine hP.ask_steady h fun r => ?_
    unfold State.doseQuery
    dsimp only
    (repeat' split) <;> exact .refl r
  | readExceptions =>
    obtain rfl := Host.Outcome.next.inj he
    refine hP.ask_steady h fun r => ?_
    dsimp only
    split
    · exact .refl r
    · split
      · exact .refl r
      · exact (Steady.refl r).setExceptions
  | requestKindUnknown =>
    obtain rfl := Host.Outcome.next.inj he
    split
    · exact h
    · exact hP.ask_steady h fun r => .refl r
  | setTiming | setBudget =>
    obtain rfl := Host.Outcome.next.inj he
    refine hP.ask_steady h fun r => ?_
    dsimp only
    split
    · exact .refl r
    · split
      · exact .refl r
      · exact (Steady.refl r).setVolume ⟨rfl, rfl, rfl, rfl⟩
  | reshoot | exempt | acceptSide =>
    obtain rfl := Host.Outcome.next.inj he
    exact hP.ask_steady h fun r => (Steady.refl r).mark
  | abortOpening =>
    obtain rfl := Host.Outcome.next.inj he
    refine hP.ask_steady h fun r => ?_
    split
    · exact .refl r
    · exact .refl r
    · exact .refl r
    · exact .refl r
    · exact (Steady.refl r).abortOpening
  | lampSetWrite =>
    obtain rfl := Host.Outcome.next.inj he
    refine hP.ask_steady h fun r => ?_
    dsimp only
    split
    · split
      · exact .refl r
      · exact (Steady.refl r).setLamp.decideLight
    · exact .refl r
  | programSetWrite =>
    obtain rfl := Host.Outcome.next.inj he
    refine hP.ask_steady h fun r => ?_
    dsimp only
    split
    · split
      · exact .refl r
      · exact (Steady.refl r).setProgram
    · exact .refl r
  | drainOpen =>
    obtain rfl := Host.Outcome.next.inj he
    refine hP.ask_steady h fun r => ?_
    dsimp only
    split
    · split
      · exact .refl r
      · exact (Steady.refl r).setDrain.activateDrain
    · exact .refl r
  | drainStop =>
    obtain rfl := Host.Outcome.next.inj he
    refine hP.ask_steady h fun r => ?_
    dsimp only
    split
    · exact .refl r
    · exact (Steady.refl r).drainStop
  | release =>
    obtain rfl := Host.Outcome.next.inj he
    refine hP.ask_steady h fun r => ?_
    split
    · exact (Steady.refl r).release
    · exact .refl r
    · exact .refl r
  | claim =>
    obtain rfl := Host.Outcome.next.inj he
    refine hP.ask_steady h fun r => ?_
    split
    · exact .refl r
    · split
      · exact (Steady.refl r).testAndSet
      · exact .refl r
  | unclaim =>
    obtain rfl := Host.Outcome.next.inj he
    refine hP.ask_steady h fun r => ?_
    split
    · exact .refl r
    · exact (Steady.refl r).unclaim
  | cancel =>
    obtain rfl := Host.Outcome.next.inj he
    refine hP.ask_steady h fun r => ?_
    split
    · exact .refl r
    · exact (Steady.refl r).cancel
  | capture =>
    obtain rfl := Host.Outcome.next.inj he
    refine hP.ask_steady h fun r => ?_
    repeat' split
    · exact .refl r
    · exact .refl r
    · exact .refl r
    · exact (Steady.refl r).tryCapture
  | portReset l =>
    obtain rfl := Host.Outcome.next.inj he
    exact hP.portReset h l
  | selectRising l =>
    obtain rfl := Host.Outcome.next.inj he
    exact hP.selectRises h l
  | selectFalling | byteClocked =>
    obtain rfl := Host.Outcome.next.inj he
    exact hP.link _ _ h
  | frameHeader =>
    obtain rfl := Host.Outcome.next.inj he
    refine hP.arbitrate _ (kept ?_)
    split
    · exact .ite _ (Steady.refl s).headerComplete (.refl s)
    · exact .refl s
  | huntWord | headerWord =>
    obtain rfl := Host.Outcome.next.inj he
    refine kept ?_
    split
    · exact .ite _ (Steady.refl s).setRx (.refl s)
    · exact .refl s
  | readyFalling =>
    obtain rfl := Host.Outcome.next.inj he
    exact kept (.ite _ (Steady.refl s).setDrain.setStall (.refl s))
  | readyRising =>
    obtain rfl := Host.Outcome.next.inj he
    exact kept (.ite _ (.refl s) (Steady.refl s).setDrain.setStall)
  | payloadWord => cases he; exact hP.arbitrate _ (kept (Steady.refl s).takePayload)
  | trailerWord => cases he; exact hP.arbitrate _ (kept (Steady.refl s).takeTrailer)
  | frameCompleteLimitExpiry => cases he; exact hP.arbitrate _ (kept (Steady.refl s).frameLate)
  | commit => cases he; exact hP.arbitrate _ (kept (Steady.refl s).commit)
  | frameStartLimitExpiry => cases he; exact hP.arbitrate _ (kept (Steady.refl s).frameMissing)
  | partnerWaitLimitExpiry => cases he; exact hP.arbitrate _ (kept (Steady.refl s).partnerLate)
  | slotWaitLimitExpiry => cases he; exact hP.arbitrate _ (kept (Steady.refl s).slotWaitEnds)
  | claimLifetimeExpiry => cases he; exact hP.arbitrate _ (kept (Steady.refl s).claimExpires)
  | flashEnd => cases he; exact hP.arbitrate _ (kept (Steady.refl s).flashTimerExpires)
  | interFlashGapExpiry => cases he; exact hP.arbitrate _ (kept (Steady.refl s).gapExpires)
  | rechargeExpiry => cases he; exact hP.arbitrate _ (kept (Steady.refl s).rechargeExpires)
  | drainWordTaken => cases he; exact hP.arbitrate _ (kept (Steady.refl s).takeDrainWord)
  | stallTimerExpiry => cases he; exact hP.arbitrate _ (kept (Steady.refl s).stallExpires)
  | confirmInput => cases he; exact kept (Steady.refl s).confirmRises
  | refreshCompletion => cases he; exact kept (Steady.refl s).refreshDone

end Sys2Proof.Machine
end

section
/-! SUPPORT. What a step can do to the standing of the cradle: a predicate that the steady operations keep is kept by
every step when it is kept by the few operations that are not steady, each under the checks that its command makes. -/

namespace Sys2Proof.Machine

open Sys2Proof

/-- The operations that are not steady, each with the checks that its command has made. -/
structure CradleClosed (P : State → Prop) : Prop extends SteadyClosed P where
  tick : ∀ {s : State}, P s → P s.tick
  reset : ∀ {s : State} (d : Drain), P s → P { State.reset with pending := s.pending, drain := d }
  register : ∀ {s : State} {i : Fin 16} (mark : List Byte) (n leafCap volumeCap : Nat) (x : Timings), P s →
    (s.volume i).state = .empty → P (s.setVolume i (registered mark n leafCap volumeCap x))
  mountPending : ∀ {s : State} {i : Fin 16} {k : Nat}, P s → s.opening.state ≠ .parked → s.mounted = none →
    s.moving = none → (s.volume i).state = .pending → k ≤ (s.volume i).n → P (s.mountPending i k)
  resume : ∀ {s : State} {i : Fin 16} {x : Word}, P s → s.opening.state ≠ .parked → s.mounted = none →
    s.moving = none → (s.volume i).state = .suspended →
    (x ≠ lastOpeningMarker → x.toNat ≤ (s.volume i).n) → P (s.resume i x)
  suspend : ∀ {s : State} {i : Fin 16} {x : Fin 8}, P s → s.opening.state ≠ .parked → s.opening.state ≠ .fault →
    s.opening.state ≠ .turning → s.mounted = some i → P (s.suspend i x)
  closeMounted : ∀ {s : State} {i : Fin 16}, P s → s.opening.state ≠ .parked → s.opening.state ≠ .fault →
    s.opening.state ≠ .turning → (s.volume i).state = .mounted → P (s.closeMounted i)
  closeSuspended : ∀ {s : State} {i : Fin 16}, P s → (s.volume i).state = .suspended → P (s.closeSuspended i)
  clearEntry : ∀ {s : State} {i : Fin 16}, P s →
    ((s.volume i).state = .pending ∨ (s.volume i).state = .suspended ∨ (s.volume i).state = .closed) →
    P (s.clearEntry i)
  dropImage : ∀ {s : State} {i : Fin 16}, P s → (s.volume i).state = .suspended → P (s.dropImage i)
  seekTo : ∀ {s : State} (k : Nat), P s → P (s.seekTo k).state
  resyncTo : ∀ {s : State} (k : Nat), P s → (s.opening.state = .fault ∨ s.opening.state = .idle ∧ s.mounted ≠ none) →
    P (s.resyncTo k).state
  parkCradle : ∀ {s : State}, P s → s.opening.state ≠ .parked → s.opening.state ≠ .fault →
    s.opening.state ≠ .turning → P s.parkCradle
  wakeCradle : ∀ {s : State}, P s → s.opening.state = .parked → P s.wakeCradle
  resetOpening : ∀ {s : State}, P s → P s.resetOpening
  resetVolumes : ∀ {s : State}, P s → P s.resetVolumes
  grantTurn : ∀ {s : State}, P s → s.opening.state = .turnable → P s.grantTurn
  armCode : ∀ {s : State} (b : Byte), P s → P (s.setOpening { s.opening with armCode := b })
  takeCause : ∀ {s : State} (c : FaultCause), P s → P (s.takeCause c)
  endTurn : ∀ {s : State} (n : Nat), P s → s.opening.state = .turning → P (s.endTurn n)
  settleExpires : ∀ {s : State}, P s → P s.settleExpires
  turnExpires : ∀ {s : State}, P s → P s.turnExpires
  staleBurst : ∀ {s : State}, P s → P s.staleBurst
  engineBurst : ∀ {s : State} (n : Nat), P s → P (s.engineBurst n)
  refreshExpires : ∀ {s : State}, P s → P s.refreshExpires

theorem Steady.resetDrain {s s0 : State} (hs : Steady s0 s) : Steady s0 s.resetDrain :=
  hs.mapSlots.setDrain.orderDrain

theorem volume_congr {s t : State} (h : t.account = s.account) : t.volume = s.volume := by
  funext i; simp only [State.volume, h]

/-- The image of an entry taken out of use: its save slot field becomes none (R161). -/
theorem dropImage_volume (s : State) (i j : Fin 16) :
    (s.dropImage i).volume j = if j = i then { s.volume i with saveSlot := none } else s.volume j := by
  unfold State.dropImage
  dsimp only
  rw [volume_congr (notify_frame ..).2.1, setVolume_volume]
  split
  · rfl
  · split
    · rfl
    · rw [volume_congr (freeSlot_frame ..).2.1]

namespace CradleClosed

variable {P : State → Prop} {s t : State}

theorem windowCloses (hP : CradleClosed P) (h : P s) : P s.windowCloses := by
  unfold State.windowCloses
  split
  · exact h
  · split
    · exact h
    · extract_lets missed _ s1 s2
      have h2 : Steady s s2 := Steady.foldl (fun _ _ hr => hr.setLamp) _ (Steady.refl s).setLight
      split
      · exact hP.steady h2 h
      · exact hP.takeCause _ (hP.steady h2 h)

theorem burstDone (hP : CradleClosed P) (h : P s) : P s.burstDone := by
  have hs := Steady.refl s
  unfold State.burstDone
  split
  · exact h
  · exact h
  · exact hP.steady hs.setBurst.pixelBurstDone.decideMemory h
  · refine hP.steady (Steady.refl _).decideMemory ?_
    split
    · exact hP.staleBurst (hP.steady hs.setBurst h)
    · exact hP.engineBurst _ (hP.steady hs.setBurst h)
  · exact hP.steady hs.setBurst.drainBurstDone.decideMemory h

theorem mount (hP : CradleClosed P) (h : P s) (i : Fin 16) (x : Word) : P (s.mount i x).state := by
  unfold State.mount
  dsimp only
  split
  · exact h
  · next hp =>
    split
    · exact h
    · next hb =>
      simp only [Bool.or_eq_true, not_or, Bool.not_eq_true, Option.isSome_eq_false_iff, Option.isNone_iff_eq_none]
        at hb
      split
      · next hv =>
        split
        · exact h
        · next hn => exact hP.mountPending h hp hb.1 hb.2 hv (by omega)
      · next hv =>
        split
        · exact h
        · next hn => exact hP.resume h hp hb.1 hb.2 hv fun hx => by by_contra hlt; exact hn ⟨by omega, hx⟩
      · exact h

theorem close (hP : CradleClosed P) (h : P s) (i : Fin 16) : P (s.close i).state := by
  unfold State.close
  split
  · exact h
  · next hp =>
    split
    · exact h
    · next hf =>
      split
      · next hv =>
        split
        · exact h
        · next hb =>
          have ht : s.opening.state ≠ .turning := fun ht => hb (by simp [ht])
          exact hP.closeMounted h hp hf ht hv
      · next hv => exact hP.closeSuspended h hv
      · exact h

theorem clear (hP : CradleClosed P) (h : P s) (i : Fin 16) : P (s.clear i).state := by
  unfold State.clear
  dsimp only
  split
  · exact h
  · next hv =>
    have hv : (s.volume i).state = .pending ∨ (s.volume i).state = .suspended ∨ (s.volume i).state = .closed := by
      by_contra hn
      simp only [not_or] at hn
      exact hv hn
    split
    · exact h
    · split
      · next hsus =>
        refine hP.clearEntry (hP.dropImage h hsus) ?_
        simpa only [dropImage_volume, if_true] using hv
      · exact hP.clearEntry h hv

/-- Every command keeps the predicate. -/
theorem exec (hP : CradleClosed P) {c : Instr} (h : P s) (he : exec c s = .next t) : P t := by
  by_cases hc : c.inside = true
  · exact hP.toSteadyClosed.exec hc h he
  cases c with
  | powerOnReset => cases he; exact hP.reset _ h
  | register =>
    cases he
    refine hP.ask h fun r hr => ?_
    split
    · exact hr
    · split
      · exact hr
      · exact hr
      · next hl => exact hP.register _ _ _ _ _ hr (by simpa [State.lowestEmpty] using List.find?_some hl)
  | mount =>
    cases he
    refine hP.ask h fun r hr => ?_
    split
    · exact hr
    · exact hP.mount hr _ _
  | suspend =>
    cases he
    refine hP.ask h fun r hr => ?_
    split
    · exact hr
    · split
      · exact hr
      · split
        · exact hr
        · split
          · exact hr
          · split
            · exact hr
            · split
              · exact hr
              · next hp hf _ _ _ hm hb _ _ _ =>
                have ht : r.opening.state ≠ .turning := fun ht => hb (by simp [ht])
                exact hP.suspend hr hp hf ht hm
  | close =>
    cases he
    refine hP.ask h fun r hr => ?_
    split
    · exact hr
    · exact hP.close hr _
  | clear =>
    cases he
    refine hP.ask h fun r hr => ?_
    split
    · exact hr
    · exact hP.clear hr _
  | seek =>
    cases he
    refine hP.ask h fun r hr => ?_
    split
    · exact hr
    · exact hr
    · exact hr
    · exact hP.seekTo _ hr
  | resync =>
    cases he
    refine hP.ask h fun r hr => ?_
    split
    · next hf =>
      split
      · exact hr
      · exact hP.resyncTo _ hr (.inl hf)
    · next hi =>
      split
      · next hm => exact hP.resyncTo _ hr (.inr ⟨hi, by simpa using Option.isSome_iff_ne_none.1 hm⟩)
      · exact hr
    · exact hr
  | park =>
    cases he
    refine hP.ask h fun r hr => ?_
    split
    · exact hr
    · exact hr
    · exact hr
    · split
      · exact hr
      · next hp hf ht _ => exact hP.parkCradle hr hp hf ht
  | wake =>
    cases he
    refine hP.ask h fun r hr => ?_
    split
    · next hp => exact hP.wakeCradle hr hp
    · exact hr
  | cradleReset =>
    cases he
    refine hP.ask h fun r hr => ?_
    have h1 : P r.emptyAllNotices := hP.steady (Steady.refl r).emptyAllNotices hr
    exact hP.steady (Steady.refl _).resetDrain (hP.resetVolumes (hP.resetOpening h1))
  | turnAsk =>
    cases he
    refine hP.ask h fun r hr => ?_
    split
    · next ht => exact hP.grantTurn hr ht
    all_goals exact hr
  | turnBegin =>
    cases he
    refine hP.ask h fun r hr => ?_
    split
    · exact hr
    · exact hP.takeCause _ hr
  | turnEnd =>
    cases he
    refine hP.ask h fun r hr => ?_
    split
    · next ht =>
      split
      · exact hr
      · exact hP.endTurn _ hr ht
    · exact hr
    · exact hr
  | armFault =>
    cases he
    exact hP.ask h fun r hr => hP.takeCause _ (hP.armCode _ hr)
  | settleExpiry => cases he; exact hP.arbitrate _ (hP.settleExpires h)
  | turnTimerExpiry => cases he; exact hP.arbitrate _ (hP.turnExpires h)
  | confirmWindowClose => cases he; exact hP.arbitrate _ (hP.windowCloses h)
  | burstCompletion => cases he; exact hP.arbitrate _ (hP.burstDone h)
  | refreshTimerExpiry => cases he; exact hP.refreshExpires h
  | _ => simp [Instr.inside] at hc

/-- Every step keeps a predicate that does not name the commands that wait. -/
theorem step (hP : CradleClosed P) (hq : ∀ {r : State} (q : List Instr), P r → P { r with pending := q }) (h : P s)
    (he : step s = .next t) : P t := by
  unfold Machine.step at he
  split at he
  · cases he; exact hP.tick h
  · exact hP.exec (hq _ h) he

end CradleClosed

end Sys2Proof.Machine
end

section
/-! PROOFS. The standby of the cradle and of the frame memory agree after every step (R22, R23, R127, R128). -/

namespace Sys2Proof.Machine

open Sys2Proof

/-! ### What keeps the agreement -/

/-- The agreement rests on the state of the opening and on the standby of the memory alone. -/
theorem State.Powered.of_same {s t : State} (h : s.Powered)
    (ho : t.opening.state = .parked ↔ s.opening.state = .parked) (hm : s.memory.SameStandby t.memory) : t.Powered where
  parked := by rw [ho, hm.mode]; exact h.parked
  timer := by rw [hm.mode, hm.timer]; exact h.timer
  owed := fun h' => by have := h.owed (hm.mode ▸ h'); have := hm.owed; omega
  engine := fun h' => by rw [hm.engine]; exact h.engine (hm.mode ▸ h')

theorem settled_ne_parked {x : OpeningState} (h : x.settled = true) : x ≠ .parked := by
  rintro rfl; simp [OpeningState.settled] at h

theorem Steady.powered {s t : State} (h : Steady s t) (hs : s.Powered) : t.Powered := by
  refine hs.of_same ?_ h.memory
  obtain e | ⟨h1, h2⟩ := h.state_settled
  · rw [e]
  · simp [settled_ne_parked h1, settled_ne_parked h2]

theorem poweredClosed : SteadyClosed State.Powered where
  steady := Steady.powered
  link _ _ h := h.of_same .rfl (.refl _)

/-- A new record of the opening, PARKED exactly as the one before. -/
theorem State.Powered.setOpening {s : State} (h : s.Powered) {o : Opening}
    (ho : o.state = .parked ↔ s.opening.state = .parked) : (s.setOpening o).Powered :=
  h.of_same ho (.refl _)

theorem State.Powered.setVolume {s : State} (h : s.Powered) (i : Fin 16) (v : Volume) : (s.setVolume i v).Powered :=
  h.of_same .rfl (.refl _)

theorem State.Powered.takeEvaluated {s : State} (h : s.Powered) (hs : s.opening.state ≠ .parked) :
    s.takeEvaluated.Powered := by
  refine h.of_same ?_ (by simp [FrameMemory.SameStandby.refl])
  simp [State.evaluatedOpening, settled_ne_parked (evaluated_settled s), hs]

theorem State.Powered.enterSettling {s : State} (h : s.Powered) (hs : s.opening.state ≠ .parked) :
    s.enterSettling.Powered := by
  have h1 {x} : (s.setOpening { s.opening with state := .settling, settle := x, direction := none }).Powered :=
    h.setOpening (by simp [hs])
  unfold State.enterSettling
  dsimp only
  split
  · exact State.Powered.takeEvaluated (h1 (x := none)) (by simp)
  · exact h1

theorem State.Powered.enterFault {s : State} (h : s.Powered) (hs : s.opening.state ≠ .parked) (c : FaultCause) :
    (s.enterFault c).Powered :=
  (Steady.refl _).notifyFault.abortBoth.endClaims.powered (h.setOpening (by simp [hs]))

theorem State.Powered.takeCause {s : State} (h : s.Powered) (c : FaultCause) : (s.takeCause c).Powered := by
  unfold State.takeCause
  split
  · exact h
  · exact h
  · exact h
  · next hp _ => exact h.enterFault hp c

theorem State.Powered.enterIdle {s : State} (h : s.Powered) (hs : s.opening.state ≠ .parked) : s.enterIdle.Powered :=
  h.setOpening (by simp [hs])

theorem State.Powered.enterCradle {s : State} (h : s.Powered) (i : Fin 16) (k : Nat) : (s.enterCradle i k).Powered := by
  unfold State.enterCradle
  dsimp only
  split
  · exact h.setOpening .rfl
  · next hp => exact State.Powered.enterSettling (h.setOpening .rfl) hp

/-- Outside PARKED the memory is not in retention, and the engine is free to move. -/
theorem State.Powered.setEngine {s : State} (h : s.Powered) {e : Engine}
    (he : s.opening.state = .parked → e.state = .idle ∨ e.state = s.memory.engine.state) :
    (s.setEngine e).Powered where
  parked := h.parked
  timer := h.timer
  owed := h.owed
  engine := fun hm => by
    have hp : s.opening.state = .parked := h.parked.2 (by rw [show s.memory.mode = .retention from hm]; simp)
    obtain h1 | h1 := he hp
    · exact h1
    · exact h1.trans (h.engine hm)

/-- A transfer ends with the engine IDLE: ENTERING becomes RETENTION (R128). -/
theorem State.Powered.engineDone {s : State} (h : s.Powered) (he : s.memory.engine.state = .idle) :
    s.engineDone.Powered := by
  unfold State.engineDone
  split
  · next hm =>
    exact
      { parked := by simp [State.enterRetention, h.parked, hm]
        timer := by simp [State.enterRetention]
        owed := by simp [State.enterRetention]
        engine := fun _ => he }
  · exact h

theorem State.Powered.abandonTransfer {s : State} (h : s.Powered) : s.abandonTransfer.Powered := by
  unfold State.abandonTransfer
  split
  · exact ((Steady.refl s).setBurst.powered h).setEngine fun _ => .inr rfl
  · exact (h.setEngine fun _ => .inl rfl).engineDone rfl

theorem State.Powered.staleBurst {s : State} (h : s.Powered) : s.staleBurst.Powered := by
  unfold State.staleBurst
  split
  · exact (h.setEngine fun _ => .inl rfl).engineDone rfl
  · exact h

/-! ### The commands that change the standing of the cradle -/

/-- PARK outside PARKED: the memory leaves ACTIVE (R128). -/
theorem parkMemory_powered {s : State} (hp : s.opening.state = .parked)
    (ht : s.memory.refreshTimer ≠ none) : s.parkMemory.Powered := by
  unfold State.parkMemory
  split
  · next he =>
    exact
      { parked := by simp [State.enterRetention, hp]
        timer := by simp [State.enterRetention]
        owed := by simp [State.enterRetention]
        engine := fun _ => he }
  · exact { parked := by simp [hp], timer := by simp [ht], owed := by simp, engine := by simp }

theorem State.Powered.parkCradle {s : State} (h : s.Powered) (hs : s.opening.state ≠ .parked) :
    s.parkCradle.Powered := by
  have hm : s.memory.mode = .active := by simpa [hs] using h.parked
  have ht : s.memory.refreshTimer ≠ none := by simp [h.timer, hm]
  unfold State.parkCradle
  exact parkMemory_powered rfl (by simpa using ht)

theorem enterSettling_state (s : State) :
    s.enterSettling.opening.state = .settling ∨ s.enterSettling.opening.state.settled = true := by
  unfold State.enterSettling
  dsimp only
  split
  · exact .inr (by simp [State.evaluatedOpening, evaluated_settled])
  · exact .inl rfl

theorem enterSettling_ne_parked (s : State) : s.enterSettling.opening.state ≠ .parked := by
  obtain h | h := enterSettling_state s
  · simp [h]
  · exact settled_ne_parked h

/-- WAKE: the memory is ACTIVE with its refresh timer running (R128). -/
theorem wakeMemory_powered {s : State} (hp : s.opening.state ≠ .parked) : s.wakeMemory.Powered :=
  { parked := by simp [State.wakeMemory, hp]
    timer := by simp [State.wakeMemory]
    owed := by simp [State.wakeMemory]
    engine := by simp [State.wakeMemory] }

theorem wakeCradle_powered (s : State) : s.wakeCradle.Powered := by
  unfold State.wakeCradle
  extract_lets _ s1 _ s2 s3
  have h2 : s2.opening.state ≠ .parked := by
    dsimp only [s2]
    split
    · exact enterSettling_ne_parked _
    · simp
  have h3 : s3.Powered := (Steady.refl _).activateDrain.powered (wakeMemory_powered h2)
  split
  · exact (Steady.refl _).decideMemory.powered h3
  · exact h3

theorem State.Powered.resetOpening {s : State} (h : s.Powered) : s.resetOpening.Powered := by
  unfold State.resetOpening
  split
  · exact h
  · next hi =>
    split
    · exact h.enterFault (by simp [hi]) _
    · exact h
  · next hp _ => exact h.enterFault hp _

theorem State.Powered.resetVolumes {s : State} (h : s.Powered) : s.resetVolumes.Powered := by
  unfold State.resetVolumes
  split
  · exact h
  · dsimp only
    split
    · refine State.Powered.setOpening (State.Powered.setVolume ?_ _ _) .rfl
      split
      · exact h.abandonTransfer
      · exact (Steady.refl _).freeSlot.powered h.abandonTransfer
    · exact (Steady.refl _).emptyTables.powered (h.abandonTransfer.setVolume _ _)

theorem State.Powered.applyCount {s : State} (h : s.Powered) (hs : s.opening.state ≠ .parked) (d : Direction)
    (n : Nat) : (s.applyCount d n).Powered := by
  have moved {r : State} (hr : Steady s r) (k : Nat) : (r.moveTo k).Powered := by
    have hp : r.opening.state ≠ .parked := by
      obtain e | e := hr.state_settled
      · rwa [e]
      · exact settled_ne_parked e.2
    exact State.Powered.enterSettling ((hr.powered h).setOpening .rfl) hp
  unfold State.applyCount
  dsimp only
  split
  · exact State.Powered.enterSettling ((Steady.refl s).addException.powered h) (by simpa using hs)
  · exact moved (.refl s) _
  · exact moved (.refl s) _
  · split
    · exact moved (Steady.refl s).addException.addException _
    · exact h.enterFault hs _
  · split
    · exact moved (Steady.refl s).addException.addException _
    · exact h.enterFault hs _
  · exact h.enterFault hs _

theorem State.Powered.resume {s : State} (h : s.Powered) (hs : s.opening.state ≠ .parked) (i : Fin 16) (x : Word) :
    (s.resume i x).Powered := by
  unfold State.resume
  dsimp only
  split
  · exact h.setVolume _ _
  · exact (h.setVolume _ _).setEngine fun hp => absurd hp hs

theorem State.Powered.suspend {s : State} (h : s.Powered) (hs : s.opening.state ≠ .parked) (i : Fin 16) (x : Fin 8) :
    (s.suspend i x).Powered := by
  have h1 : ∀ a b, ((s.setSlot x a).setVolume i b).Powered := fun a b =>
    ((Steady.refl s).setSlot.powered h).setVolume i b
  exact State.Powered.setEngine ((h1 _ _).enterIdle hs) (by simp [State.enterIdle])

theorem State.Powered.closeMounted {s : State} (h : s.Powered) (hs : s.opening.state ≠ .parked) (i : Fin 16) :
    (s.closeMounted i).Powered := by
  have h1 := (Steady.refl s).endClaims (e := true) |>.powered h
  exact (Steady.refl _).notify.emptyTables.powered ((h1.enterIdle (by simpa using hs)).setVolume i _)

theorem State.Powered.dropImage {s : State} (h : s.Powered) (i : Fin 16) : (s.dropImage i).Powered := by
  unfold State.dropImage
  refine (Steady.refl _).notify.powered (State.Powered.setVolume ?_ _ _)
  split
  · exact h
  · exact (Steady.refl s).freeSlot.powered h

theorem State.Powered.restoreCompleted {s : State} (h : s.Powered) (i : Fin 16) (x : Fin 8) (n : Nat) :
    (s.restoreCompleted i x n).Powered := by
  have h1 {a b v} : (((s.setLeaves a).setExceptions b).setVolume i v).Powered :=
    ((Steady.refl s).setLeaves.setExceptions.powered h).setVolume i v
  exact (Steady.refl _).notify.powered
    ((((Steady.refl _).freeSlot.powered h1).setVolume _ _).enterCradle _ _)

theorem State.Powered.saveCompleted {s : State} (h : s.Powered) (i : Fin 16) : (s.saveCompleted i).Powered := by
  have h1 {v} : (s.setVolume i v).emptyTables.Powered := (Steady.refl _).emptyTables.powered (h.setVolume i v)
  unfold State.saveCompleted
  dsimp only
  split
  · exact h1
  · exact (Steady.refl _).notify.powered h1

/-- A volume enters the cradle with the engine as it is. -/
@[simp] theorem enterCradle_memory (s : State) (i : Fin 16) (k : Nat) : (s.enterCradle i k).memory = s.memory := by
  simp

theorem engineCompleted_engine (s : State) (e : Engine) : (s.engineCompleted e).memory.engine = .idle := by
  unfold State.engineCompleted
  dsimp only
  split
  · simp
  · simp only [State.restoreCompleted, notify_frame, enterCradle_frame, setVolume_memory]
    exact (Steady.refl _).freeSlot.memory.engine
  · rfl

theorem State.Powered.engineCompleted {s : State} (h : s.Powered) (e : Engine) : (s.engineCompleted e).Powered := by
  have h1 : (s.setEngine .idle).Powered := h.setEngine fun _ => .inl rfl
  unfold State.engineCompleted
  dsimp only
  split
  · exact h1.saveCompleted _
  · exact h1.restoreCompleted _ _ _
  · exact h1

theorem State.Powered.engineBurst {s : State} (h : s.Powered) (n : Nat) : (s.engineBurst n).Powered := by
  unfold State.engineBurst
  extract_lets e s1 e'
  have h1 : Steady s s1 := .ite _ (Steady.refl s).saveWords (.refl s)
  split
  · exact ((h1.powered h).engineCompleted e').engineDone (by rw [engineCompleted_engine]; rfl)
  · exact (h1.powered h).setEngine fun _ => .inr (by simp [e', e, h1.memory.engine])

theorem State.Powered.refreshExpires {s : State} (h : s.Powered) : s.refreshExpires.Powered := by
  unfold State.refreshExpires
  split
  · exact h
  · next ht =>
    have hm : s.memory.mode ≠ .retention := fun hm => by simp [h.timer.2 hm] at ht
    split
    · refine (Steady.refl _).decideMemory.powered ?_
      exact { parked := h.parked, timer := by simp [hm], owed := by simp [hm], engine := h.engine }
    · exact h

theorem State.Powered.settleExpires {s : State} (h : s.Powered) : s.settleExpires.Powered := by
  unfold State.settleExpires
  split
  · next hs _ =>
    refine (Steady.refl _).startWaiting.powered (State.Powered.takeEvaluated (h.setOpening .rfl) ?_)
    simp [hs]
  · exact h

theorem State.Powered.tick {s : State} (h : s.Powered) : s.tick.Powered where
  parked := h.parked
  timer := by
    have : (after 10000 s.memory.refreshTimer = none) ↔ s.memory.refreshTimer = none := by simp [after]
    exact this.trans h.timer
  owed := h.owed
  engine := h.engine

theorem reset_powered : State.reset.Powered where
  parked := by decide
  timer := by decide
  owed := by decide
  engine := by decide

theorem poweredCradle : CradleClosed State.Powered where
  toSteadyClosed := poweredClosed
  tick h := h.tick
  reset _ _ := reset_powered.of_same .rfl (.refl _)
  register _ _ _ _ _ h _ := h.setVolume _ _
  mountPending h _ _ _ _ _ := ((Steady.refl _).setLeaves.setExceptions.powered h).setVolume _ _ |>.enterCradle _ _
  resume h hp _ _ _ _ := h.resume hp _ _
  suspend h hp _ _ _ := h.suspend hp _ _
  closeMounted h hp _ _ _ := h.closeMounted hp _
  closeSuspended h _ := (h.dropImage _).setVolume _ _
  clearEntry h _ := h.setVolume _ _
  dropImage h _ := h.dropImage _
  seekTo k h := by
    unfold State.seekTo
    dsimp only
    split
    · exact h
    · exact (Steady.ite _ (.refl _) (Steady.refl _).evaluate).powered (h.setOpening .rfl)
  resyncTo k h hs := by
    unfold State.resyncTo
    split
    · exact h
    · refine State.Powered.enterSettling (h.setOpening .rfl) ?_
      obtain hs | ⟨hs, -⟩ := hs <;> simp [hs]
  parkCradle h hp _ _ := h.parkCradle hp
  wakeCradle _ _ := wakeCradle_powered _
  resetOpening h := h.resetOpening
  resetVolumes h := h.resetVolumes
  grantTurn h ht := h.setOpening (by simp [ht])
  armCode _ h := h.setOpening .rfl
  takeCause c h := h.takeCause c
  endTurn _ h ht := by
    refine State.Powered.applyCount (h.setOpening ?_) ?_ _ _
    · exact .rfl
    · simp [ht]
  settleExpires h := h.settleExpires
  turnExpires h := by
    unfold State.turnExpires
    split
    · next ht _ => exact h.enterFault (by simp [ht]) _
    · exact h
  staleBurst h := h.staleBurst
  engineBurst n h := h.engineBurst n
  refreshExpires h := h.refreshExpires

/-- Settles O59: the agreement rests on the state of the opening and the standby of the memory, which the steady
operations keep; the operations that change them change both. -/
theorem poweredKept : Obligations.PoweredKept := fun _ _ h he =>
  poweredCradle.step (fun _ h => h.of_same .rfl (.refl _)) h he

end Sys2Proof.Machine
end

section
/-! PROOFS. The opening record agrees with the volume table after every step (R1, R2, R10, R13 to R15, R149). -/

namespace Sys2Proof.Machine

open Sys2Proof

/-! ### The record against the table, whatever the opening state -/

/-- The part of the agreement that no opening state, timer or direction enters: what of the record names the table. -/
structure State.Placed (s : State) : Prop where
  oneHeld : ∀ i j, (s.volume i).state.held → (s.volume j).state.held → i = j
  volume : ∀ i, s.opening.volume = some i ↔ (s.volume i).state = .mounted
  inRange : s.opening.volume.isSome = true → s.opening.k ≤ s.leaves
  suspending : ∀ i, (s.volume i).state = .suspending → s.opening.k ≤ (s.volume i).n
  seek : ∀ t, s.opening.seek = some t → t ≤ s.leaves
  lastOpenings : ∀ i k, (s.volume i).lastOpening = some k → k ≤ (s.volume i).n

theorem State.Positioned.placed {s : State} (h : s.Positioned) : s.Placed :=
  ⟨h.oneHeld, h.volume, h.inRange, h.suspending, h.seek, h.lastOpenings⟩

/-- A direction in force in states that have none. -/
theorem Opening.undirected {o : Opening} (h : o.direction.isSome = true ↔ o.state = .turnable ∨ o.state = .turning)
    (h1 : o.state ≠ .turnable) (h2 : o.state ≠ .turning) : o.direction = none := by
  simpa [h1, h2] using h

namespace State.Placed

variable {s : State}

/-- Placed in a state with no timer running and no direction in force. -/
theorem positioned (h : s.Placed) (hv : s.opening.state ≠ .idle → s.opening.state ≠ .parked →
      s.opening.volume.isSome = true)
    (hp : s.opening.state = .parked → s.opening.parkReturn = .volume → s.opening.volume.isSome = true)
    (hs : s.opening.settle.isSome = true ↔ s.opening.state = .settling) (ht : s.opening.turn = none)
    (hnt : s.opening.state ≠ .turning)
    (hd : s.opening.direction.isSome = true ↔ s.opening.state = .turnable)
    (hpos : ∀ d, s.opening.direction = some d → s.turnPossible d = true) : s.Positioned where
  oneHeld := h.oneHeld
  volume := h.volume
  positioned := hv
  parkReturn := hp
  settle := hs
  turn := by simp [ht, hnt]
  direction := by simp [hd, hnt]
  inRange := h.inRange
  suspending := h.suspending
  seek := h.seek
  possible := hpos
  lastOpenings := h.lastOpenings

/-- A record that keeps the volume and the opening number, and keeps or clears the seek target. -/
theorem setOpening (h : s.Placed) {o : Opening} (hv : o.volume = s.opening.volume) (hk : o.k = s.opening.k)
    (hs : o.seek = s.opening.seek ∨ o.seek = none) : (s.setOpening o).Placed := by
  have hl : (s.setOpening o).leaves = s.leaves := by simp only [State.leaves, setOpening_opening, hv]; rfl
  exact
    { oneHeld := h.oneHeld
      volume := fun i => by simpa [hv] using h.volume i
      inRange := fun hi => by simpa [hl, hk] using h.inRange (by simpa [hv] using hi)
      suspending := fun i hi => by simpa [hk] using h.suspending i hi
      seek := fun x hx => by
        rw [hl]
        obtain e | e := hs
        · exact h.seek x (by simpa [e] using hx)
        · simp [e] at hx
      lastOpenings := h.lastOpenings }

/-- The opening moves to a number of the volume in the cradle. -/
theorem moveTo (h : s.Placed) {o : Opening} (hi : s.opening.volume.isSome = true) (hv : o.volume = s.opening.volume)
    (hk : o.k ≤ s.leaves) (hs : o.seek = s.opening.seek ∨ o.seek = none) : (s.setOpening o).Placed := by
  have hl : (s.setOpening o).leaves = s.leaves := by simp only [State.leaves, setOpening_opening, hv]; rfl
  obtain ⟨m, hm⟩ := Option.isSome_iff_exists.1 hi
  have hmm := (h.volume m).1 hm
  exact
    { oneHeld := h.oneHeld
      volume := fun i => by simpa [hv] using h.volume i
      inRange := fun _ => by rw [hl]; exact hk
      suspending := fun i hsus => by
        obtain rfl := h.oneHeld i m (.inr (.inl hsus)) (.inl hmm)
        exact absurd (hmm.symm.trans hsus) (by simp)
      seek := fun x hx => by
        rw [hl]
        obtain e | e := hs
        · exact h.seek x (by simpa [e] using hx)
        · simp [e] at hx
      lastOpenings := h.lastOpenings }

end State.Placed

/-! ### The operations -/

theorem Steady.placed {s t : State} (h : Steady s t) (hs : s.Placed) : t.Placed := by
  have hvol i := (h.volumes i).state
  have hn i := (h.volumes i).n
  exact
    { oneHeld := by simpa only [hvol] using hs.oneHeld
      volume := by simpa only [hvol, h.opening_volume] using hs.volume
      inRange := by simpa only [h.opening_volume, h.opening_k, h.leaves] using hs.inRange
      suspending := by simpa only [hvol, hn, h.opening_k] using hs.suspending
      seek := by simpa only [h.opening_seek, h.leaves] using hs.seek
      lastOpenings := by
        intro i k hk
        rw [(h.volumes i).lastOpening] at hk
        rw [hn]
        exact hs.lastOpenings i k hk }

theorem Steady.positioned {s t : State} (h : Steady s t) (hs : s.Positioned) : t.Positioned := by
  have hp : t.Placed := h.placed hs.placed
  obtain e | r := h.opening
  · exact
      { oneHeld := hp.oneHeld
        volume := hp.volume
        positioned := by simpa only [e] using hs.positioned
        parkReturn := by simpa only [e] using hs.parkReturn
        settle := by simpa only [e] using hs.settle
        turn := by simpa only [e] using hs.turn
        direction := by simpa only [e] using hs.direction
        inRange := hp.inRange
        suspending := hp.suspending
        seek := hp.seek
        possible := by simpa only [e, h.turnPossible] using hs.possible
        lastOpenings := hp.lastOpenings }
  · have ne (x : OpeningState) (hx : x.settled = false) : s.opening.state ≠ x ∧ t.opening.state ≠ x :=
      ⟨fun e => by simp [← e, r.before] at hx, fun e => by simp [← e, r.after] at hx⟩
    have hsettle : t.opening.settle = none := by
      have := hs.settle
      simp only [(ne .settling rfl).1, iff_false, Bool.not_eq_true, Option.isSome_eq_false_iff,
        Option.isNone_iff_eq_none] at this
      rw [r.rest]; exact this
    have hturn : t.opening.turn = none := by
      have := hs.turn
      simp only [(ne .turning rfl).1, iff_false, Bool.not_eq_true, Option.isSome_eq_false_iff,
        Option.isNone_iff_eq_none] at this
      rw [r.rest]; exact this
    refine hp.positioned (fun _ _ => ?_) (fun e => absurd e (ne .parked rfl).2) ?_ hturn (ne .turning rfl).2
      r.direction (fun d hd => by rw [h.turnPossible]; exact r.possible d hd)
    · rw [h.opening_volume]; exact hs.positioned (ne .idle rfl).1 (ne .parked rfl).1
    · simp [hsettle, (ne .settling rfl).2]

theorem positionedClosed : SteadyClosed State.Positioned where
  steady := Steady.positioned
  link _ _ h :=
    ⟨h.oneHeld, h.volume, h.positioned, h.parkReturn, h.settle, h.turn, h.direction, h.inRange, h.suspending, h.seek,
      h.possible, h.lastOpenings⟩

namespace State.Placed

variable {s : State}

theorem takeEvaluated (h : s.Placed) (hv : s.opening.volume.isSome = true) (hs : s.opening.settle = none)
    (ht : s.opening.turn = none) : s.takeEvaluated.Positioned := by
  have hne (x : OpeningState) (hx : x.settled = false) : s.evaluated ≠ x := fun e => by
    simp [← e, evaluated_settled] at hx
  have hd := takeEvaluated_direction s
  rw [takeEvaluated_opening] at hd
  have hp : (s.setOpening s.evaluatedOpening).Placed := h.setOpening rfl rfl (.inl rfl)
  have h1 : (s.setOpening s.evaluatedOpening).Positioned :=
    hp.positioned (fun _ _ => hv) (fun e => absurd e (hne .parked rfl))
      (by simp [State.evaluatedOpening, hs, hne .settling rfl]) ht (hne .turning rfl) hd.1 hd.2
  obtain e | ⟨l, n, e⟩ := takeEvaluated_cases s
  · rw [e]; exact h1
  · rw [e]; exact (Steady.refl _).notify.positioned h1

theorem enterSettling (h : s.Placed) (hv : s.opening.volume.isSome = true) (ht : s.opening.turn = none) :
    s.enterSettling.Positioned := by
  have h1 (x : Option Nat) :
      (s.setOpening { s.opening with state := .settling, settle := x, direction := none }).Placed :=
    h.setOpening rfl rfl (.inl rfl)
  unfold State.enterSettling
  dsimp only
  split
  · exact (h1 none).takeEvaluated hv rfl ht
  · exact (h1 _).positioned (fun _ _ => hv) (by simp) (by simp) ht (by simp) (by simp) (by simp)

theorem enterFault (h : s.Placed) (hv : s.opening.volume.isSome = true) (c : FaultCause) :
    (s.enterFault c).Positioned := by
  refine (Steady.refl _).notifyFault.abortBoth.endClaims.positioned ?_
  refine State.Placed.positioned ?_ (fun _ _ => hv) (by simp) (by simp) rfl (by simp) (by simp) (by simp)
  exact h.setOpening rfl rfl (.inl rfl)

end State.Placed

namespace State.Positioned

variable {s t : State}

/-- The agreement rests on the opening record and the volume table alone. -/
theorem congr (h : s.Positioned) (ho : t.opening = s.opening) (ha : t.account.volumes = s.account.volumes) :
    t.Positioned := by
  have hv i : t.volume i = s.volume i := by simp only [State.volume, ha]
  have hl : t.leaves = s.leaves := by simp only [State.leaves, ho, hv]
  exact
    { oneHeld := by simpa only [hv] using h.oneHeld
      volume := by simpa only [hv, ho] using h.volume
      positioned := by simpa only [ho] using h.positioned
      parkReturn := by simpa only [ho] using h.parkReturn
      settle := by simpa only [ho] using h.settle
      turn := by simpa only [ho] using h.turn
      direction := by simpa only [ho] using h.direction
      inRange := by simpa only [ho, hl] using h.inRange
      suspending := by simpa only [ho, hv] using h.suspending
      seek := by simpa only [ho, hl] using h.seek
      possible := fun d hd => by
        have := h.possible d (by rwa [ho] at hd)
        cases d <;> simpa only [State.turnPossible, ho, hl] using this
      lastOpenings := by simpa only [hv] using h.lastOpenings }

theorem turn_none (h : s.Positioned) (hs : s.opening.state ≠ .turning) : s.opening.turn = none := by
  simpa [hs] using h.turn

theorem settle_none (h : s.Positioned) (hs : s.opening.state ≠ .settling) : s.opening.settle = none := by
  simpa [hs] using h.settle

/-- With no volume in the cradle the opening is IDLE or PARKED (R2). -/
theorem empty_cradle (h : s.Positioned) (hv : s.opening.volume = none) :
    s.opening.state = .idle ∨ s.opening.state = .parked := by
  by_contra hn
  simp only [not_or] at hn
  simpa [hv] using h.positioned hn.1 hn.2

/-- A volume that is not MOUNTED is not in the cradle. -/
theorem volume_ne (h : s.Positioned) {i : Fin 16} (hi : (s.volume i).state ≠ .mounted) :
    s.opening.volume ≠ some i := fun e => hi ((h.volume i).1 e)

/-- With no MOUNTED entry there is no volume in the cradle. -/
theorem volume_none (h : s.Positioned) (hi : ∀ i, (s.volume i).state ≠ .mounted) : s.opening.volume = none := by
  cases hv : s.opening.volume with
  | none => rfl
  | some i => exact absurd ((h.volume i).1 hv) (hi i)

/-- An entry changes that is MOUNTED neither before nor after. -/
theorem setVolume (h : s.Positioned) {i : Fin 16} {v : Volume} (hi : (s.volume i).state ≠ .mounted)
    (hv : v.state ≠ .mounted) (hheld : v.state.held → ∀ j, (s.volume j).state.held → j = i)
    (hsus : v.state = .suspending → s.opening.k ≤ v.n) (hlast : ∀ k, v.lastOpening = some k → k ≤ v.n) :
    (s.setVolume i v).Positioned := by
  have hne := h.volume_ne hi
  have hl : (s.setVolume i v).leaves = s.leaves := by
    simp only [State.leaves, setVolume_opening, setVolume_volume]
    split
    · rfl
    · next j hj => rw [if_neg (by rintro rfl; exact hne hj)]
  have hpos (d : Direction) : (s.setVolume i v).turnPossible d = s.turnPossible d := by
    cases d with
    | forward => simp only [State.turnPossible, hl, setVolume_opening]
    | backward => rfl
  exact
    { oneHeld := fun a b ha hb => by
        rw [setVolume_volume] at ha hb
        split at ha <;> split at hb
        · next ea eb => rw [ea, eb]
        · next ea _ => rw [ea, hheld ha b hb]
        · next _ eb => rw [eb, hheld hb a ha]
        · exact h.oneHeld a b ha hb
      volume := fun j => by
        rw [setVolume_volume, setVolume_opening]
        split
        · next e => subst e; simp [hne, hv]
        · exact h.volume j
      positioned := h.positioned
      parkReturn := h.parkReturn
      settle := h.settle
      turn := h.turn
      direction := h.direction
      inRange := by rw [hl]; exact h.inRange
      suspending := fun j hj => by
        rw [setVolume_volume] at hj ⊢
        split at hj
        · next e => rw [if_pos e]; exact hsus hj
        · next e => rw [if_neg e]; exact h.suspending j hj
      seek := by rw [hl]; exact h.seek
      possible := fun d hd => by rw [hpos]; exact h.possible d hd
      lastOpenings := fun j k hk => by
        rw [setVolume_volume] at hk ⊢
        split at hk
        · next e => rw [if_pos e]; exact hlast k hk
        · next e => rw [if_neg e]; exact h.lastOpenings j k hk }

/-- The MOUNTED entry leaves the cradle (R15), and no entry is MOUNTED after. -/
theorem leaveCradle (h : s.Positioned) {i : Fin 16} {v : Volume} (hi : (s.volume i).state = .mounted)
    (hturn : s.opening.state ≠ .turning) (hv : v.state ≠ .mounted) (hsus : v.state = .suspending → s.opening.k ≤ v.n)
    (hlast : ∀ k, v.lastOpening = some k → k ≤ v.n) : (s.setVolume i v).enterIdle.Positioned := by
  have other (j : Fin 16) (hj : j ≠ i) : ¬(s.volume j).state.held := fun hh =>
    hj (h.oneHeld j i hh (.inl hi))
  have hvol (j : Fin 16) : (s.setVolume i v).enterIdle.volume j = if j = i then v else s.volume j :=
    setVolume_volume s i j v
  have hp : (s.setVolume i v).enterIdle.Placed :=
    { oneHeld := fun a b ha hb => by
        have eq (c : Fin 16) (hc : ((s.setVolume i v).enterIdle.volume c).state.held) : c = i := by
          by_contra hn
          rw [hvol, if_neg hn] at hc
          exact other c hn hc
        rw [eq a ha, eq b hb]
      volume := fun j => by
        rw [hvol]
        split
        · simp [State.enterIdle, hv]
        · next e => simpa [State.enterIdle] using fun hm => other j e (.inl hm)
      inRange := by simp [State.enterIdle]
      suspending := fun j hj => by
        rw [hvol] at hj ⊢
        split at hj
        · next e => rw [if_pos e]; exact hsus hj
        · next e => exact absurd (.inr (.inl hj)) (other j e)
      seek := by simp [State.enterIdle]
      lastOpenings := fun j k hk => by
        rw [hvol] at hk ⊢
        split at hk
        · next e => rw [if_pos e]; exact hlast k hk
        · next e => rw [if_neg e]; exact h.lastOpenings j k hk }
  exact hp.positioned (by simp [State.enterIdle]) (by simp [State.enterIdle]) (by simp [State.enterIdle])
    (h.turn_none hturn) (by simp [State.enterIdle]) (by simp [State.enterIdle]) (by simp [State.enterIdle])

/-- An entry becomes MOUNTED while no other is held: its volume is in the cradle at an opening of its own (R15). -/
theorem placed_mounted (h : s.Positioned) {i : Fin 16} {v : Volume} {o : Opening}
    (hheld : ∀ j, (s.volume j).state.held → j = i) (hv : v.state = .mounted)
    (hlast : ∀ k, v.lastOpening = some k → k ≤ v.n) (ho : o.volume = some i) (hk : o.k ≤ v.n)
    (hseek : ∀ k, o.seek = some k → k ≤ v.n) : ((s.setVolume i v).setOpening o).Placed := by
  have hvol (j : Fin 16) : ((s.setVolume i v).setOpening o).volume j = if j = i then v else s.volume j :=
    setVolume_volume s i j v
  have hl : ((s.setVolume i v).setOpening o).leaves = v.n := by
    simp only [State.leaves, setOpening_opening, ho]
    rw [hvol, if_pos rfl]
  have other (j : Fin 16) (hj : j ≠ i) : ¬(s.volume j).state.held := fun hh => hj (hheld j hh)
  exact
    { oneHeld := fun a b ha hb => by
        have eq (c : Fin 16) (hc : (((s.setVolume i v).setOpening o).volume c).state.held) : c = i := by
          by_contra hn
          rw [hvol, if_neg hn] at hc
          exact other c hn hc
        rw [eq a ha, eq b hb]
      volume := fun j => by
        rw [hvol, setOpening_opening, ho]
        split
        · next e => simp [e, hv]
        · next e =>
          have : (s.volume j).state ≠ .mounted := fun hm => other j e (.inl hm)
          simp [this, Ne.symm e]
      inRange := fun _ => by rw [hl]; exact hk
      suspending := fun j hj => by
        rw [hvol] at hj
        split at hj
        · simp [hv] at hj
        · next e => exact absurd (.inr (.inl hj)) (other j e)
      seek := fun k hk => by rw [hl]; exact hseek k hk
      lastOpenings := fun j k hk => by
        rw [hvol] at hk ⊢
        split at hk
        · next e => rw [if_pos e]; exact hlast k hk
        · next e => rw [if_neg e]; exact h.lastOpenings j k hk }

/-- A cradle with no other held entry stands empty, IDLE or PARKED, with no direction in force. -/
theorem waiting (h : s.Positioned) {i : Fin 16} (hi : (s.volume i).state ≠ .mounted)
    (hheld : ∀ j, (s.volume j).state.held → j = i) :
    s.opening.volume = none ∧ (s.opening.state = .idle ∨ s.opening.state = .parked) ∧ s.opening.settle = none ∧
      s.opening.turn = none ∧ s.opening.direction = none := by
  have hv : s.opening.volume = none := h.volume_none fun j hm => by
    obtain rfl := hheld j (.inl hm)
    exact hi hm
  have hs := h.empty_cradle hv
  have ne (x : OpeningState) (h1 : x ≠ .idle) (h2 : x ≠ .parked) : s.opening.state ≠ x := by
    obtain e | e := hs <;> rw [e]
    · exact h1.symm
    · exact h2.symm
  exact ⟨hv, hs, h.settle_none (ne _ (by simp) (by simp)), h.turn_none (ne _ (by simp) (by simp)),
    Opening.undirected h.direction (ne _ (by simp) (by simp)) (ne _ (by simp) (by simp))⟩

theorem enterCradle (h : s.Positioned) {i : Fin 16} {v : Volume} {k : Nat} (hi : (s.volume i).state ≠ .mounted)
    (hheld : ∀ j, (s.volume j).state.held → j = i) (hv : v.state = .mounted) (hk : k ≤ v.n)
    (hlast : ∀ k, v.lastOpening = some k → k ≤ v.n) : ((s.setVolume i v).enterCradle i k).Positioned := by
  obtain ⟨-, -, hsettle, hturn, hdir⟩ := h.waiting hi hheld
  have hp {o : Opening} (h1 : o.volume = some i) (h2 : o.k = k) (h3 : o.seek = none) :=
    h.placed_mounted (o := o) hheld hv hlast h1 (by rwa [h2]) (by simp [h3])
  unfold State.enterCradle
  dsimp only
  split
  · next hs =>
    have hs : s.opening.state = .parked := hs
    refine State.Placed.positioned (hp ?_ ?_ ?_) (fun _ _ => ?_) (fun _ _ => ?_) ?_ ?_ ?_ ?_ ?_
    all_goals first | rfl | simp [hs, hsettle, hturn, hdir]
  · refine State.Placed.enterSettling (hp ?_ ?_ ?_) ?_ ?_
    all_goals first | rfl | exact hturn

/-! ### Save and restore, and the cradle reset -/

theorem moving_state {s : State} {i : Fin 16} (hm : s.moving = some i) :
    (s.volume i).state = .suspending ∨ (s.volume i).state = .resuming := by
  simpa [State.moving] using List.find?_some hm

theorem saveCompleted (h : s.Positioned) {i : Fin 16} (hm : s.moving = some i) : (s.saveCompleted i).Positioned := by
  have hi : (s.volume i).state ≠ .mounted := by obtain e | e := moving_state hm <;> simp [e]
  have h1 : (s.setVolume i { s.volume i with state := .suspended }).Positioned :=
    h.setVolume hi (by simp) (by simp [VolumeState.held]) (by simp) (h.lastOpenings i)
  have h2 := (Steady.refl _).emptyTables.positioned h1
  unfold State.saveCompleted
  dsimp only
  split
  · exact h2
  · exact (Steady.refl _).notify.positioned h2

theorem restoreCompleted (h : s.Positioned) {i : Fin 16} (hm : s.moving = some i) (x : Fin 8) (n : Nat) :
    (s.restoreCompleted i x n).Positioned := by
  have hst := moving_state hm
  have hi : (s.volume i).state ≠ .mounted := by obtain e | e := hst <;> simp [e]
  have hheld : (s.volume i).state.held := .inr hst
  have hone (j : Fin 16) (hj : (s.volume j).state.held) : j = i := h.oneHeld j i hj hheld
  unfold State.restoreCompleted
  extract_lets r v0 v s1 s2 k s3
  have h1 : s1.Positioned :=
    State.Positioned.setVolume ((Steady.refl s).setLeaves.setExceptions.positioned h) hi hi (fun _ => hone)
      (h.suspending i) (h.lastOpenings i)
  have hst2 : Steady s1 s2 := (Steady.refl s1).freeSlot
  have hvol (j : Fin 16) : (s2.volume j).state = (s.volume j).state := by
    rw [(hst2.volumes j).state, setVolume_volume]
    split
    · next e => rw [e]
    · rfl
  have hk : k ≤ (s.volume i).n := by
    cases hl : (s.volume i).lastOpening with
    | none => simp [k, v, v0, hl]
    | some y => simpa [k, v, v0, hl] using h.lastOpenings i y hl
  refine (Steady.refl _).notify.positioned (State.Positioned.enterCradle (hst2.positioned h1) ?_ ?_ rfl hk ?_)
  · rwa [hvol]
  · simpa only [hvol] using hone
  · exact h.lastOpenings i

theorem abandonTransfer (h : s.Positioned) : s.abandonTransfer.Positioned := h.congr (by simp) (by simp)

theorem engineCompleted (h : s.Positioned) (e : Engine) : (s.engineCompleted e).Positioned := by
  have h1 : (s.setEngine .idle).Positioned := h.congr rfl rfl
  unfold State.engineCompleted
  dsimp only
  split
  · next hm _ => exact h1.saveCompleted (by simpa using hm)
  · next hm _ _ => exact h1.restoreCompleted (by simpa using hm) _ _
  · exact h1

theorem engineBurst (h : s.Positioned) (n : Nat) : (s.engineBurst n).Positioned := by
  unfold State.engineBurst
  extract_lets e s1 e'
  have h1 : s1.Positioned := (Steady.ite _ (Steady.refl s).saveWords (.refl s)).positioned h
  split
  · exact (h1.engineCompleted e').congr (by simp) (by simp)
  · exact h1.congr rfl rfl

/-- The cradle reset gives a SUSPENDING entry back to the cradle, and takes a RESUMING one for SUSPENDED (R163). -/
theorem resetVolumes (h : s.Positioned) : s.resetVolumes.Positioned := by
  unfold State.resetVolumes
  split
  · exact h
  · next i hm =>
    have hst := moving_state hm
    have hi : (s.volume i).state ≠ .mounted := by obtain e | e := hst <;> simp [e]
    have hone (j : Fin 16) (hj : (s.volume j).state.held) : j = i := h.oneHeld j i hj (.inr hst)
    obtain ⟨-, hs, hsettle, hturn, hdir⟩ := h.waiting hi hone
    extract_lets v s1 s2 _
    have h1 : s1.Positioned := h.abandonTransfer
    have hv1 : s1.volume = s.volume := volume_congr (by simp [s1])
    split
    · next hsus =>
      have h2 : Steady s1 s2 := by
        dsimp only [s2]
        split
        · exact .refl _
        · exact (Steady.refl _).freeSlot
      have ho : s2.opening = s.opening := by
        have : s2.opening = s1.opening := by dsimp only [s2]; split <;> simp
        rw [this]
        simp [s1]
      have hvol (j : Fin 16) : (s2.volume j).state = (s.volume j).state := by rw [(h2.volumes j).state, hv1]
      have hseek (k : Nat) (hk : s2.opening.seek = some k) : k ≤ v.n := by
        have := h.seek k (by rwa [ho] at hk)
        have : s.leaves = 0 := by simp [State.leaves, h.volume_none fun j hj => by
          obtain rfl := hone j (.inl hj)
          exact hi hj]
        omega
      have hp := (h2.positioned h1).placed_mounted (i := i)
        (v := { v with state := .mounted, saveSlot := none })
        (o := { s2.opening with volume := some i })
        (by simpa only [hvol] using hone) rfl (h.lastOpenings i) rfl
        (by rw [ho]; exact h.suspending i hsus) hseek
      refine hp.positioned (fun _ _ => rfl) (fun _ _ => rfl) ?_ ?_ ?_ ?_ ?_
      all_goals simp only [setOpening_opening, ho, hsettle, hturn, hdir]
      all_goals obtain e | e := hs <;> simp [e]
    · refine (Steady.refl _).emptyTables.positioned (h1.setVolume ?_ (by simp) (by simp [VolumeState.held]) (by simp) ?_)
      · rwa [hv1]
      · exact h.lastOpenings i

theorem resetOpening (h : s.Positioned) : s.resetOpening.Positioned := by
  unfold State.resetOpening
  split
  · exact h
  · split
    · next hm =>
      obtain ⟨i, hi⟩ := Option.isSome_iff_exists.1 hm
      have : s.opening.volume = some i := (h.volume i).2 (by simpa [State.mounted] using List.find?_some hi)
      exact h.placed.enterFault (by simp [this]) _
    · exact h
  · next hp hi => exact h.placed.enterFault (h.positioned hi hp) _

/-! ### The turn and the other commands of the opening -/

theorem takeCause (h : s.Positioned) (c : FaultCause) : (s.takeCause c).Positioned := by
  unfold State.takeCause
  split
  · exact h
  · exact h
  · exact h
  · next hi hp _ => exact h.placed.enterFault (h.positioned hi hp) _

/-- The opening moves to a number of the volume, and settles there. -/
theorem turnTo {r : State} (h : r.Placed) (hv : r.opening.volume.isSome = true) (ht : r.opening.turn = none) {k : Nat}
    (hk : k ≤ r.leaves) : (r.moveTo k).Positioned := by
  refine State.Placed.enterSettling (h.moveTo hv rfl hk ?_) hv ht
  dsimp only
  split
  · exact .inr rfl
  · exact .inl rfl

/-- A leaf count applied: a turn moves to an opening of the volume (R35 to R38). -/
theorem applyCount (h : s.Placed) (hv : s.opening.volume.isSome = true) (ht : s.opening.turn = none) {d : Direction}
    (hd : s.turnPossible d = true) (n : Nat) : (s.applyCount d n).Positioned := by
  have double (j : Nat) {k : Nat} (hk : k ≤ s.leaves) : ((s.addDoubleTurn j).moveTo k).Positioned := by
    have hs : Steady s (s.addDoubleTurn j) := (Steady.refl s).addException.addException
    have ho : (s.addDoubleTurn j).opening = s.opening := by simp [State.addDoubleTurn]
    exact turnTo (hs.placed h) (by rwa [ho]) (by rwa [ho]) (by rwa [hs.leaves])
  have hk : s.opening.k ≤ s.leaves := h.inRange hv
  unfold State.applyCount
  dsimp only
  split
  · exact ((Steady.refl s).addException.placed h).enterSettling (by simpa using hv) (by simpa using ht)
  · exact turnTo h hv ht (by simpa [State.turnPossible] using hd)
  · exact turnTo h hv ht (by omega)
  · split
    · next hle => exact double _ hle
    · exact h.enterFault hv _
  · split
    · exact double _ (by omega)
    · exact h.enterFault hv _
  · exact h.enterFault hv _

theorem endTurn (h : s.Positioned) (ht : s.opening.state = .turning) (n : Nat) : (s.endTurn n).Positioned := by
  have hv : s.opening.volume.isSome = true := h.positioned (by simp [ht]) (by simp [ht])
  obtain ⟨d, hd⟩ := Option.isSome_iff_exists.1 (h.direction.2 (.inr ht))
  have hp : (s.setOpening { s.opening with turn := none }).Placed := h.placed.setOpening rfl rfl (.inl rfl)
  unfold State.endTurn
  rw [hd]
  exact applyCount hp hv rfl (h.possible d hd) n

theorem settleExpires (h : s.Positioned) : s.settleExpires.Positioned := by
  unfold State.settleExpires
  split
  · next hs _ =>
    have hv : s.opening.volume.isSome = true := h.positioned (by simp [hs]) (by simp [hs])
    have hp : (s.setOpening { s.opening with settle := none }).Placed := h.placed.setOpening rfl rfl (.inl rfl)
    exact (Steady.refl _).startWaiting.positioned (hp.takeEvaluated hv rfl (h.turn_none (by simp [hs])))
  · exact h

theorem seekTo (h : s.Positioned) (k : Nat) : (s.seekTo k).state.Positioned := by
  unfold State.seekTo
  dsimp only
  split
  · exact h
  · next hk =>
    have h1 {x : Option Nat} (hx : ∀ y, x = some y → y ≤ s.leaves) :
        (s.setOpening { s.opening with seek := x }).Positioned :=
      { h with seek := hx }
    refine (Steady.ite _ (.refl _) (Steady.refl _).evaluate).positioned (h1 fun y hy => ?_)
    split at hy
    · simp at hy
    · obtain rfl := Option.some.inj hy; omega

theorem resyncTo (h : s.Positioned) (k : Nat)
    (hs : s.opening.state = .fault ∨ s.opening.state = .idle ∧ s.mounted ≠ none) :
    (s.resyncTo k).state.Positioned := by
  have hv : s.opening.volume.isSome = true := by
    obtain hs | ⟨-, hm⟩ := hs
    · exact h.positioned (by simp [hs]) (by simp [hs])
    · obtain ⟨i, hi⟩ := Option.ne_none_iff_exists'.1 hm
      have : s.opening.volume = some i := (h.volume i).2 (by simpa [State.mounted] using List.find?_some hi)
      simp [this]
  have ht : s.opening.turn = none := h.turn_none (by obtain hs | ⟨hs, -⟩ := hs <;> simp [hs])
  unfold State.resyncTo
  split
  · exact h
  · next hk =>
    exact (h.placed.moveTo (o := { s.opening with k := k, seek := none }) hv rfl (Nat.le_of_not_lt hk)
      (.inr rfl)).enterSettling hv ht

theorem parkCradle (h : s.Positioned) (hp : s.opening.state ≠ .parked) (ht : s.opening.state ≠ .turning) :
    s.parkCradle.Positioned := by
  have h1 : (s.endClaims true).Positioned := (Steady.refl s).endClaims.positioned h
  have h2 : ((s.endClaims true).setOpening
      { (s.endClaims true).opening with
        parkReturn := if (s.endClaims true).opening.state = .idle then .nothing else .volume,
        settle := none, direction := none, state := .parked }).Positioned := by
    refine State.Placed.positioned (h1.placed.setOpening rfl rfl (.inl rfl)) (by simp) (fun _ hr => ?_) (by simp) ?_
      (by simp) (by simp) (by simp)
    · have hi : s.opening.state ≠ .idle := fun hi => by simp [hi] at hr
      simpa using h.positioned hi hp
    · simpa using h.turn_none ht
  unfold State.parkCradle
  exact h2.congr (by simp) (by simp)

theorem wakeCradle (h : s.Positioned) (hp : s.opening.state = .parked) : s.wakeCradle.Positioned := by
  have ht : s.opening.turn = none := h.turn_none (by simp [hp])
  have hset : s.opening.settle = none := h.settle_none (by simp [hp])
  unfold State.wakeCradle
  extract_lets o s1 _ s2 s3
  have h1 : s1.Placed := h.placed.setOpening rfl rfl (.inl rfl)
  have h2 : s2.Positioned := by
    dsimp only [s2]
    split
    · next hr => exact h1.enterSettling (h.parkReturn hp hr) ht
    · exact (h1.setOpening (o := { s1.opening with state := .idle, direction := none }) rfl rfl (.inl rfl)).positioned
        (by simp) (by simp) (by simp [s1, o, hset]) ht (by simp) (by simp) (by simp)
  have h3 : s3.Positioned := h2.congr (by simp [s3]) (by simp [s3])
  split
  · exact (Steady.refl _).decideMemory.positioned h3
  · exact h3

theorem grantTurn (h : s.Positioned) (ht : s.opening.state = .turnable) : s.grantTurn.Positioned :=
  { h with
    positioned := fun _ _ => h.positioned (by simp [ht]) (by simp [ht])
    parkReturn := fun hp => by simp [State.grantTurn] at hp
    settle := by simp [State.grantTurn, h.settle_none, ht]
    turn := by simp [State.grantTurn]
    direction := by simp [State.grantTurn, h.direction.2 (.inl ht)] }

theorem tick (h : s.Positioned) : s.tick.Positioned :=
  { h with
    settle := by
      have : (after 1 s.opening.settle).isSome = s.opening.settle.isSome := by simp [after]
      change (after 1 s.opening.settle).isSome = true ↔ _
      rw [this]; exact h.settle
    turn := by
      have : (after 1 s.opening.turn).isSome = s.opening.turn.isSome := by simp [after]
      change (after 1 s.opening.turn).isSome = true ↔ _
      rw [this]; exact h.turn }

/-! ### The volume requests -/

/-- No entry is MOUNTED, SUSPENDING or RESUMING when both searches find none. -/
theorem none_held {s : State} (hm : s.mounted = none) (hv : s.moving = none) (j : Fin 16) :
    ¬(s.volume j).state.held := by
  have h1 := find_allVolumes_none.1 hm j
  have h2 := find_allVolumes_none.1 hv j
  simp only [decide_eq_false_iff_not, not_or] at h1 h2
  exact fun h => h.elim h1 (·.elim h2.1 h2.2)

theorem mountPending (h : s.Positioned) {i : Fin 16} {k : Nat} (hm : s.mounted = none) (hv : s.moving = none)
    (hi : (s.volume i).state = .pending) (hk : k ≤ (s.volume i).n) : (s.mountPending i k).Positioned := by
  have h1 : ((s.setLeaves (freshLeaves (s.volume i).n)).setExceptions []).Positioned :=
    (Steady.refl s).setLeaves.setExceptions.positioned h
  exact h1.enterCradle (by simp [hi]) (fun j hj => absurd hj (none_held hm hv j)) rfl hk (h.lastOpenings i)

theorem resume (h : s.Positioned) {i : Fin 16} {x : Word} (hm : s.mounted = none) (hv : s.moving = none)
    (hi : (s.volume i).state = .suspended) (hx : x ≠ lastOpeningMarker → x.toNat ≤ (s.volume i).n) :
    (s.resume i x).Positioned := by
  have h1 : (s.setVolume i
      { s.volume i with
        state := .resuming,
        lastOpening := if x = lastOpeningMarker then (s.volume i).lastOpening else some x.toNat }).Positioned := by
    refine h.setVolume (by simp [hi]) (by simp) (fun _ j hj => absurd hj (none_held hm hv j)) (by simp) fun k hk => ?_
    dsimp only at hk ⊢
    split at hk
    · exact h.lastOpenings i k hk
    · next hne => obtain rfl := Option.some.inj hk; exact hx hne
  unfold State.resume
  dsimp only
  split
  · exact h1
  · exact h1.congr rfl rfl

theorem mounted_state {s : State} {i : Fin 16} (hm : s.mounted = some i) : (s.volume i).state = .mounted := by
  simpa [State.mounted] using List.find?_some hm

theorem suspend (h : s.Positioned) {i : Fin 16} (x : Fin 8) (ht : s.opening.state ≠ .turning)
    (hm : (s.volume i).state = .mounted) : (s.suspend i x).Positioned := by
  have hk : s.opening.k ≤ (s.volume i).n := by
    have hv := (h.volume i).2 hm
    simpa [State.leaves, hv] using h.inRange (by simp [hv])
  have h1 (a : Slot) : (s.setSlot x a).Positioned := (Steady.refl s).setSlot.positioned h
  unfold State.suspend
  refine State.Positioned.congr (State.Positioned.leaveCradle (h1 _) hm ht ?_ ?_ ?_) rfl rfl
  · simp
  · exact fun _ => hk
  · rintro _ ⟨⟩; exact hk

theorem closeMounted (h : s.Positioned) {i : Fin 16} (ht : s.opening.state ≠ .turning)
    (hm : (s.volume i).state = .mounted) : (s.closeMounted i).Positioned := by
  have hs : Steady s (s.endClaims true) := (Steady.refl s).endClaims
  have h1 := hs.positioned h
  have ho : (s.endClaims true).opening = s.opening := by simp
  have hm1 : ((s.endClaims true).volume i).state = .mounted := by rw [(hs.volumes i).state, hm]
  have hk : (s.endClaims true).opening.k ≤ ((s.endClaims true).volume i).n := by
    have hv := (h1.volume i).2 hm1
    have := h1.inRange (by rw [hv]; rfl)
    simpa only [State.leaves, hv] using this
  refine (Steady.refl _).notify.emptyTables.positioned ?_
  refine State.Positioned.leaveCradle (v := { (s.endClaims true).volume i with
    state := .closed, lastOpening := some (s.endClaims true).opening.k }) h1 hm1 (by rwa [ho]) (by simp) (by simp) ?_
  rintro _ ⟨⟩
  exact hk

theorem dropImage (h : s.Positioned) {i : Fin 16} (hi : (s.volume i).state = .suspended) :
    (s.dropImage i).Positioned := by
  have changed {r : State} (hr : Steady s r) : (r.setVolume i { s.volume i with saveSlot := none }).Positioned := by
    refine (hr.positioned h).setVolume ?_ ?_ ?_ ?_ (h.lastOpenings i)
    · rw [(hr.volumes i).state, hi]; simp
    all_goals simp [hi, VolumeState.held]
  unfold State.dropImage
  refine (Steady.refl _).notify.positioned ?_
  split
  · exact changed (.refl s)
  · exact changed (Steady.refl s).freeSlot

theorem reset : State.reset.Positioned where
  oneHeld := by decide
  volume := by decide
  positioned := by decide
  parkReturn := by decide
  settle := by decide
  turn := by decide
  direction := by decide
  inRange := by decide
  suspending := by decide
  seek := by simp [State.reset, Opening.reset]
  possible := by simp [State.reset, Opening.reset]
  lastOpenings := by
    have (i : Fin 16) : (State.reset.volume i).lastOpening = none := by revert i; decide
    simp [this]

end State.Positioned

theorem positionedCradle : CradleClosed State.Positioned where
  toSteadyClosed := positionedClosed
  tick h := h.tick
  reset _ _ := State.Positioned.reset.congr rfl rfl
  register _ _ _ _ _ h hi :=
    h.setVolume (by simp [hi]) (by simp [registered]) (by simp [registered, VolumeState.held]) (by simp [registered])
      (by simp [registered])
  mountPending h _ hm hv hi hk := h.mountPending hm hv hi hk
  resume h _ hm hv hi hx := h.resume hm hv hi hx
  suspend h _ _ ht hm := h.suspend _ ht (State.Positioned.mounted_state hm)
  closeMounted h _ _ ht hm := h.closeMounted ht hm
  closeSuspended h hi :=
    (h.dropImage hi).setVolume (by simp [dropImage_volume, hi]) (by simp) (by simp [VolumeState.held]) (by simp)
      ((h.dropImage hi).lastOpenings _)
  clearEntry h hi :=
    h.setVolume (by obtain e | e | e := hi <;> simp [e]) (by simp [Volume.empty])
      (by simp [Volume.empty, VolumeState.held]) (by simp [Volume.empty]) (by simp [Volume.empty])
  dropImage h hi := h.dropImage hi
  seekTo k h := h.seekTo k
  resyncTo k h hs := h.resyncTo k hs
  parkCradle h hp _ ht := h.parkCradle hp ht
  wakeCradle h hp := h.wakeCradle hp
  resetOpening h := h.resetOpening
  resetVolumes h := h.resetVolumes
  grantTurn h ht := h.grantTurn ht
  armCode _ h := { h with }
  takeCause c h := h.takeCause c
  endTurn n h ht := h.endTurn ht n
  settleExpires h := h.settleExpires
  turnExpires h := by
    unfold State.turnExpires
    split
    · next ht _ => exact h.placed.enterFault (h.positioned (by simp [ht]) (by simp [ht])) _
    · exact h
  staleBurst h := h.congr (by simp) (by simp)
  engineBurst n h := h.engineBurst n
  refreshExpires h := by
    unfold State.refreshExpires
    split
    · exact h
    · split
      · exact h.congr (by simp) (by simp)
      · exact h

/-- Settles O60: every operation that moves the opening or an entry of the table moves the other with it. -/
theorem positionedKept : Obligations.PositionedKept := fun _ _ h he =>
  positionedCradle.step (fun _ h => h.congr rfl rfl) h he

end Sys2Proof.Machine
end

section
/-! PROOFS. Every command answers a next state and leaves the commands that wait; power-on reset and port reset. -/

namespace Sys2Proof.Machine

open Sys2Proof

/-! ### The commands that wait (log 4) -/

/-- No command touches the queue of the commands that wait. -/
theorem pendingCradle (q : List Instr) : CradleClosed (fun s => s.pending = q) where
  steady h hs := h.pending.trans hs
  link _ _ h := h
  tick h := h
  reset _ h := h
  register _ _ _ _ _ h _ := h
  mountPending h _ _ _ _ _ := by simpa [State.mountPending] using h
  resume h _ _ _ _ _ := by
    unfold State.resume
    dsimp only
    split <;> simpa using h
  suspend h _ _ _ _ := by simpa [State.suspend] using h
  closeMounted h _ _ _ _ := by simpa [State.closeMounted] using h
  closeSuspended h _ := by
    simp only [State.closeSuspended, State.dropImage, setVolume_pending, notify_frame]
    split <;> simpa using h
  clearEntry h _ := h
  dropImage h _ := by
    simp only [State.dropImage, setVolume_pending, notify_frame]
    split <;> simpa using h
  seekTo _ h := by
    unfold State.seekTo State.openingReply
    dsimp only
    repeat' split
    all_goals simpa using h
  resyncTo _ h _ := by
    unfold State.resyncTo State.openingReply
    split <;> simpa using h
  parkCradle h _ _ _ := by simpa [State.parkCradle] using h
  wakeCradle h _ := by
    unfold State.wakeCradle
    dsimp only
    repeat' split
    all_goals simpa using h
  resetOpening h := by
    unfold State.resetOpening
    repeat' split
    all_goals simpa using h
  resetVolumes h := by
    unfold State.resetVolumes
    dsimp only
    repeat' split
    all_goals simpa using h
  grantTurn h _ := h
  armCode _ h := h
  takeCause _ h := by simpa using h
  endTurn _ h _ := by
    unfold State.endTurn State.applyCount State.moveTo State.addDoubleTurn
    dsimp only
    repeat' split
    all_goals simpa using h
  settleExpires h := by
    unfold State.settleExpires
    split <;> simpa using h
  turnExpires h := by
    unfold State.turnExpires
    split <;> simpa using h
  staleBurst h := by simpa using h
  engineBurst _ h := by simpa using h
  refreshExpires h := by
    unfold State.refreshExpires
    repeat' split
    all_goals simpa using h

/-- Every command answers a next state: no arm of `exec` is a fault or a refusal. -/
theorem exec_next (c : Instr) (s : State) : ∃ t, exec c s = .next t := by
  cases c <;> exact ⟨_, rfl⟩

/-- Settles O2. -/
theorem commandsComplete : Obligations.CommandsComplete := fun c s => by
  obtain ⟨t, ht⟩ := exec_next c s
  exact ⟨t, ht, (pendingCradle s.pending).exec rfl ht⟩

/-! ### Power-on reset and port reset (R25, R191) -/

@[simp] theorem placeResponse_opening (s : State) (l : LinkId) (r : Response) :
    (s.placeResponse l r).opening = s.opening := by
  unfold State.placeResponse
  dsimp only
  split <;> rfl

/-- A port reset acts on its link alone. -/
@[simp] theorem portReset_opening (s : State) (l : LinkId) : (s.portReset l).opening = s.opening := by
  unfold State.portReset
  dsimp only
  split
  · rfl
  · simp

/-- Settles O3. -/
theorem powerOnOpening : Obligations.PowerOnOpening :=
  ⟨fun _ => ⟨_, rfl, rfl, rfl, fun l => by cases l <;> rfl⟩, fun l s => ⟨_, rfl, portReset_opening s l⟩⟩

/-! ### The invariants after power-on reset -/

theorem reset_bounded : State.reset.Bounded where
  links l := by cases l <;> decide
  fifos h := by cases h <;> decide
  drains := by decide
  buffer := Nat.zero_le _
  owed := by decide
  canonical := reset_mem_wf

/-- Settles O5. -/
theorem resetInvariants : Obligations.ResetInvariants := ⟨reset_bounded, reset_powered, State.Positioned.reset⟩

end Sys2Proof.Machine
end

section
/-! PROOFS. The evaluation of a settled opening (R5 to R10). -/

namespace Sys2Proof.Machine

open Sys2Proof

/-! ### The questions of R5 and R6 -/

theorem inFlight_iff (s : State) : s.inFlight = true ↔ s.ctx .left ≠ none ∨ s.ctx .right ≠ none := by
  simp [State.inFlight, Option.isSome_iff_ne_none]

theorem claimHeld_iff (s : State) : s.claimHeld = true ↔ s.claimOf .left ≠ none ∨ s.claimOf .right ≠ none := by
  simp [State.claimHeld, Option.isSome_iff_ne_none]

theorem done_iff (x : SideState) : x.done = true ↔ x = .captured ∨ x = .exempt := by
  cases x <;> simp [SideState.done]

/-- All present sides are done: each is in the leaf table, CAPTURED or EXEMPT. -/
theorem allDone_iff (s : State) :
    s.allDone = true ↔
      ∀ h j, s.presentLeaf h = some j →
        ∃ r, s.side (faceOf h) j = some r ∧ (r.state = .captured ∨ r.state = .exempt) := by
  have half (h : Half) :
      (match s.presentLeaf h with
       | none => true
       | some j =>
         match s.side (faceOf h) j with
         | none => false
         | some r => r.state.done) = true ↔
        ∀ j, s.presentLeaf h = some j →
          ∃ r, s.side (faceOf h) j = some r ∧ (r.state = .captured ∨ r.state = .exempt) := by
    split
    · next hn => simp [hn]
    · next j hj =>
      split
      · next hs => simp [hj, hs]
      · next r hr => simp [hj, hr, done_iff]
  have both : s.allDone = true ↔ ∀ h ∈ [Half.left, Half.right],
      (match s.presentLeaf h with
       | none => true
       | some j =>
         match s.side (faceOf h) j with
         | none => false
         | some r => r.state.done) = true := List.all_eq_true
  rw [both]
  constructor
  · exact fun hall h => (half h).1 (hall h (by cases h <;> simp))
  · exact fun hall h _ => (half h).2 (hall h)

theorem turnCondition_iff (s : State) :
    s.turnCondition = true ↔ s.allDone = true ∨ ∃ x, s.opening.seek = some x ∧ x ≠ s.opening.k := by
  unfold State.turnCondition
  split
  · next h => simp [h]
  · next x h => simp [h]

/-! ### The first row of R7 that holds -/

/-- The turn of R7, row 2: no claim, the turn condition, and a direction that is possible. -/
def State.turnableNow (s : State) : Bool :=
  !s.claimHeld && s.turnCondition && s.turnPossible s.turnDirection

/-- The end of R7, row 3: the last opening, no seek target, every present side done. -/
def State.finishedNow (s : State) : Bool :=
  decide (s.opening.k = s.leaves) && s.opening.seek.isNone && s.allDone

theorem turnableNow_iff (s : State) :
    s.turnableNow = true ↔
      ¬(s.claimOf .left ≠ none ∨ s.claimOf .right ≠ none) ∧
        ((∀ h j, s.presentLeaf h = some j →
            ∃ r, s.side (faceOf h) j = some r ∧ (r.state = .captured ∨ r.state = .exempt)) ∨
          ∃ x, s.opening.seek = some x ∧ x ≠ s.opening.k) ∧
        s.turnPossible s.turnDirection = true := by
  simp only [State.turnableNow, Bool.and_eq_true, Bool.not_eq_true', ← Bool.not_eq_true, claimHeld_iff,
    turnCondition_iff, allDone_iff, and_assoc]

theorem finishedNow_iff (s : State) :
    s.finishedNow = true ↔
      s.opening.k = s.leaves ∧ s.opening.seek = none ∧
        ∀ h j, s.presentLeaf h = some j →
          ∃ r, s.side (faceOf h) j = some r ∧ (r.state = .captured ∨ r.state = .exempt) := by
  simp only [State.finishedNow, Bool.and_eq_true, decide_eq_true_eq, Option.isNone_iff_eq_none, allDone_iff,
    and_assoc]

theorem evaluated_eq (s : State) :
    s.evaluated =
      if s.inFlight = true then .exposing
      else if s.turnableNow = true then .turnable
      else if s.finishedNow = true then .finished
      else .ready := rfl

/-- The notices of an evaluation (R9, R31). -/
theorem takeEvaluated_links (s : State) :
    s.takeEvaluated.links =
      if s.evaluated = .turnable ∧ (s.opening.state ≠ .turnable ∨ s.opening.direction ≠ some s.turnDirection) then
        (s.notify .A (.turnReady s.turnDirection s.opening.k s.opening.volume)).links
      else if s.evaluated = .finished ∧ s.opening.state ≠ .finished then
        (s.notify .S (.volumeEnd s.opening.volume s.leaves)).links
      else s.links := by
  unfold State.takeEvaluated
  extract_lets st dir entry o s1
  have hentry : entry ↔ s.opening.state ≠ st ∨ (st = .turnable ∧ s.opening.direction ≠ dir) := .rfl
  have hdir : st = .turnable → dir = some s.turnDirection := fun h => if_pos h
  change _ = if st = .turnable ∧ _ then _ else if st = .finished ∧ _ then _ else _
  by_cases ht : st = .turnable
  · simp only [hentry, ht, hdir ht, true_and, and_true, reduceCtorEq, false_and, and_false, if_false]
    split <;> rfl
  · simp only [hentry, ht, false_and, and_false, or_false, if_false]
    by_cases hf : st = .finished
    · simp only [hf, true_and, and_true]
      split <;> rfl
    · simp only [hf, false_and, and_false, if_false]
      rfl

theorem evaluate_unsettled {s : State} (h : s.opening.state.settled = false) : s.evaluate = s := by
  simp [State.evaluate, h]

theorem evaluate_settled {s : State} (h : s.opening.state.settled = true) : s.evaluate = s.takeEvaluated := by
  simp [State.evaluate, h]

/-- Settles O12. -/
theorem evaluationEvent : Obligations.EvaluationEvent := by
  intro s
  refine ⟨evaluate_unsettled, fun hs => ?_⟩
  have hstate : s.evaluate.opening.state = s.evaluated := by
    rw [evaluate_settled hs, takeEvaluated_opening]; rfl
  have hlinks := takeEvaluated_links s
  rw [← evaluate_settled hs] at hlinks
  have hfly := inFlight_iff s
  have hturn := turnableNow_iff s
  have hfin := finishedNow_iff s
  refine ⟨fun h1 => ?_, fun h1 h2 => ?_, fun h1 h2 h3 => ?_, fun h1 h2 h3 => ?_, ?_, fun h1 h2 => ?_, fun h1 h2 => ?_,
    fun h1 h2 => ?_, ?_⟩
  · rw [hstate, evaluated_eq, if_pos (hfly.2 h1)]
  · rw [hstate, evaluated_eq, if_neg (mt hfly.1 h1), if_pos (hturn.2 h2)]
  · rw [hstate, evaluated_eq, if_neg (mt hfly.1 h1), if_neg (mt hturn.1 h2), if_pos (hfin.2 h3)]
  · rw [hstate, evaluated_eq, if_neg (mt hfly.1 h1), if_neg (mt hturn.1 h2), if_neg (mt hfin.1 h3)]
  · rw [hstate]
    rw [evaluate_settled hs, takeEvaluated_opening]
    rfl
  · rw [hstate] at h1
    rw [hlinks, if_pos ⟨h1, h2⟩]
  · rw [hstate] at h1
    rw [hlinks, if_neg (by simp [h1]), if_pos ⟨h1, h2⟩]
  · rw [hstate] at h1 h2
    rw [hlinks, if_neg, if_neg]
    · rintro ⟨hf, hn⟩; exact hn (h2 hf)
    · rintro ⟨ht, hn⟩
      obtain ⟨e1, e2⟩ := h1 ht
      exact hn.elim (absurd e1) (absurd e2)
  · simp [State.keeps, Part.same]

end Sys2Proof.Machine
end

section
/-! PROOFS. The dispatcher's checks (R185, R186): a request that passes them, and one that is refused, waits, is taken
later or overruns. -/

namespace Sys2Proof.Machine

open Sys2Proof

/-! ### Requests that pass the dispatcher -/

/-- The dispatcher passes the frame of a command on its link (R186): its kind is one of the link's role, and its body
one that the kind accepts. -/
structure Passes (c : Instr) (l : LinkId) (f : Frame) : Prop where
  frame : frameOf c = some (l, f)
  role : ∃ r, roleOf f.kind = some r ∧ roleAllows r l = true
  parses : (parseBody l f.kind.toNat f.body).isSome = true
  fits : f.body.length ≤ Config.maxRequestBody

namespace Passes

variable {c : Instr} {l : LinkId} {f : Frame} {s u : State} {act : State → Reply} {st : Status} {b : List Byte}

/-- A request that changes nothing but its link. -/
theorem pure (hc : Passes c l f) (h : s.portFree l) (hact : act (s.taken l f.kind) = ⟨s.taken l f.kind, st, b⟩) :
    s.ask c act = s.answered l f.kind st b := by
  obtain ⟨r, hr, ha⟩ := hc.role
  exact ask_pure hc.frame hr ha hc.parses hc.fits h hact

/-- A request that begins nothing at the arbiters. -/
theorem quiet (hc : Passes c l f) (h : s.portFree l) (hact : act (s.taken l f.kind) = ⟨u, st, b⟩)
    (hdrop : (u.link l).dropAnswer = (s.link l).dropAnswer)
    (hl : u.light.held = s.light.held) (hm : u.memory = s.memory) (hd : u.drain = s.drain) :
    s.ask c act = u.answered l f.kind st b := by
  obtain ⟨r, hr, ha⟩ := hc.role
  exact ask_quiet hc.frame hr ha hc.parses hc.fits h hact (hdrop.trans h.2.2.2) hl hm hd

/-- A request after which the arbiters decide. -/
theorem reply (hc : Passes c l f) (h : s.portFree l) (hact : act (s.taken l f.kind) = ⟨u, st, b⟩)
    (hdrop : (u.link l).dropAnswer = (s.link l).dropAnswer) :
    s.ask c act = s.arbitrate (u.answered l f.kind st b) := by
  obtain ⟨r, hr, ha⟩ := hc.role
  exact ask_reply hc.frame hr ha hc.parses hc.fits h hact (hdrop.trans h.2.2.2)

end Passes

/-! ### The body of a dispatcher's refusal -/

theorem mem_armKinds (k : Byte) : k ∈ armKinds ↔ 0x70 ≤ k.toNat ∧ k.toNat ≤ 0x73 := by
  simp only [armKinds, List.mem_cons, List.not_mem_nil, or_false]
  bv_omega

theorem mem_openingKinds (k : Byte) : k ∈ openingKinds ↔ 0x30 ≤ k.toNat ∧ k.toNat ≤ 0x35 := by
  simp only [openingKinds, List.mem_cons, List.not_mem_nil, or_false]
  bv_omega

theorem dispatchBody_eq (s : State) (k : Byte) :
    s.dispatchBody k =
      if 0x70 ≤ k.toNat ∧ k.toNat ≤ 0x73 then s.armView
      else if 0x30 ≤ k.toNat ∧ k.toNat ≤ 0x35 then s.openingStatus else [] := by
  simp only [State.dispatchBody, mem_armKinds, mem_openingKinds]

/-- A kind that is no request kind has no body in its refusal. -/
theorem dispatchBody_of_no_role (s : State) {k : Byte} (h : roleOf k = none) : s.dispatchBody k = [] := by
  have hk : ¬(0x70 ≤ k.toNat ∧ k.toNat ≤ 0x73) ∧ ¬(0x30 ≤ k.toNat ∧ k.toNat ≤ 0x35) := by
    unfold roleOf at h
    dsimp only at h
    repeat' split at h
    all_goals simp at h
    omega
  rw [dispatchBody_eq, if_neg hk.1, if_neg hk.2]

/-! ### A request at its link -/

/-- A frame that a link free to take requests refuses: the answer is all that happens. -/
theorem ask_refused {s : State} {c : Instr} {l : LinkId} {f : Frame} {act : State → Reply} {st : Status}
    (hf : frameOf c = some (l, f)) (hlen : f.body.length ≤ Config.maxRequestBody) (h : s.portFree l)
    (hd : (s.taken l f.kind).dispatch l f act = (s.taken l f.kind).turnAway f.kind st) :
    s.ask c act = s.answered l f.kind st (s.dispatchBody f.kind) := by
  obtain ⟨h1, h2, h3, h4⟩ := id h
  have hb : (s.taken l f.kind).dispatchBody f.kind = s.dispatchBody f.kind := dispatchBody_congr (by simp) (by simp) _
  have hr : s.request l f act = s.answered l f.kind st (s.dispatchBody f.kind) := by
    unfold State.request
    simp only [h1, h2, h3]
    rw [if_neg (by omega)]
    simp only [Option.isSome_none, Bool.false_and, Bool.false_eq_true, if_false, Option.isNone_none, Bool.and_self,
      if_true, State.takeRequest]
    change State.placeResponse ((s.taken l f.kind).dispatch l f act).state l _ = _
    rw [show (s.setLink l { s.link l with request := none, answerDue := some f.kind }) = s.taken l f.kind from rfl, hd]
    simp only [State.turnAway]
    rw [placeResponse_eq (by simp [h4]), answered_taken h, hb]
  unfold State.ask
  simp only [hf, hr]
  exact arbitrate_same (by simp) (by simp) (by simp)

/-- A frame that meets a response or an answer due waits in the request buffer (R185). -/
theorem ask_waits {s : State} {c : Instr} {l : LinkId} {f : Frame} {act : State → Reply}
    (hf : frameOf c = some (l, f)) (hlen : f.body.length ≤ Config.maxRequestBody)
    (hw : (s.link l).response ≠ none ∨ (s.link l).answerDue ≠ none)
    (hr : (s.link l).request = none ∨ (s.link l).request = some f) :
    s.ask c act = s.setLink l { s.link l with request := some f } := by
  have h1 : ((s.link l).request.isSome && decide ((s.link l).request ≠ some f)) = false := by
    obtain h | h := hr <;> simp [h]
  have h2 : ((s.link l).response.isNone && (s.link l).answerDue.isNone) = false := by
    obtain h | h := hw
    · cases e : (s.link l).response <;> simp_all
    · cases e : (s.link l).answerDue <;> simp_all
  unfold State.ask State.request
  simp only [hf, h1, h2, Bool.false_eq_true, if_false]
  rw [if_neg (by omega)]
  exact arbitrate_same rfl rfl rfl

/-- A frame that meets another request in the buffer is discarded with OVERRUN (R185). -/
theorem ask_overruns {s : State} {c : Instr} {l : LinkId} {f g : Frame} {act : State → Reply}
    (hf : frameOf c = some (l, f)) (hlen : f.body.length ≤ Config.maxRequestBody)
    (hg : (s.link l).request = some g) (hne : g ≠ f) :
    s.ask c act = s.setLink l { s.link l with overrun := true } := by
  unfold State.ask State.request
  simp only [hf, hg]
  rw [if_neg (by omega), if_pos (by simpa using hne)]
  exact arbitrate_same rfl rfl rfl

/-- The arbiters look at the light unit, the frame memory controller and the drain unit before the event alone. -/
theorem arbitrate_congr {s s' t : State} (hl : s'.light = s.light) (hm : s'.memory = s.memory)
    (hd : s'.drain = s.drain) : s'.arbitrate t = s.arbitrate t := by
  unfold State.arbitrate State.decideIfBegan State.decideIfPlaced
  rw [requests_congr hm hd, hl]

/-- A frame that waits in the buffer is taken as if it had come just then (R185). -/
theorem ask_taken_later {s : State} {c : Instr} {l : LinkId} {f : Frame} {act : State → Reply}
    (hf : frameOf c = some (l, f)) (hlen : f.body.length ≤ Config.maxRequestBody)
    (hr : (s.link l).request = some f) (h1 : (s.link l).response = none) (h2 : (s.link l).answerDue = none) :
    s.ask c act = (s.setLink l { s.link l with request := none }).ask c act := by
  have hlt : ¬ Config.maxRequestBody < f.body.length := by omega
  have hreq : s.request l f act = (s.setLink l { s.link l with request := none }).request l f act := by
    simp [State.request, hlt, hr, h1, h2, State.takeRequest]
  unfold State.ask
  simp only [hf]
  rw [arbitrate_congr (s' := s.setLink l _) (s := s) rfl rfl rfl, hreq]

/-! ### Every request command -/

theorem length_flatMap_stepArgBytes (xs : List StepArg) : (xs.flatMap stepArgBytes).length = 5 * xs.length := by
  induction xs with
  | nil => rfl
  | cons x xs ih =>
    simp only [List.flatMap_cons, List.length_append, ih, List.length_cons, stepArgBytes, List.length_nil, length_be]
    omega

theorem stepsCarried_le (c : Byte) : stepsCarried c ≤ 8 := by
  unfold stepsCarried
  split <;> omega

/-- The frame of a well-formed request fits the request buffer (R184). -/
theorem frameOf_fits {c : Instr} {l : LinkId} {f : Frame} (hc : c.wellFormed = true) (hf : frameOf c = some (l, f)) :
    f.body.length ≤ Config.maxRequestBody := by
  cases c <;> simp only [frameOf, reduceCtorEq, Option.some.injEq, Prod.mk.injEq] at hf
  all_goals obtain ⟨rfl, rfl⟩ := hf
  case requestKindUnknown =>
    simp only [Instr.wellFormed, Bool.and_eq_true, decide_eq_true_eq] at hc
    exact hc.1.1
  case register mark _ _ _ _ _ _ =>
    simp only [Instr.wellFormed, decide_eq_true_eq] at hc
    simp only [List.length_cons, List.length_append, length_be, Config.maxRequestBody]
    omega
  case programSetWrite count steps =>
    simp only [Instr.wellFormed, decide_eq_true_eq] at hc
    have := stepsCarried_le count
    simp only [List.length_append, List.length_cons, List.length_nil, length_flatMap_stepArgBytes,
      Config.maxRequestBody]
    omega
  case readVolume _ _ part => cases part <;> simp [Config.maxRequestBody]
  all_goals simp [Config.maxRequestBody]

/-- A well-formed request command but PORT_RESET offers its frame to the dispatcher. -/
theorem exec_request {c : Instr} {l : LinkId} {f : Frame} (hc : c.wellFormed = true) (hf : frameOf c = some (l, f))
    (hp : ∀ l', c ≠ .portReset l') : ∃ act, ∀ s, exec c s = .next (s.ask c act) := by
  cases c
  case portReset l' => exact absurd rfl (hp l')
  case requestKindUnknown kind body =>
    simp only [Instr.wellFormed, Bool.and_eq_true, decide_eq_true_eq, Option.isNone_iff_eq_none] at hc
    exact ⟨fun s => s.refuse .malformed,
      fun s => congrArg Host.Outcome.next (if_neg (by rintro (h | h) <;> simp_all))⟩
  all_goals first | exact ⟨_, fun s => rfl⟩ | simp [frameOf] at hf

/-- PORT_RESET is open to every link, and empties the request buffer. -/
theorem portReset_request (s : State) (l : LinkId) (q : Option Frame) :
    (s.setLink l { s.link l with request := q }).portReset l = s.portReset l := by
  simp [State.portReset]

/-- Settles O11. -/
theorem requestChecks : Obligations.RequestChecks := by
  refine ⟨fun l kind body s hc hs => ?_, fun c l f r s hc hf hr ha hs => ?_, fun c l f s hc hf hp => ?_,
    fun c l f s hc hf hr h1 h2 => ?_⟩
  · have hf : frameOf (.requestKindUnknown l kind body) = some (l, ⟨kind, body⟩) := rfl
    have hlen := frameOf_fits hc hf
    obtain ⟨act, hact⟩ := exec_request hc hf (by simp)
    have hparse : parseBody l kind.toNat body = none := by
      simp only [Instr.wellFormed, Bool.and_eq_true, Option.isNone_iff_eq_none] at hc
      exact hc.2
    refine ⟨fun hr => ?_, fun r hr => ?_⟩
    · rw [hact, ask_refused (st := .malformed) hf hlen hs (by simp [State.dispatch, hr]),
        dispatchBody_of_no_role s hr]
    · dsimp only
      rw [← dispatchBody_eq, hact]
      split
      · next ha => rw [ask_refused (st := .malformed) hf hlen hs (by simp [State.dispatch, hr, ha, hparse])]
      · next ha =>
        rw [ask_refused (st := .role) hf hlen hs (by simp [State.dispatch, hr, Bool.eq_false_iff.2 ha])]
  · have hp : ∀ l', c ≠ .portReset l' := by
      rintro l' rfl
      obtain ⟨rfl, rfl⟩ := Prod.mk.inj (Option.some.inj hf)
      obtain rfl : Role.common = r := Option.some.inj hr
      simp [roleAllows] at ha
    obtain ⟨act, hact⟩ := exec_request hc hf hp
    dsimp only
    rw [← dispatchBody_eq, hact, ask_role hf hr ha (frameOf_fits hc hf) hs]
  · obtain ⟨act, hact⟩ := exec_request hc hf hp
    have hlen := frameOf_fits hc hf
    exact ⟨fun hw hr => by rw [hact, ask_waits hf hlen hw hr], fun g hg hne => by rw [hact, ask_overruns hf hlen hg hne]⟩
  · by_cases hp : ∀ l', c ≠ .portReset l'
    · obtain ⟨act, hact⟩ := exec_request hc hf hp
      rw [hact, hact, ← ask_taken_later hf (frameOf_fits hc hf) hr h1 h2]
    · simp only [ne_eq, not_forall, not_not] at hp
      obtain ⟨l', rfl⟩ := hp
      obtain ⟨rfl, rfl⟩ := Prod.mk.inj (Option.some.inj hf)
      exact congrArg Host.Outcome.next (portReset_request s l' none).symm

end Sys2Proof.Machine
end

section
/-! PROOFS. SEEK (R13), RESYNC (R20) and the causes of a fault (R27, R33, R41) in every opening state. -/

namespace Sys2Proof.Machine

open Sys2Proof

/-! ### Requests of link S and link A that pass the dispatcher -/

theorem Passes.seek (x : Word) : Passes (.seek .S x) .S ⟨0x30, be 2 x.toNat⟩ :=
  ⟨rfl, ⟨_, rfl, rfl⟩, rfl, by simp [Config.maxRequestBody]⟩

theorem Passes.resync (x : Word) : Passes (.resync .S x) .S ⟨0x31, be 2 x.toNat⟩ :=
  ⟨rfl, ⟨_, rfl, rfl⟩, rfl, by simp [Config.maxRequestBody]⟩

theorem Passes.turnBegin : Passes (.turnBegin .A) .A ⟨0x71, []⟩ :=
  ⟨rfl, ⟨_, rfl, rfl⟩, rfl, by simp⟩

theorem Passes.armFault (code : Byte) : Passes (.armFault .A code) .A ⟨0x73, [code]⟩ :=
  ⟨rfl, ⟨_, rfl, rfl⟩, rfl, by simp [Config.maxRequestBody]⟩

/-! ### SEEK -/

/-- SEEK by opening state (R13). -/
theorem exec_seek (x : Word) (s : State) :
    ∃ act, exec (.seek .S x) s = .next (s.ask (.seek .S x) act) ∧
      ∀ t : State,
        (t.opening.state = .idle → act t = t.openingReply .noVolume) ∧
        (t.opening.state = .parked → act t = t.openingReply .state) ∧
        (t.opening.state = .fault → act t = t.openingReply .fault) ∧
        (t.opening.state ≠ .idle → t.opening.state ≠ .parked → t.opening.state ≠ .fault →
          act t = t.seekTo x.toNat) := by
  refine ⟨_, rfl, fun t => ?_⟩
  cases h : t.opening.state <;> simp

/-- SEEK's target: none at k itself. -/
def State.target (s : State) (n : Nat) : Option Nat := if n = s.opening.k then none else some n

theorem seekTo_range {s : State} {n : Nat} (h : s.leaves < n) : s.seekTo n = s.openingReply .range := if_pos h

theorem seekTo_same {s : State} {n : Nat} (h : n ≤ s.leaves) (hx : s.target n = s.opening.seek) :
    s.seekTo n = s.openingReply .ok := by
  unfold State.target at hx
  simp only [State.seekTo, if_neg (Nat.not_lt.2 h), hx, if_true]
  rfl

theorem seekTo_change {s : State} {n : Nat} (h : n ≤ s.leaves) (hx : s.target n ≠ s.opening.seek) :
    s.seekTo n = ((s.setOpening { s.opening with seek := s.target n }).evaluate).openingReply .ok := by
  unfold State.target at hx ⊢
  simp only [State.seekTo, if_neg (Nat.not_lt.2 h), hx, if_false]

/-- Settles O13. -/
theorem seek : Obligations.Seek := by
  intro target s h
  obtain ⟨act, hexec, hact⟩ := exec_seek target s
  obtain ⟨hidle, hparked, hfault, hother⟩ := hact (s.taken .S 0x30)
  have hc := Passes.seek target
  rw [hexec]
  refine ⟨fun hs => congrArg _ (hc.pure h (hidle hs)), fun hs => congrArg _ (hc.pure h (hparked hs)),
    fun hs => congrArg _ (hc.pure h (hfault hs)), fun h1 h2 h3 => ⟨fun hn => ?_, fun hn => ⟨fun hx => ?_, fun hx => ?_⟩⟩⟩
  · exact congrArg _ (hc.pure h ((hother h1 h2 h3).trans (seekTo_range hn)))
  · exact congrArg _ (hc.pure h ((hother h1 h2 h3).trans (seekTo_same hn hx)))
  · have hs := (Steady.refl ((s.taken .S 0x30).setOpening { s.opening with seek := s.target target.toNat })).evaluate
    exact ⟨congrArg _ (hc.quiet h ((hother h1 h2 h3).trans (seekTo_change hn hx)) (hs.ports .S).dropAnswer
      (by simp) (by simp) (by simp)), hs.opening_seek, hs.opening_k, by simp [State.keeps, Part.same]⟩

/-! ### RESYNC -/

/-- RESYNC by opening state (R20). -/
theorem exec_resync (x : Word) (s : State) :
    ∃ act, exec (.resync .S x) s = .next (s.ask (.resync .S x) act) ∧
      ∀ t : State,
        (t.opening.state = .fault → t.inFlight = true → act t = t.openingReply .busy) ∧
        (t.opening.state = .idle → t.mounted = none → act t = t.openingReply .noVolume) ∧
        (t.opening.state ≠ .fault → t.opening.state ≠ .idle → act t = t.openingReply .state) ∧
        ((t.opening.state = .fault ∧ t.inFlight = false) ∨ (t.opening.state = .idle ∧ t.mounted ≠ none) →
          act t = t.resyncTo x.toNat) := by
  refine ⟨_, rfl, fun t => ?_⟩
  cases h : t.opening.state <;> simp +contextual [Option.isSome_iff_ne_none]

theorem resyncTo_range {s : State} {n : Nat} (h : s.leaves < n) : s.resyncTo n = s.openingReply .range := if_pos h

theorem resyncTo_ok {s : State} {n : Nat} (h : n ≤ s.leaves) :
    s.resyncTo n = ((s.setOpening { s.opening with k := n, seek := none }).enterSettling).openingReply .ok :=
  if_neg (Nat.not_lt.2 h)

/-- SETTLING begins with its timer running (R11). -/
theorem enterSettling_timed {s : State} (h : s.settleTime ≠ 0) :
    s.enterSettling =
      s.setOpening { s.opening with state := .settling, settle := some s.settleTime, direction := none } :=
  if_neg h

/-- A settle time of 0 expires as it starts (R11). -/
theorem enterSettling_at_once {s : State} (h : s.settleTime = 0) :
    s.enterSettling =
      (s.setOpening { s.opening with state := .settling, settle := none, direction := none }).takeEvaluated :=
  if_pos h

theorem faultLine_of_settled {s : State} (h : s.opening.state.settled = true) : s.faultLine = false := by
  unfold State.faultLine
  cases hs : s.opening.state <;> simp_all [OpeningState.settled]

theorem takeEvaluated_settled (s : State) : s.takeEvaluated.opening.state.settled = true := by
  rw [takeEvaluated_opening]; exact evaluated_settled s

/-- Settles O14. -/
theorem resync : Obligations.Resync := by
  intro n s h
  obtain ⟨act, hexec, hact⟩ := exec_resync n s
  obtain ⟨hbusy, hvolume, hstate, hok⟩ := hact (s.taken .S 0x31)
  have hc := Passes.resync n
  rw [hexec]
  refine ⟨fun h1 h2 => congrArg _ (hc.pure h (hbusy h1 h2)), fun h1 h2 => congrArg _ (hc.pure h (hvolume h1 h2)),
    fun h1 h2 => congrArg _ (hc.pure h (hstate h1 h2)), fun h1 => ⟨fun hn => ?_, fun hn => ⟨fun ht => ?_, fun ht => ?_⟩⟩⟩
  · exact congrArg _ (hc.pure h ((hok h1).trans (resyncTo_range hn)))
  · refine ⟨congrArg _ ?_, rfl⟩
    rw [hc.quiet h (((hok h1).trans (resyncTo_ok hn)).trans (congrArg (State.openingReply · .ok) (enterSettling_timed ht)))
      rfl rfl rfl rfl]
    exact answered_taken (s := s.setOpening
      { s.opening with k := n.toNat, seek := none, state := .settling, settle := some s.settleTime, direction := none })
      h 0x31 .ok _
  · have he := ((hok h1).trans (resyncTo_ok hn)).trans (congrArg (State.openingReply · .ok) (enterSettling_at_once ht))
    refine ⟨congrArg _ (hc.quiet h he (takeEvaluated_ports _ .S).dropAnswer (by simp) (by simp) (by simp)),
      faultLine_of_settled (takeEvaluated_settled _), by simp [State.keeps, Part.same]⟩

/-! ### Causes of a fault -/

theorem enterFault_steady (s : State) (c : FaultCause) :
    Steady (s.setOpening { s.opening with state := .fault, cause := some c, settle := none, turn := none, direction := none })
      (s.enterFault c) :=
  (((Steady.refl _).notifyFault).abortBoth).endClaims

/-- The record of the opening at the entry to FAULT (R16). -/
theorem enterFault_opening (s : State) (c : FaultCause) :
    (s.enterFault c).opening =
      { s.opening with state := .fault, cause := some c, settle := none, turn := none, direction := none } :=
  (enterFault_steady s c).opening_eq rfl

theorem enterFault_ports (s : State) (c : FaultCause) (l : LinkId) : (s.link l).SamePort ((s.enterFault c).link l) :=
  (enterFault_steady s c).ports l

theorem takeCause_quiet {s : State} (h : s.opening.state = .idle ∨ s.opening.state = .parked ∨ s.opening.state = .fault)
    (c : FaultCause) : s.takeCause c = s := by
  unfold State.takeCause
  obtain h | h | h := h <;> simp [h]

theorem takeCause_fault {s : State} (h1 : s.opening.state ≠ .idle) (h2 : s.opening.state ≠ .parked)
    (h3 : s.opening.state ≠ .fault) (c : FaultCause) : s.takeCause c = s.enterFault c := by
  unfold State.takeCause
  cases h : s.opening.state <;> simp_all

theorem turnExpires_turning {s : State} (h : s.opening.state = .turning) (ht : s.opening.turn ≠ none) :
    s.turnExpires = s.enterFault .turnTimeout := by
  obtain ⟨n, hn⟩ := Option.ne_none_iff_exists'.1 ht
  simp [State.turnExpires, h, hn]

theorem turnExpires_other {s : State} (h : s.opening.state ≠ .turning ∨ s.opening.turn = none) : s.turnExpires = s := by
  unfold State.turnExpires
  split
  · next h1 h2 => simp [h1, h2] at h
  · rfl

/-- TURN_BEGIN by opening state (R33). -/
theorem exec_turnBegin (s : State) :
    ∃ act, exec (.turnBegin .A) s = .next (s.ask (.turnBegin .A) act) ∧
      ∀ t : State,
        (t.opening.state = .turning → act t = t.armReply .ok) ∧
        (t.opening.state ≠ .turning → act t = (t.takeCause .ungrantedMotion).armReply .fault) := by
  refine ⟨_, rfl, fun t => ?_⟩
  cases h : t.opening.state <;> simp

/-- Settles O21. -/
theorem faultCauses : Obligations.FaultCauses := by
  refine ⟨fun s => ⟨fun h => ?_, fun h1 h2 => ?_⟩, fun code s h => ⟨fun h1 => ?_, fun h1 h2 h3 => ?_⟩, fun s h => ?_⟩
  · change Host.Outcome.next (s.arbitrate s.turnExpires) = _
    rw [turnExpires_other h, arbitrate_same rfl rfl rfl]
  · change Host.Outcome.next (s.arbitrate s.turnExpires) = _
    rw [turnExpires_turning h1 h2]
  · have hact := congrArg (State.armReply · .ok)
      (takeCause_quiet (s := (s.taken .A 0x73).setOpening { s.opening with armCode := code }) h1 .armFault)
    refine congrArg Host.Outcome.next (((Passes.armFault code).quiet h hact (by rfl) (by rfl) (by rfl) (by rfl)).trans ?_)
    exact answered_taken (s := s.setOpening { s.opening with armCode := code }) h 0x73 .ok _
  · have hact := congrArg (State.armReply · .ok)
      (takeCause_fault (s := (s.taken .A 0x73).setOpening { s.opening with armCode := code }) h1 h2 h3 .armFault)
    refine ⟨congrArg Host.Outcome.next ((Passes.armFault code).reply h hact (enterFault_ports _ _ .A).dropAnswer), ?_⟩
    rw [enterFault_opening]
    exact ⟨rfl, rfl, rfl⟩
  · obtain ⟨act, hexec, hact⟩ := exec_turnBegin s
    obtain ⟨hturn, hother⟩ := hact (s.taken .A 0x71)
    have hc := Passes.turnBegin
    rw [hexec]
    refine ⟨fun h1 => congrArg _ (hc.pure h (hturn h1)), fun h1 => ?_, fun h1 h2 h3 h4 => ?_⟩
    · refine congrArg _ (hc.pure h ((hother ?_).trans (congrArg (State.armReply · .fault)
        (takeCause_quiet (s := s.taken .A 0x71) h1 _))))
      obtain e | e | e := h1 <;> simp [e]
    · refine ⟨congrArg _ (hc.reply h ((hother h1).trans (congrArg (State.armReply · .fault)
        (takeCause_fault (s := s.taken .A 0x71) h2 h3 h4 _))) (enterFault_ports _ _ .A).dropAnswer), ?_⟩
      rw [enterFault_opening]
      exact ⟨rfl, rfl⟩

end Sys2Proof.Machine
end

section
/-! PROOFS. The test-and-set of a CLAIM (R46, R47), the refusals of a CAPTURE (R51), and the station marks (R170 to
R173). -/

namespace Sys2Proof.Machine

open Sys2Proof

/-! ### A side record changed (R168, R175) -/

theorem leafAt_modifyLeaf (t : List LeafEntry) (j i : Nat) (g : LeafEntry → LeafEntry) :
    leafAt (modifyLeaf t j g) i = if i = j then (leafAt t i).map g else leafAt t i := by
  unfold leafAt modifyLeaf
  by_cases hi : i = 0
  · simp [hi]
  · by_cases hj : j = 0
    · simp [hi, hj]
    · simp only [hi, hj, if_false, List.getElem?_modify]
      by_cases h : i = j
      · simp [h]
      · simp [h, show ¬j - 1 = i - 1 by omega]

@[simp] theorem LeafEntry.side_setSide (e : LeafEntry) (f f' : Face) (r : SideRec) :
    (e.setSide f r).side f' = if f' = f then r else e.side f' := by
  cases f <;> cases f' <;> rfl

theorem changeSide_leaves {s : State} {f : Face} {j : Nat} {r : SideRec} (h : s.side f j = some r)
    (g : SideRec → SideRec) :
    (s.changeSide f j g).account.leaves = modifyLeaf s.account.leaves j fun e => e.setSide f (g r) := by
  unfold State.changeSide
  simp only [h]
  split <;> simp

/-- A side outside the leaf table is not changed. -/
theorem changeSide_none {s : State} {f : Face} {j : Nat} (h : s.side f j = none) (g : SideRec → SideRec) :
    s.changeSide f j g = s := by
  simp only [State.changeSide, h]

/-- The side's record after a change, and every other side's. -/
theorem changeSide_side (s : State) (f f' : Face) (j j' : Nat) (g : SideRec → SideRec) :
    (s.changeSide f j g).side f' j' = if f' = f ∧ j' = j then (s.side f' j').map g else s.side f' j' := by
  cases hs : s.side f j with
  | none =>
    rw [changeSide_none hs]
    split
    · next h => rw [h.1, h.2, hs]; rfl
    · rfl
  | some r =>
    have hl := changeSide_leaves hs g
    simp only [State.side, hl, leafAt_modifyLeaf] at hs ⊢
    by_cases hj : j' = j
    · subst hj
      obtain ⟨e, he, rfl⟩ := Option.map_eq_some_iff.1 hs
      by_cases hf : f' = f
      · simp [hf, he]
      · simp [hf, he]
    · simp [hj]

/-- A side changed moves one count of the MOUNTED entry. -/
theorem changeSide_volume {s : State} {f : Face} {j : Nat} {r : SideRec} {i : Fin 16} (h : s.side f j = some r)
    (hm : s.mounted = some i) (g : SideRec → SideRec) (n : Fin 16) :
    (s.changeSide f j g).volume n =
      if n = i then { s.volume i with counts := (s.volume i).counts.move r.state (g r).state } else s.volume n := by
  simp only [State.changeSide, h, setLeaves_mounted, hm, setVolume_volume, setLeaves_volume]

theorem changeSide_exceptions (s : State) (f : Face) (j : Nat) (g : SideRec → SideRec) :
    (s.changeSide f j g).account.exceptions = s.account.exceptions := by
  unfold State.changeSide
  dsimp only
  (repeat' split) <;> simp

/-- A request taken changes its link alone. -/
theorem keeps_of_taken {s t : State} {l : LinkId} {k : Byte} {ps : List Part} (h : (s.taken l k).keeps t ps)
    (hl : Part.links ∉ ps) : s.keeps t ps := by
  intro p hp
  have hk := h p hp
  cases p
  case links => exact absurd hp hl
  all_goals exact hk

/-! ### CLAIM -/

theorem taken_dropAnswer (s : State) (l m : LinkId) (k : Byte) :
    ((s.taken l k).link m).dropAnswer = (s.link m).dropAnswer := by
  rw [taken_link]
  split
  · next h => rw [h]
  · rfl

@[simp] theorem linkHalf_cameraLink (h : Half) : linkHalf (cameraLink h) = some h := by cases h <;> rfl

theorem roleAllows_camera (h : Half) : roleAllows .camera (cameraLink h) = true := by cases h <;> rfl

theorem Passes.claim (h : Half) : Passes (.claim (cameraLink h)) (cameraLink h) ⟨0x60, []⟩ :=
  ⟨rfl, ⟨_, rfl, roleAllows_camera h⟩, rfl, by simp⟩

theorem Passes.capture (h : Half) (p : Byte) : Passes (.capture (cameraLink h) p) (cameraLink h) ⟨0x62, [p]⟩ :=
  ⟨rfl, ⟨_, rfl, roleAllows_camera h⟩, rfl, by simp [Config.maxRequestBody]⟩

/-- CLAIM by opening state (R46). -/
theorem exec_claim (h : Half) (s : State) :
    ∃ act, exec (.claim (cameraLink h)) s = .next (s.ask (.claim (cameraLink h)) act) ∧
      ∀ t : State,
        (t.opening.state.works = true → act t = t.testAndSet h) ∧
        (t.opening.state.works = false → act t = t.refuse t.opening.state.refusalOf) := by
  refine ⟨_, rfl, fun t => ?_⟩
  simp +contextual

theorem works_iff (x : OpeningState) :
    x.works = true ↔ x = .settling ∨ x = .ready ∨ x = .exposing ∨ x = .turnable := by
  cases x <;> simp [OpeningState.works]

theorem presentLeaf_of_presentState {s : State} {h : Half} {x : SideState} (hx : s.presentState h = some x) :
    ∃ j, s.presentLeaf h = some j := by
  unfold State.presentState at hx
  split at hx
  · exact absurd hx (by simp)
  · next j hj => exact ⟨j, hj⟩

theorem testAndSet_none {s : State} {h : Half} (hx : s.presentState h = none) :
    s.testAndSet h = ⟨s, .ok, s.claimBody h .none none none⟩ := by
  unfold State.testAndSet
  cases s.presentLeaf h <;> simp only [hx]

/-- The test-and-set by the state found (R46). -/
theorem testAndSet_some {s : State} {h : Half} {j : Nat} {x : SideState} (hj : s.presentLeaf h = some j)
    (hx : s.presentState h = some x) :
    (∀ prior : Undone, x = prior.toSide →
      s.testAndSet h =
        ⟨s.takeClaim h j prior, .ok, (s.takeClaim h j prior).claimBody h .taken (some (j, faceOf h)) (some x)⟩) ∧
    (x = .claimed →
      s.testAndSet h = ⟨s.renewClaim h, .ok, (s.renewClaim h).claimBody h .renewed (some (j, faceOf h)) (some x)⟩) ∧
    (x ≠ .claimed → x.undone? = none →
      s.testAndSet h = ⟨s, .ok, s.claimBody h .none (some (j, faceOf h)) (some x)⟩) := by
  unfold State.testAndSet
  simp only [hj, hx]
  refine ⟨fun prior hp => ?_, fun hc => ?_, fun hc hu => ?_⟩
  · subst hp; cases prior <;> rfl
  · subst hc; rfl
  · simp only [hu, if_neg hc]

/-- A claim taken: the record of R47. -/
theorem takeClaim_claimOf (s : State) (h : Half) (j : Nat) (prior : Undone) :
    (s.takeClaim h j prior).claimOf h = some { leaf := j, prior := prior, life := s.claimLife } := by
  have : (s.takeClaim h j prior).claimOf h =
      (((s.changeSide (faceOf h) j fun r => { r with state := .claimed, owner := some h, prior := some prior }).setClaim
        h (some { leaf := j, prior := prior, life := s.claimLife }))).claimOf h := by
    simp only [State.takeClaim, State.claimOf, evaluate_frame]
  simp [this]

theorem takeClaim_idInFlight (s : State) (h g : Half) (j : Nat) (prior : Undone) :
    (s.takeClaim h j prior).idInFlight g = s.idInFlight g := by
  have : (s.takeClaim h j prior).ctx g = s.ctx g := by
    simp [State.takeClaim, State.ctx, State.setClaim]
  simp only [State.idInFlight, this]

/-- Settles O24. -/
theorem claimTestAndSet : Obligations.ClaimTestAndSet := by
  intro h s hfree
  obtain ⟨act, hexec, hact⟩ := exec_claim h s
  obtain ⟨hworks, hrefused⟩ := hact (s.taken (cameraLink h) 0x60)
  have hc := Passes.claim h
  dsimp only
  rw [hexec]
  have refuse {st : Status} (hw : s.opening.state.works = false) (hst : s.opening.state.refusalOf = st) :
      s.ask (.claim (cameraLink h)) act = s.answered (cameraLink h) 0x60 st [] := by
    subst hst
    exact hc.pure hfree (hrefused hw)
  refine ⟨fun hs => congrArg _ (refuse (by rw [hs]; rfl) (by rw [hs]; rfl)), fun hs => ?_,
    fun hs => congrArg _ (refuse (by rw [hs]; rfl) (by rw [hs]; rfl)), fun hs => ⟨fun hx => ?_, fun j x hj hx => ?_⟩⟩
  · obtain hs | hs | hs := hs <;> exact congrArg _ (refuse (by rw [hs]; rfl) (by rw [hs]; rfl))
  · exact congrArg _ (hc.pure hfree ((hworks ((works_iff _).2 hs)).trans (testAndSet_none hx)))
  · obtain ⟨htaken, hrenewed, hnone⟩ := testAndSet_some (s := s.taken (cameraLink h) 0x60) hj hx
    have hset := hworks ((works_iff _).2 hs)
    have unchanged (hc' : x ≠ .claimed) (hu : x.undone? = none) := hc.pure hfree (hset.trans (hnone hc' hu))
    refine ⟨fun prior hp => ⟨?_, takeClaim_claimOf (s.taken _ _) h j prior, fun i hi => ?_⟩, fun hx' => ?_, fun hx' => ?_,
      fun hx' => ?_, fun hx' => ?_⟩
    · have hbody : ((s.taken (cameraLink h) 0x60).takeClaim h j prior).claimBody h .taken (some (j, faceOf h)) (some x) =
          [1, 1] ++ (be 2 j ++ [b1 (faceOf h).code, b1 x.code]) ++
            (be 2 (((s.taken (cameraLink h) 0x60).takeClaim h j prior).lifeLeft h) ++ be 2 (s.idInFlight h)) := by
        rw [State.claimBody, takeClaim_idInFlight, hp]
        cases prior <;> rfl
      rw [hc.quiet hfree (hset.trans (htaken prior hp)) ?_ ?_ ?_ ?_, hbody]
      · rfl
      · exact (((Steady.refl _).changeSide.setClaim.evaluate.ports _).dropAnswer).trans (taken_dropAnswer _ _ _ _)
      · simp [State.takeClaim]
      · simp [State.takeClaim]
      · simp [State.takeClaim]
    · simp [State.claimLife, hi]
    · have hact := hset.trans (hrenewed hx')
      rw [hc.quiet hfree hact (taken_dropAnswer _ _ _ _) rfl rfl rfl]
      subst hx'
      exact congrArg _ (answered_taken (s := s.renewClaim h) hfree 0x60 .ok _)
    · obtain rfl | rfl := hx' <;> exact congrArg _ (unchanged (by decide) rfl)
    · subst hx'; exact congrArg _ (unchanged (by decide) rfl)
    · subst hx'; exact congrArg _ (unchanged (by decide) rfl)

/-! ### CAPTURE -/

/-- CAPTURE: checks 1 and 2 of R51. -/
theorem exec_capture (h : Half) (p : Byte) (s : State) :
    ∃ act, exec (.capture (cameraLink h) p) s = .next (s.ask (.capture (cameraLink h) p) act) ∧
      ∀ t : State,
        (t.opening.state.works = false → act t = t.refuse t.opening.state.refusalOf) ∧
        (t.opening.state.works = true → finOf 16 p.toNat = none → act t = t.refuse .range) ∧
        (∀ i, t.opening.state.works = true → finOf 16 p.toNat = some i → act t = t.tryCapture h i) := by
  refine ⟨_, rfl, fun t => ?_⟩
  simp +contextual

/-- The program a CAPTURE is checked against: the waiting partner's copy, or the program table's (R65, log 15). -/
def State.checkedCopy (s : State) (h : Half) (i : Fin 16) : Program :=
  ((s.partnerFor h i.val (s.program i)).map (·.copy)).getD (s.program i)

/-- Checks 3 to 7 of R51 in order. -/
theorem tryCapture_noSide {s : State} {h : Half} {i : Fin 16}
    (hn : s.presentState h = none ∨ ((s.program i).mode = .paired ∧ s.presentLeaf (otherHalf h) = none)) :
    s.tryCapture h i = s.refuse .noSide := by
  unfold State.tryCapture
  dsimp only
  split
  · next j x hj hx =>
    obtain hn | hn := hn
    · simp [hn] at hx
    · rw [if_pos hn]
  · rfl

theorem tryCapture_present {s : State} {h : Half} {i : Fin 16} {x : SideState} (hx : s.presentState h = some x)
    (hp : (s.program i).mode = .paired → s.presentLeaf (otherHalf h) ≠ none) :
    (s.ctx h ≠ none → s.tryCapture h i = s.refuse .busy) ∧
    (s.ctx h = none →
      (∀ st, doneRefusal x = some st → s.tryCapture h i = s.refuse st) ∧
      (doneRefusal x = none →
        (s.programFits h (s.checkedCopy h i) = false → s.tryCapture h i = s.refuse .badProgram) ∧
        (s.programFits h (s.checkedCopy h i) = true → s.lampsAvailable (s.checkedCopy h i) = false →
          s.tryCapture h i = s.refuse .lampUnavailable))) := by
  obtain ⟨j, hj⟩ := presentLeaf_of_presentState hx
  have hboth : ¬((s.program i).mode = .paired ∧ s.presentLeaf (otherHalf h) = none) := fun hb => hp hb.1 hb.2
  unfold State.tryCapture State.checkedCopy
  simp only [hj, hx, if_neg hboth]
  refine ⟨fun hc => ?_, fun hc => ⟨fun st hd => ?_, fun hd => ?_⟩⟩
  · rw [if_pos (Option.isSome_iff_ne_none.2 hc)]
  · simp [hc, hd]
  · simp only [hc, hd, Option.isSome_none, Bool.false_eq_true, if_false]
    cases s.partnerFor h i.val (s.program i) <;> simp +contextual

/-- Settles O26. -/
theorem captureRefused : Obligations.CaptureRefused := by
  intro h program s hfree
  obtain ⟨act, hexec, hact⟩ := exec_capture h program s
  obtain ⟨hrefused, hrange, htry⟩ := hact (s.taken (cameraLink h) 0x62)
  have hc := Passes.capture h program
  dsimp only
  rw [hexec]
  have refuse {st : Status} (ha : act (s.taken (cameraLink h) 0x62) = (s.taken (cameraLink h) 0x62).refuse st) :
      (Host.Outcome.next (s.ask (.capture (cameraLink h) program) act) : Host.Outcome State Fault Refusal) =
        .next (s.answered (cameraLink h) 0x62 st []) :=
    congrArg _ (hc.pure hfree ha)
  have state {x : OpeningState} (hs : s.opening.state = x) (hw : x.works = false) :
      (Host.Outcome.next (s.ask (.capture (cameraLink h) program) act) : Host.Outcome State Fault Refusal) =
        .next (s.answered (cameraLink h) 0x62 x.refusalOf []) := by
    subst hs
    exact refuse (hrefused hw)
  refine ⟨fun hs => state hs rfl, fun hs => ?_, fun hs => state hs rfl, fun hs => ⟨fun hn => ?_, fun i hi =>
    ⟨fun hn => ?_, fun x hx hp => ?_⟩⟩⟩
  · obtain hs | hs | hs := hs <;> exact state hs rfl
  · exact refuse (hrange ((works_iff _).2 hs) (finOf_none hn))
  · exact refuse ((htry i ((works_iff _).2 hs) (finOf_eq hi)).trans (tryCapture_noSide hn))
  · have hi' := htry i ((works_iff _).2 hs) (finOf_eq hi)
    obtain ⟨hbusy, hfree'⟩ := tryCapture_present (s := s.taken (cameraLink h) 0x62) hx hp
    refine ⟨fun hb => refuse (hi'.trans (hbusy hb)), fun hb => ?_⟩
    obtain ⟨hdone, hopen⟩ := hfree' hb
    refine ⟨fun hx' => ?_, fun hx' => refuse (hi'.trans (hdone _ (by rw [hx']; rfl))), fun h1 h2 h3 => ?_⟩
    · obtain rfl | rfl := hx' <;> exact refuse (hi'.trans (hdone _ rfl))
    · have hd : doneRefusal x = none := by cases x <;> simp_all [doneRefusal]
      obtain ⟨hfits, hlamps⟩ := hopen hd
      exact ⟨fun hf => refuse (hi'.trans (hfits hf)), fun hf hl => refuse (hi'.trans (hlamps hf hl))⟩

/-! ### The station marks -/

theorem Passes.reshoot (leaf : Word) (face : Byte) :
    Passes (.reshoot .S leaf face) .S ⟨0x20, be 2 leaf.toNat ++ [face]⟩ :=
  ⟨rfl, ⟨_, rfl, rfl⟩, rfl, by simp [Config.maxRequestBody]⟩

theorem Passes.exempt (leaf : Word) (face reason : Byte) :
    Passes (.exempt .S leaf face reason) .S ⟨0x21, be 2 leaf.toNat ++ [face, reason]⟩ :=
  ⟨rfl, ⟨_, rfl, rfl⟩, rfl, by simp [Config.maxRequestBody]⟩

theorem Passes.acceptSide (leaf : Word) (face : Byte) :
    Passes (.acceptSide .S leaf face) .S ⟨0x22, be 2 leaf.toNat ++ [face]⟩ :=
  ⟨rfl, ⟨_, rfl, rfl⟩, rfl, by simp [Config.maxRequestBody]⟩

theorem faceOfCode_none {b : Byte} (h : 2 ≤ b.toNat) : faceOfCode b = none := by
  unfold faceOfCode
  rw [if_neg (by rintro rfl; simp at h), if_neg (by rintro rfl; simp at h)]

theorem faceOfCode_code {b : Byte} {f : Face} (h : b.toNat = f.code) : faceOfCode b = some f := by
  obtain rfl : b = b1 f.code := by cases f <;> exact BitVec.eq_of_toNat_eq h
  cases f <;> rfl

/-- The checks of a mark before its side is found (R170). -/
theorem mark_unfound {s : State} {leaf : Word} {face : Byte} {rule : SideRec → Option Mark} :
    (s.mounted = none → s.mark leaf face rule = s.markRefusal .noVolume leaf face none) ∧
    ∀ i, s.mounted = some i →
      (faceOfCode face = none → s.mark leaf face rule = s.markRefusal .range leaf face none) ∧
      ∀ f, faceOfCode face = some f → s.side f leaf.toNat = none →
        s.mark leaf face rule = s.markRefusal .range leaf face none := by
  unfold State.mark
  simp +contextual

/-- A mark on the side found (R170): its rule's own check, then CLAIMED and CAPTURING, then the rule. -/
theorem mark_found {s : State} {leaf : Word} {face : Byte} {rule : SideRec → Option Mark} {i : Fin 16} {f : Face}
    {r : SideRec} (hm : s.mounted = some i) (hf : faceOfCode face = some f) (hr : s.side f leaf.toNat = some r) :
    (rule r = none → s.mark leaf face rule = s.markRefusal .range leaf face (some r.state)) ∧
    ∀ m, rule r = some m →
      (r.state = .claimed ∨ r.state = .capturing →
        s.mark leaf face rule = s.markRefusal .claimed leaf face (some r.state)) ∧
      (¬(r.state = .claimed ∨ r.state = .capturing) →
        (∀ r', m = .to r' → s.mark leaf face rule = s.applyMark i f leaf.toNat r r') ∧
        (m = .refused → s.mark leaf face rule = s.markRefusal .state leaf face (some r.state))) := by
  unfold State.mark
  simp +contextual [hm, hf, hr]

/-- The state after a mark (R168): the side changed, and evaluated when its state changed. -/
def State.marked (s : State) (f : Face) (j : Nat) (r r' : SideRec) : State :=
  if r'.state = r.state then s.changeSide f j fun _ => r' else (s.changeSide f j fun _ => r').evaluateSide f j

theorem marked_frame (s : State) (f : Face) (j : Nat) (r r' : SideRec) :
    (s.marked f j r r').account = (s.changeSide f j fun _ => r').account ∧
      s.keeps (s.marked f j r r') [.capture, .light, .memory, .mem, .drain, .pending] := by
  unfold State.marked
  split <;> simp [State.keeps, Part.same]

theorem marked_steady (s : State) (f : Face) (j : Nat) (r r' : SideRec) : Steady s (s.marked f j r r') :=
  Steady.ite _ (Steady.refl s).changeSide (Steady.refl s).changeSide.evaluateSide

/-- A mark applied, answered on link S. -/
theorem Passes.marks {c : Instr} {k : Byte} {b : List Byte} (hc : Passes c .S ⟨k, b⟩) {s : State} (h : s.portFree .S)
    {act : State → Reply} {i : Fin 16} {f : Face} {j : Nat} {r r' : SideRec}
    (hact : act (s.taken .S k) = (s.taken .S k).applyMark i f j r r') :
    s.ask c act = ((s.taken .S k).marked f j r r').answered .S k .ok
      (sideReport j f i r.state r' (decide (r'.state ≠ r.state ∨ r'.reason ≠ r.reason))
        (((s.taken .S k).marked f j r r').volume i).counts) := by
  obtain ⟨-, hk⟩ := marked_frame (s.taken .S k) f j r r'
  exact hc.quiet h hact ((marked_steady _ f j r r').ports .S).dropAnswer
    (congrArg Light.held (hk .light (by simp))) (hk .memory (by simp)) (hk .drain (by simp))

/-- What RESHOOT makes of a side (R171). -/
theorem reshoot_eq (r : SideRec) :
    r.reshoot = .to
      (if r.state = .captured ∨ r.state = .held then { r with state := .reshoot }
       else if r.state = .exempt then { r with state := .reshoot, reason := none } else r) := by
  unfold SideRec.reshoot
  split <;> simp_all

/-- What ACCEPT_SIDE makes of a side (R173). -/
theorem accept_eq {r : SideRec} (h : ¬(r.state = .claimed ∨ r.state = .capturing)) :
    (r.state = .exempt → r.accept = .refused) ∧
    (r.state ≠ .exempt →
      r.accept = .to
        (if r.state = .captured then r else { r with state := .captured, summary := some stationAccepted })) := by
  unfold SideRec.accept
  cases hx : r.state <;> simp_all

theorem reasonOfCode_none {b : Byte} (h : 16 ≤ b.toNat) : reasonOfCode b = none := if_neg (Nat.not_lt.2 h)

theorem reasonOfCode_some {b : Byte} (h : b.toNat < 16) : reasonOfCode b = some b.toNat := if_pos h

/-- Settles O53. -/
theorem stationMarks : Obligations.StationMarks := by
  intro leaf face reason s h
  have hr := Passes.reshoot leaf face
  have he := Passes.exempt leaf face reason
  have ha := Passes.acceptSide leaf face
  have unfound (k : Byte) {rule : SideRec → Option Mark} :=
    mark_unfound (s := s.taken .S k) (leaf := leaf) (face := face) (rule := rule)
  refine ⟨fun hm => ⟨congrArg _ (hr.pure h ((unfound _).1 hm)), congrArg _ (he.pure h ((unfound _).1 hm)),
    congrArg _ (ha.pure h ((unfound _).1 hm))⟩, fun i hm => ⟨fun hf => ?_, fun f hf => ⟨fun hs => ?_, fun r hs => ?_⟩⟩⟩
  · have hn := faceOfCode_none hf
    exact ⟨congrArg _ (hr.pure h (((unfound _).2 i hm).1 hn)), congrArg _ (he.pure h (((unfound _).2 i hm).1 hn)),
      congrArg _ (ha.pure h (((unfound _).2 i hm).1 hn))⟩
  · have hn := faceOfCode_code hf
    exact ⟨congrArg _ (hr.pure h (((unfound _).2 i hm).2 f hn hs)), congrArg _ (he.pure h (((unfound _).2 i hm).2 f hn hs)),
      congrArg _ (ha.pure h (((unfound _).2 i hm).2 f hn hs))⟩
  · have found (k : Byte) {rule : SideRec → Option Mark} :=
      mark_found (s := s.taken .S k) (rule := rule) hm (faceOfCode_code hf) hs
    have hrule (n : Nat) (hn : reasonOfCode reason = some n) :
        ((reasonOfCode reason).map fun n => r.exemptFor n) = some (r.exemptFor n) := by rw [hn]; rfl
    refine ⟨fun hn => ?_, fun hh => ⟨?_, ?_, fun hn => ?_⟩, fun hh => ⟨?_, fun hn => ?_, fun hx => ?_, fun hx => ?_⟩,
      fun kind r' => ⟨?_, fun f' j hne => ?_, fun j => ?_,
        keeps_of_taken (marked_frame (s.taken .S kind) f leaf.toNat r r').2 (by simp)⟩⟩
    · exact congrArg _ (he.pure h ((found _).1 (by simp only [reasonOfCode_none hn]; rfl)))
    · exact congrArg _ (hr.pure h (((found _).2 _ rfl).1 hh))
    · exact congrArg _ (ha.pure h (((found _).2 _ rfl).1 hh))
    · exact congrArg _ (he.pure h (((found _).2 _ (hrule _ (reasonOfCode_some hn))).1 hh))
    · exact congrArg _ (hr.marks h ((((found _).2 _ rfl).2 hh).1 _ (reshoot_eq r)))
    · exact congrArg _ (he.marks h ((((found _).2 _ (hrule _ (reasonOfCode_some hn))).2 hh).1 _ rfl))
    · exact congrArg _ (ha.pure h ((((found _).2 _ rfl).2 hh).2 ((accept_eq hh).1 hx)))
    · exact congrArg _ (ha.marks h ((((found _).2 _ rfl).2 hh).1 _ ((accept_eq hh).2 hx)))
    · change ((s.taken .S kind).marked f leaf.toNat r r').side f leaf.toNat = some r'
      rw [side_congr (congrArg Account.leaves (marked_frame _ _ _ _ _).1), changeSide_side, if_pos ⟨rfl, rfl⟩]
      exact congrArg (Option.map _) hs
    · change ((s.taken .S kind).marked f leaf.toNat r r').side f' j = s.side f' j
      rw [side_congr (congrArg Account.leaves (marked_frame _ _ _ _ _).1), changeSide_side,
        if_neg fun hx => hne (by rw [hx.1, hx.2])]
      rfl
    · change ((s.taken .S kind).marked f leaf.toNat r r').volume j = _
      rw [volume_congr (marked_frame _ _ _ _ _).1, changeSide_volume (s := s.taken .S kind) hs hm]
      rfl

end Sys2Proof.Machine
end

section
/-! PROOFS. MOUNT (R153, R154, R158) and SUSPEND (R155, R156): the checks in order, and the entry, the opening, the
slot and the engine after each. -/

namespace Sys2Proof.Machine

open Sys2Proof

/-! ### What the memory arbiter changes -/

/-- The memory arbiter's decision changes the burst in progress, the refreshes owed and the FIFO it takes words
from. -/
structure SameButBurst (s t : State) : Prop where
  blocks : s.keeps t [.opening, .account, .capture, .light, .mem, .drain, .links, .pending]
  slots : t.memory.slots = s.memory.slots
  engine : t.memory.engine = s.memory.engine
  mode : t.memory.mode = s.memory.mode
  timer : t.memory.refreshTimer = s.memory.refreshTimer
  owed : t.memory.owed ≤ s.memory.owed

theorem SameButBurst.refl (s : State) : SameButBurst s s :=
  ⟨by simp [State.keeps, Part.same], rfl, rfl, rfl, rfl, le_rfl⟩

theorem grantBurst_same (s : State) (r : Requester) : SameButBurst s (s.grantBurst r) := by
  refine ⟨by simp [State.keeps, Part.same], ?_, ?_, ?_, ?_, ?_⟩ <;>
  · unfold State.grantBurst State.grantRefresh
    cases r <;> dsimp only <;> (try split) <;> simp

theorem decideMemory_same (s : State) : SameButBurst s s.decideMemory := by
  unfold State.decideMemory
  split
  · split
    · exact .refl s
    · exact grantBurst_same s _
  · exact .refl s

theorem decideIfBegan_same (s t : State) : SameButBurst t (s.decideIfBegan t) := by
  unfold State.decideIfBegan
  split
  · exact decideMemory_same t
  · exact .refl t

/-- With no light request placed, only the memory arbiter may decide. -/
theorem arbitrate_of_held {s t : State} (h : t.light.held = s.light.held) : s.arbitrate t = s.decideIfBegan t := by
  have hp : s.decideIfPlaced t = t := by
    unfold State.decideIfPlaced
    rw [if_neg (by simp [h])]
  unfold State.arbitrate
  rw [hp]

theorem arbitrate_sameButBurst {s t : State} (h : t.light.held = s.light.held) : SameButBurst t (s.arbitrate t) := by
  rw [arbitrate_of_held h]
  exact decideIfBegan_same s t

/-- A transfer begun is granted its first burst at once, with the arbiter free and no other requester before it
(R126). -/
theorem engine_granted {s t : State} {e : Engine} (hheld : t.light.held = s.light.held)
    (hmem : t.memory = { s.memory with engine := e }) (he : e.state ≠ .idle) (ha : e.abandoned = false) (hl : 0 < e.left)
    (hs : s.memory.engine.state = .idle) (hb : s.memory.burst = none) (hm : s.memory.mode = .active)
    (ho : s.memory.owed < 8) (hf : ∀ h, (s.rx h).fifo = []) :
    (s.arbitrate t).memory.burst = some (.engine (min 64 e.left) false) := by
  have hurgent : t.requests .refreshUrgent = false := by
    simpa [State.requests, Config.refreshUrgent, hmem] using ho
  have hpixel (h : Half) : t.requests (.pixel h) = false := by
    have hr : t.rx h = s.rx h := congrArg (fun m => m.rx.get h) hmem
    simp [State.requests, hr, hf h]
  have hengine : t.requests .engine = true := by simp [State.requests, hmem, he, ha, hl]
  have hbefore : s.requests .engine = false := by simp [State.requests, hs]
  have hbegan : (requesters.any fun r => t.requests r && !s.requests r) = true :=
    List.any_eq_true.2 ⟨.engine, by simp [requesters], by simp [hengine, hbefore]⟩
  have hfind : requesters.find? t.requests = some .engine := by
    simp [requesters, hurgent, hpixel, hengine]
  rw [arbitrate_of_held hheld]
  simp only [State.decideIfBegan, hbegan, if_true, State.decideMemory, State.memFree, hmem, hb, hm, hfind]
  exact congrArg (fun m : FrameMemory => some (Burst.engine (min 64 m.engine.left) false)) hmem

/-- The volume status reads the entry, the opening record and the engine (R150). -/
theorem volumeStatus_congr {s t : State} {i : Fin 16} (hv : t.volume i = s.volume i) (ho : t.opening = s.opening)
    (he : t.memory.engine = s.memory.engine) : t.volumeStatus i = s.volumeStatus i := by
  simp only [State.volumeStatus, hv, ho, he]

namespace SameButBurst

variable {s t : State}

theorem opening (h : SameButBurst s t) : t.opening = s.opening := h.blocks .opening (by simp)
theorem account (h : SameButBurst s t) : t.account = s.account := h.blocks .account (by simp)
theorem links (h : SameButBurst s t) : t.links = s.links := h.blocks .links (by simp)
theorem light (h : SameButBurst s t) : t.light = s.light := h.blocks .light (by simp)
theorem drain (h : SameButBurst s t) : t.drain = s.drain := h.blocks .drain (by simp)

theorem volume (h : SameButBurst s t) : t.volume = s.volume := volume_congr h.account
theorem link (h : SameButBurst s t) (l : LinkId) : t.link l = s.link l := by simp only [State.link, h.links]
theorem slot (h : SameButBurst s t) (x : Fin 8) : t.slot x = s.slot x := by simp only [State.slot, h.slots]

theorem volumeStatus (h : SameButBurst s t) (i : Fin 16) : t.volumeStatus i = s.volumeStatus i :=
  volumeStatus_congr (by rw [h.volume]) h.opening h.engine

end SameButBurst

/-- A response is placed on its link, with the request buffer as the link had it. -/
theorem answered_hasAnswer {u : State} {l : LinkId} (h : (u.link l).request = none) (k : Byte) (st : Status)
    (b : List Byte) : (u.answered l k st b).hasAnswer l k st b := by
  simp [State.hasAnswer, h]

/-- A response placed changes its link alone. -/
theorem keeps_answered {s t : State} {l : LinkId} {k : Byte} {st : Status} {b : List Byte} {ps : List Part}
    (h : s.keeps t ps) (hl : Part.links ∉ ps) : s.keeps (t.answered l k st b) ps := by
  intro p hp
  have hk := h p hp
  cases p
  case links => exact absurd hp hl
  all_goals exact hk

theorem State.keeps_refl (s : State) (ps : List Part) : s.keeps s ps := by
  intro p _
  cases p <;> rfl

theorem keeps_of_frame {s t u : State} {ps qs : List Part} (h : s.keeps t ps) (h' : t.keeps u qs)
    (hsub : ∀ p ∈ ps, p ∈ qs) : s.keeps u ps := by
  intro p hp
  have h1 := h p hp
  have h2 := h' p (hsub p hp)
  cases p <;> exact h2.trans h1

/-! ### The entries the cradle or the engine holds -/

theorem held_search {s : State} {j : Fin 16} (h : (s.volume j).state.held) :
    (s.mounted.isSome || s.moving.isSome) = true := by
  by_contra hn
  simp only [Bool.or_eq_true, Option.isSome_iff_ne_none, not_or, not_not] at hn
  exact State.Positioned.none_held hn.1 hn.2 j h

theorem search_none {s : State} (h : ∀ j, ¬(s.volume j).state.held) : s.mounted = none ∧ s.moving = none := by
  constructor
  · refine find_allVolumes_none.2 fun i => ?_
    simpa using fun e => h i (.inl e)
  · refine find_allVolumes_none.2 fun i => ?_
    simpa using ⟨fun e => h i (.inr (.inl e)), fun e => h i (.inr (.inr e))⟩

/-! ### MOUNT -/

theorem Passes.mount (index : Byte) (x : Word) : Passes (.mount .S index x) .S ⟨0x11, index :: be 2 x.toNat⟩ :=
  ⟨rfl, ⟨_, rfl, rfl⟩, rfl, by simp [Config.maxRequestBody]⟩

theorem exec_mount (index : Byte) (x : Word) (s : State) :
    ∃ act, exec (.mount .S index x) s = .next (s.ask (.mount .S index x) act) ∧
      ∀ t : State,
        (finOf 16 index.toNat = none → act t = t.refuse .range) ∧
        ∀ i, finOf 16 index.toNat = some i → act t = t.mount i x := by
  refine ⟨_, rfl, fun t => ?_⟩
  simp +contextual

/-- The checks of a MOUNT in order (R153). -/
theorem mount_refused {s : State} {i : Fin 16} {x : Word} :
    (s.opening.state = .parked → s.mount i x = s.refuse .state) ∧
    (∀ j, s.opening.state ≠ .parked → (s.volume j).state.held → s.mount i x = s.refuse .busy) := by
  unfold State.mount
  refine ⟨fun h => by simp [h], fun j h hj => ?_⟩
  simp only [if_neg h, held_search hj, if_true]

/-- A MOUNT with nothing in the cradle (R153, R154, R158). -/
theorem mount_free {s : State} {i : Fin 16} {x : Word} (hp : s.opening.state ≠ .parked)
    (hf : ∀ j, ¬(s.volume j).state.held) :
    ((s.volume i).state ≠ .pending → (s.volume i).state ≠ .suspended → s.mount i x = s.refuse .state) ∧
    ((s.volume i).state = .pending →
      ((s.volume i).n < x.toNat → s.mount i x = s.refuse .range) ∧
      (x.toNat ≤ (s.volume i).n →
        s.mount i x = ⟨s.mountPending i x.toNat, .ok, (s.mountPending i x.toNat).volumeStatus i⟩)) ∧
    ((s.volume i).state = .suspended →
      ((s.volume i).n < x.toNat ∧ x ≠ 0xFFFF → s.mount i x = s.refuse .range) ∧
      (x.toNat ≤ (s.volume i).n ∨ x = 0xFFFF →
        s.mount i x = ⟨s.resume i x, .ok, (s.resume i x).volumeStatus i⟩)) := by
  obtain ⟨hm, hv⟩ := search_none hf
  unfold State.mount
  simp only [if_neg hp, hm, hv, Option.isSome_none, Bool.or_self, Bool.false_eq_true, if_false]
  refine ⟨fun h1 h2 => ?_, fun h => ⟨fun hn => ?_, fun hn => ?_⟩, fun h => ⟨fun hn => ?_, fun hn => ?_⟩⟩
  · split <;> simp_all
  · simp only [h, if_pos hn]
  · simp only [h, if_neg (Nat.not_lt.2 hn)]
  · simp only [h]
    exact if_pos hn
  · have : ¬((s.volume i).n < x.toNat ∧ x ≠ 0xFFFF) := by
      rintro ⟨h1, h2⟩
      exact hn.elim (Nat.not_le.2 h1) h2
    simp only [h]
    exact if_neg this

/-- The opening with a volume that enters the cradle outside PARKED (R11, R15). -/
theorem enterCradle_eq {s : State} (hp : s.opening.state ≠ .parked) (i : Fin 16) (k : Nat) :
    s.enterCradle i k =
      (s.setOpening { s.opening with volume := some i, k := k, seek := none }).enterSettling :=
  if_neg hp

/-- The opening record of a volume that enters the cradle (R11, R15). -/
theorem enterCradle_opening {s : State} (hp : s.opening.state ≠ .parked) (i : Fin 16) (k : Nat) :
    (s.enterCradle i k).opening.volume = some i ∧ (s.enterCradle i k).opening.k = k ∧
    (s.enterCradle i k).opening.seek = none ∧
    ((s.volume i).settle ≠ 0 →
      (s.enterCradle i k).opening =
        { s.opening with
          volume := some i, k := k, seek := none, state := .settling, settle := some (s.volume i).settle,
          direction := none }) ∧
    ((s.volume i).settle = 0 →
      (s.enterCradle i k).opening.settle = none ∧ (s.enterCradle i k).opening.state.settled = true) := by
  rw [enterCradle_eq hp]
  by_cases ht : (s.volume i).settle = 0
  · rw [enterSettling_at_once (s := s.setOpening { s.opening with volume := some i, k := k, seek := none }) ht,
      takeEvaluated_opening]
    exact ⟨rfl, rfl, rfl, fun h => absurd ht h, fun _ => ⟨rfl, evaluated_settled _⟩⟩
  · rw [enterSettling_timed (s := s.setOpening { s.opening with volume := some i, k := k, seek := none }) ht]
    exact ⟨rfl, rfl, rfl, fun _ => rfl, fun h => absurd h ht⟩

theorem samePort_of_eq {s t u : State} {l : LinkId} (h : (u.link l).SamePort (t.link l)) (he : u.link l = s.link l) :
    (s.link l).SamePort (t.link l) := he ▸ h

theorem enterSettling_ports (s : State) (l : LinkId) : (s.link l).SamePort (s.enterSettling.link l) := by
  by_cases ht : s.settleTime = 0
  · rw [enterSettling_at_once ht]
    exact samePort_of_eq (takeEvaluated_ports _ l) rfl
  · rw [enterSettling_timed ht]
    exact .refl _

theorem enterCradle_ports (s : State) (i : Fin 16) (k : Nat) (l : LinkId) :
    (s.link l).SamePort ((s.enterCradle i k).link l) := by
  unfold State.enterCradle
  dsimp only
  split
  · exact .refl _
  · exact samePort_of_eq (enterSettling_ports _ l) rfl

/-- A PENDING entry mounted (R154). -/
theorem mountPending_account (s : State) (i : Fin 16) (k : Nat) :
    (s.mountPending i k).account.leaves = freshLeaves (s.volume i).n ∧
    (s.mountPending i k).account.exceptions = [] ∧
    ∀ j, (s.mountPending i k).volume j = if j = i then { s.volume i with state := .mounted } else s.volume j := by
  have ha : (s.mountPending i k).account =
      (((s.setLeaves (freshLeaves (s.volume i).n)).setExceptions []).setVolume i
        { s.volume i with state := .mounted }).account := by simp [State.mountPending]
  refine ⟨by rw [ha]; rfl, by rw [ha]; rfl, fun j => ?_⟩
  rw [volume_congr ha]
  simp

theorem mountPending_ports (s : State) (i : Fin 16) (k : Nat) (l : LinkId) :
    (s.link l).SamePort ((s.mountPending i k).link l) :=
  samePort_of_eq (enterCradle_ports _ i k l) rfl

theorem mountPending_frame (s : State) (i : Fin 16) (k : Nat) :
    s.keeps (s.mountPending i k) [.capture, .light, .memory, .mem, .drain, .pending] := by
  simp [State.keeps, Part.same, State.mountPending]

/-- The opening record of a MOUNT from PENDING (R154). -/
theorem mountPending_opening {s : State} (hp : s.opening.state ≠ .parked) (i : Fin 16) (k : Nat) :
    (s.mountPending i k).opening.volume = some i ∧ (s.mountPending i k).opening.k = k ∧
    (s.mountPending i k).opening.seek = none ∧
    ((s.volume i).settle ≠ 0 →
      (s.mountPending i k).opening =
        { s.opening with
          volume := some i, k := k, seek := none, state := .settling, settle := some (s.volume i).settle,
          direction := none }) ∧
    ((s.volume i).settle = 0 →
      (s.mountPending i k).opening.settle = none ∧ (s.mountPending i k).opening.state.settled = true) := by
  have hv : ((((s.setLeaves (freshLeaves (s.volume i).n)).setExceptions []).setVolume i
      { s.volume i with state := .mounted }).volume i).settle = (s.volume i).settle := by simp
  rw [← hv]
  exact enterCradle_opening (s := ((s.setLeaves (freshLeaves (s.volume i).n)).setExceptions []).setVolume i
      { s.volume i with state := .mounted }) hp i k

theorem mem_freshLeaves {n : Nat} {e : LeafEntry} (h : e ∈ freshLeaves n) : e = .fresh :=
  List.eq_of_mem_replicate h

/-- A SUSPENDED entry resumed (R158). -/
theorem resume_volume (s : State) (i : Fin 16) (x : Word) (j : Fin 16) :
    (s.resume i x).volume j =
      if j = i then
        { s.volume i with
          state := .resuming, lastOpening := if x = 0xFFFF then (s.volume i).lastOpening else some x.toNat }
      else s.volume j := by
  unfold State.resume
  dsimp only
  split
  · exact setVolume_volume _ _ _ _
  · rw [volume_congr (beginRestore_frame _ _).2.1]
    exact setVolume_volume _ _ _ _

theorem resume_frame (s : State) (i : Fin 16) (x : Word) :
    s.keeps (s.resume i x) [.opening, .capture, .light, .mem, .drain, .links, .pending] ∧
    (s.resume i x).account.leaves = s.account.leaves ∧
    (s.resume i x).account.exceptions = s.account.exceptions ∧
    (s.resume i x).memory = { s.memory with engine := (s.resume i x).memory.engine } := by
  unfold State.resume
  dsimp only
  split
  · exact ⟨by simp [State.keeps, Part.same], rfl, rfl, rfl⟩
  · exact ⟨by simp [State.keeps, Part.same], rfl, rfl, rfl⟩

theorem resume_engine {s : State} {i : Fin 16} {x : Word} {n : Fin 8} (h : (s.volume i).saveSlot = some n) :
    (s.resume i x).memory.engine =
      { state := .restoring, slot := some n, length := ((s.slot n).image).getD 0,
        left := ((s.slot n).image).getD 0, abandoned := false } := by
  unfold State.resume
  dsimp only
  split
  · next hn => rw [h] at hn; exact absurd hn (by simp)
  · next m hm =>
    obtain rfl : n = m := Option.some.inj (h.symm.trans hm)
    rfl

/-- Settles O48. -/
theorem mount : Obligations.Mount := by
  intro index x s h
  obtain ⟨act, hexec, hact⟩ := exec_mount index x s
  obtain ⟨hrange, hentry⟩ := hact (s.taken .S 0x11)
  have hc := Passes.mount index x
  dsimp only
  rw [hexec]
  refine ⟨fun hn => congrArg _ (hc.pure h (hrange (finOf_none hn))), fun i hi => ?_⟩
  have hmount := hentry i (finOf_eq hi)
  obtain ⟨hparked, hbusy⟩ := mount_refused (s := s.taken .S 0x11) (i := i) (x := x)
  have free := mount_free (s := s.taken .S 0x11) (i := i) (x := x)
  refine ⟨fun hp => congrArg _ (hc.pure h (hmount.trans (hparked hp))),
    fun j hp hj => congrArg _ (hc.pure h (hmount.trans (hbusy j hp hj))),
    fun hf h1 h2 => congrArg _ (hc.pure h (hmount.trans ((free hf.1 hf.2).1 h1 h2))),
    fun hf h1 h2 => congrArg _ (hc.pure h (hmount.trans (((free hf.1 hf.2).2.1 h1).1 h2))),
    fun hf h1 h2 h3 => congrArg _ (hc.pure h (hmount.trans (((free hf.1 hf.2).2.2 h1).1 ⟨h2, h3⟩))),
    fun hf h1 h2 => ?_, fun hf h1 h2 => ?_⟩
  · have hm := hmount.trans (((free hf.1 hf.2).2.1 h1).2 h2)
    have hports := mountPending_ports (s.taken .S 0x11) i x.toNat .S
    have hframe := mountPending_frame (s.taken .S 0x11) i x.toNat
    obtain ⟨hleaves, hexc, hvol⟩ := mountPending_account (s.taken .S 0x11) i x.toNat
    obtain ⟨ho1, ho2, ho3, ho4, ho5⟩ := mountPending_opening (s := s.taken .S 0x11) hf.1 i x.toNat
    refine ⟨_, congrArg _ (hc.quiet h hm hports.dropAnswer (congrArg Light.held (hframe .light (by simp)))
      (hframe .memory (by simp)) (hframe .drain (by simp))), answered_hasAnswer hports.request _ _ _,
      (hvol i).trans (if_pos rfl), fun j hj => (hvol j).trans (if_neg hj), hexc, ?_, fun e he => ?_, ho1, ho2, ho3, ho4,
      ho5, keeps_answered (keeps_of_taken hframe (by simp)) (by simp)⟩
    · exact (congrArg List.length hleaves).trans List.length_replicate
    · obtain rfl := mem_freshLeaves (hleaves ▸ he)
      exact ⟨rfl, fun f => by cases f <;> rfl⟩
  · have hm := hmount.trans (((free hf.1 hf.2).2.2 h1).2 h2)
    obtain ⟨hframe, hleaves, hexc, hmem⟩ := resume_frame (s.taken .S 0x11) i x
    have hheld : ((s.taken .S 0x11).resume i x).light.held = s.light.held :=
      congrArg Light.held (hframe .light (by simp))
    have hlink (l : LinkId) : ((s.taken .S 0x11).resume i x).link l = (s.taken .S 0x11).link l :=
      congrArg (Links.get · l) (hframe .links (by simp))
    have hvol := resume_volume (s.taken .S 0x11) i x
    set u := (s.taken .S 0x11).resume i x with hu
    have hsame := arbitrate_sameButBurst (s := s) (t := u.answered .S 0x11 .ok (u.volumeStatus i)) hheld
    have hanswer := answered_hasAnswer (u := u) (l := .S) (congrArg Link.request (hlink .S)) 0x11 .ok (u.volumeStatus i)
    refine ⟨_, congrArg _ (hc.reply h hm ((congrArg Link.dropAnswer (hlink .S)).trans (taken_dropAnswer _ _ _ _))),
      ?_, ?_, fun j hj => ?_, ?_, ?_, ?_,
      fun n hn => ⟨?_, fun h3 h4 h5 h6 h7 h8 => ?_⟩, fun l hl => ?_, ?_⟩
    · rw [hsame.volumeStatus]
      simp only [State.hasAnswer, hsame.link]
      exact hanswer
    · rw [hsame.volume]; exact (hvol i).trans (if_pos rfl)
    · rw [hsame.volume]; exact (hvol j).trans (if_neg hj)
    · rw [hsame.account]; exact hleaves
    · rw [hsame.account]; exact hexc
    · rw [hsame.slots]; exact (congrArg FrameMemory.slots hmem).trans rfl
    · rw [hsame.engine]; exact resume_engine hn
    · have hmem' := hmem
      rw [resume_engine (s := s.taken .S 0x11) hn] at hmem'
      exact engine_granted (t := u.answered .S 0x11 .ok (u.volumeStatus i)) hheld hmem' (by simp) rfl h3 h4 h5 h6 h7 h8
    · rw [hsame.link, answered_link, if_neg hl, hlink, taken_link, if_neg hl]
    · refine keeps_of_frame (keeps_answered (keeps_of_taken (keeps_of_frame (State.keeps_refl _ _) hframe ?_) ?_) ?_)
        hsame.blocks ?_ <;> simp

end Sys2Proof.Machine
end

section
/-! PROOFS. SUSPEND (R155, R156): the checks in order, and the save begun. -/

namespace Sys2Proof.Machine

open Sys2Proof

theorem Passes.suspend : Passes (.suspend .S) .S ⟨0x12, []⟩ := ⟨rfl, ⟨_, rfl, rfl⟩, rfl, by simp⟩

/-- What an event that begins a transfer answers on link S, after the arbiters' decision. -/
theorem hasAnswer_volumeStatus {s u : State} {k : Byte} {i : Fin 16} (hheld : u.light.held = s.light.held)
    (hreq : (u.link .S).request = none) :
    (s.arbitrate (u.answered .S k .ok (u.volumeStatus i))).hasAnswer .S k .ok
      ((s.arbitrate (u.answered .S k .ok (u.volumeStatus i))).volumeStatus i) := by
  have hsame := arbitrate_sameButBurst (s := s) (t := u.answered .S k .ok (u.volumeStatus i)) hheld
  rw [hsame.volumeStatus]
  simp only [State.hasAnswer, hsame.link]
  exact answered_hasAnswer hreq k .ok _

/-- The checks of SUSPEND in order (R155), and the save it begins (R156). -/
theorem exec_suspend (s : State) :
    ∃ act, exec (.suspend .S) s = .next (s.ask (.suspend .S) act) ∧
      ∀ t : State,
        (t.opening.state = .parked → act t = t.refuse .state) ∧
        (t.opening.state = .fault → act t = t.refuse .fault) ∧
        (t.opening.state ≠ .parked → t.opening.state ≠ .fault →
          (t.moving ≠ none → act t = t.refuse .busy) ∧
          (t.moving = none →
            (t.mounted = none → act t = t.refuse .noVolume) ∧
            ∀ i, t.mounted = some i →
              (t.opening.state = .turning ∨ t.inFlight = true ∨ t.claimHeld = true → act t = t.refuse .busy) ∧
              (¬(t.opening.state = .turning ∨ t.inFlight = true ∨ t.claimHeld = true) →
                (t.lowestFree = none → act t = ⟨t, .noSlot, [b1 t.frameSlots.length]⟩) ∧
                ∀ x, t.lowestFree = some x → act t = ⟨t.suspend i x, .ok, (t.suspend i x).volumeStatus i⟩))) := by
  refine ⟨_, rfl, fun t => ⟨fun h => ?_, fun h => ?_, fun h1 h2 => ⟨fun h => ?_, fun h =>
    ⟨fun hm => ?_, fun i hm => ⟨fun hb => ?_, fun hb => ?_⟩⟩⟩⟩⟩
  · simp [h]
  · simp [h]
  · simp [h1, h2, Option.isSome_iff_ne_none.2 h]
  · simp [h1, h2, h, hm]
  · have : (decide (t.opening.state = .turning) || t.inFlight || t.claimHeld) = true := by
      simpa [or_assoc] using hb
    simp [h1, h2, h, hm, this]
  · have : (decide (t.opening.state = .turning) || t.inFlight || t.claimHeld) = false := by
      simpa [not_or, and_assoc] using hb
    simp +contextual [h1, h2, h, hm, this]

theorem lowestFree_none {s : State} : s.lowestFree = none ↔ ∀ x, (s.slot x).state ≠ .free := by
  simp [State.lowestFree, List.find?_eq_none, mem_allSlots]

theorem lowestFree_some {s : State} {x : Fin 8} (hx : (s.slot x).state = .free)
    (hl : ∀ y, y < x → (s.slot y).state ≠ .free) : s.lowestFree = some x :=
  find_allSlots (by simpa using hx) fun y hy => by simpa using hl y hy

theorem allSlots_eq : allSlots = List.finRange 8 := by decide

theorem length_frameSlots (s : State) :
    s.frameSlots.length =
      (List.finRange 8).countP fun x => decide ((s.slot x).state = .sealed ∨ (s.slot x).state = .draining) := by
  rw [State.frameSlots, ← List.countP_eq_length_filter, allSlots_eq]

/-- A save begun (R156). -/
theorem suspend_frame (s : State) (i : Fin 16) (x : Fin 8) :
    s.keeps (s.suspend i x) [.capture, .light, .mem, .drain, .links, .pending] ∧
    (s.suspend i x).opening =
      { s.opening with volume := none, seek := none, settle := none, direction := none, state := .idle } ∧
    (s.suspend i x).account.leaves = s.account.leaves ∧ (s.suspend i x).account.exceptions = s.account.exceptions ∧
    (∀ j, (s.suspend i x).volume j =
      if j = i then
        { s.volume i with state := .suspending, saveSlot := some x, lastOpening := some s.opening.k }
      else s.volume j) ∧
    (∀ y, (s.suspend i x).slot y =
      if y = x then Slot.forSave i (imageLength (s.volume i).n s.account.exceptions.length) else s.slot y) ∧
    (s.suspend i x).memory.engine =
      { state := .saving, slot := some x, length := imageLength (s.volume i).n s.account.exceptions.length,
        left := imageLength (s.volume i).n s.account.exceptions.length, abandoned := false } := by
  refine ⟨by simp [State.keeps, Part.same, State.suspend], rfl, rfl, rfl, fun j => ?_, fun y => ?_, rfl⟩
  · exact setVolume_volume _ i j _
  · exact setSlot_slot s x y _

theorem exists_half (p : Half → Prop) : (∃ h, p h) ↔ p .left ∨ p .right :=
  ⟨fun ⟨h, hp⟩ => by cases h; exacts [.inl hp, .inr hp], fun hp => hp.elim (⟨_, ·⟩) (⟨_, ·⟩)⟩

theorem busy_iff (s : State) :
    (s.opening.state = .turning ∨ (∃ h, s.ctx h ≠ none) ∨ ∃ h, s.claimOf h ≠ none) ↔
      s.opening.state = .turning ∨ s.inFlight = true ∨ s.claimHeld = true := by
  rw [inFlight_iff, claimHeld_iff, exists_half, exists_half]

/-- Settles O49. -/
theorem suspend : Obligations.Suspend := by
  intro s h
  obtain ⟨act, hexec, hact⟩ := exec_suspend s
  obtain ⟨hparked, hfault, hopen⟩ := hact (s.taken .S 0x12)
  have hc := Passes.suspend
  dsimp only
  rw [hexec]
  refine ⟨fun hp => congrArg _ (hc.pure h (hparked hp)), fun hp => congrArg _ (hc.pure h (hfault hp)),
    fun h1 h2 h3 => congrArg _ (hc.pure h ((hopen h1 h2).1 h3)),
    fun hf hm => congrArg _ (hc.pure h (((hopen hf.1 hf.2.1).2 hf.2.2).1 hm)), fun i hf hm => ?_⟩
  obtain ⟨hbusy, hfree⟩ := ((hopen hf.1 hf.2.1).2 hf.2.2).2 i hm
  rw [busy_iff]
  refine ⟨fun hb => congrArg _ (hc.pure h (hbusy hb)), fun hb hn => ?_, fun x hb hx hl => ?_⟩
  · refine congrArg _ (hc.pure h (((hfree hb).1 (lowestFree_none.2 hn)).trans ?_))
    rw [length_frameSlots]
    rfl
  · have hs := (hfree hb).2 x (lowestFree_some hx hl)
    obtain ⟨hframe, hopening, hleaves, hexc, hvol, hslot, hengine⟩ := suspend_frame (s.taken .S 0x12) i x
    set u := (s.taken .S 0x12).suspend i x with hu
    have hlink (l : LinkId) : u.link l = (s.taken .S 0x12).link l :=
      congrArg (Links.get · l) (hframe .links (by simp))
    have hheld : u.light.held = s.light.held := congrArg Light.held (hframe .light (by simp))
    have hsame := arbitrate_sameButBurst (s := s) (t := u.answered .S 0x12 .ok (u.volumeStatus i)) hheld
    refine ⟨_, congrArg _ (hc.reply h hs ((congrArg Link.dropAnswer (hlink .S)).trans (taken_dropAnswer _ _ _ _))),
      hasAnswer_volumeStatus hheld (congrArg Link.request (hlink .S)), ?_, fun j hj => ?_, ?_, ?_, ?_, fun y hy => ?_, ?_,
      ?_, fun l hl => ?_, ?_⟩
    · rw [hsame.volume]; exact (hvol i).trans (if_pos rfl)
    · rw [hsame.volume]; exact (hvol j).trans (if_neg hj)
    · rw [hsame.account]; exact hleaves
    · rw [hsame.account]; exact hexc
    · rw [hsame.slot]; exact (hslot x).trans (if_pos rfl)
    · rw [hsame.slot]; exact (hslot y).trans (if_neg hy)
    · rw [hsame.engine]; exact hengine
    · rw [hsame.opening]; exact hopening
    · rw [hsame.link, answered_link, if_neg hl, hlink, taken_link, if_neg hl]
    · refine keeps_of_frame (keeps_answered (keeps_of_taken (keeps_of_frame (State.keeps_refl _ _) hframe ?_) ?_) ?_)
        hsame.blocks ?_ <;> simp

end Sys2Proof.Machine
end

section
/-! PROOFS. The claims ended together (R50), and CLOSE (R160, R161) from MOUNTED. -/

namespace Sys2Proof.Machine

open Sys2Proof

/-! ### Claims ended -/

theorem changeSide_setLink (s : State) (l : LinkId) (q : Link) (f : Face) (j : Nat) (g : SideRec → SideRec) :
    (s.setLink l q).changeSide f j g = (s.changeSide f j g).setLink l q := by
  have hside : (s.setLink l q).side f j = s.side f j := rfl
  unfold State.changeSide
  rw [hside]
  cases s.side f j with
  | none => rfl
  | some r =>
    dsimp only
    rw [setLeaves_mounted, setLeaves_mounted, setLink_mounted]
    cases s.mounted <;> rfl

theorem Links.set_comm (b : Links) {l m : LinkId} (h : l ≠ m) (k q : Link) : (b.set l k).set m q = (b.set m q).set l k := by
  cases l <;> cases m <;> first | rfl | exact absurd rfl h

theorem notify_setLink (s : State) {l m : LinkId} (h : m ≠ l) (q : Link) (n : Notice) :
    (s.setLink l q).notify m n = (s.notify m n).setLink l q := by
  unfold State.notify
  rw [setLink_link, if_neg h]
  simp only [State.setLink, Links.set_comm _ (Ne.symm h)]

theorem cameraLink_ne_S (h : Half) : cameraLink h ≠ .S := by cases h <;> simp [cameraLink]

theorem endClaim_none {s : State} {h : Half} (hc : s.claimOf h = none) (e : Bool) : s.endClaim h e = s := by
  simp only [State.endClaim, hc]

/-- The side given back and the record emptied, of a claim that ends. -/
def State.unclaimSide (s : State) (h : Half) (c : Claim) : State :=
  (s.changeSide (faceOf h) c.leaf (SideRec.unclaimed c.prior)).setClaim h none

theorem endClaim_some {s : State} {h : Half} {c : Claim} (hc : s.claimOf h = some c) (e : Bool) :
    s.endClaim h e =
      if e = true then (s.unclaimSide h c).notify (cameraLink h) (.claimExpired c.leaf (faceOf h) c.prior)
      else s.unclaimSide h c := by
  simp only [State.endClaim, hc]
  rfl

theorem endClaim_setLink (s : State) (q : Link) (h : Half) (e : Bool) :
    (s.setLink .S q).endClaim h e = (s.endClaim h e).setLink .S q := by
  cases hc : s.claimOf h with
  | none => rw [endClaim_none hc, endClaim_none (s := s.setLink .S q) hc]
  | some c =>
    have hu : (s.setLink .S q).unclaimSide h c = (s.unclaimSide h c).setLink .S q := by
      unfold State.unclaimSide
      rw [changeSide_setLink, setClaim_setLink]
    rw [endClaim_some hc, endClaim_some (s := s.setLink .S q) hc, hu]
    split
    · exact notify_setLink _ (cameraLink_ne_S h) q _
    · rfl

/-- The claims are no matter of link S. -/
theorem endClaims_setLink (s : State) (q : Link) (e : Bool) :
    (s.setLink .S q).endClaims e = (s.endClaims e).setLink .S q := by
  unfold State.endClaims
  rw [endClaim_setLink, endClaim_setLink]

theorem endClaim_link_S (s : State) (h : Half) (e : Bool) : (s.endClaim h e).link .S = s.link .S := by
  unfold State.endClaim
  dsimp only
  split
  · rfl
  · split
    · rw [notify_link, if_neg (cameraLink_ne_S h).symm]
      simp [State.link]
    · simp [State.link]

theorem endClaims_link_S (s : State) (e : Bool) : (s.endClaims e).link .S = s.link .S := by
  unfold State.endClaims
  rw [endClaim_link_S, endClaim_link_S]

theorem endClaims_taken (s : State) (k : Byte) (e : Bool) : (s.taken .S k).endClaims e = (s.endClaims e).taken .S k := by
  simp only [State.taken, endClaims_setLink, endClaims_link_S]

theorem endClaim_claims (s : State) (h g : Half) (e : Bool) :
    (s.endClaim h e).claimOf g = if g = h then none else s.claimOf g := by
  cases hc : s.claimOf h with
  | none =>
    rw [endClaim_none hc]
    split
    · next hg => rw [hg, hc]
    · rfl
  | some c =>
    have hu : (s.unclaimSide h c).claimOf g = if g = h then none else s.claimOf g := by
      rw [State.unclaimSide, setClaim_claimOf]
      simp only [State.claimOf, changeSide_frame]
    rw [endClaim_some hc, ← hu]
    split
    · simp only [State.claimOf, notify_frame]
    · rfl

theorem endClaims_claimOf (s : State) (e : Bool) (g : Half) : (s.endClaims e).claimOf g = none := by
  unfold State.endClaims
  rw [endClaim_claims, endClaim_claims]
  cases g <;> rfl

theorem endClaim_ctx (s : State) (h g : Half) (e : Bool) : (s.endClaim h e).ctx g = s.ctx g := by
  cases hc : s.claimOf h with
  | none => rw [endClaim_none hc]
  | some c =>
    have hu : (s.unclaimSide h c).ctx g = s.ctx g := by simp [State.unclaimSide, State.ctx, State.setClaim]
    rw [endClaim_some hc, ← hu]
    split
    · simp only [State.ctx, notify_frame]
    · rfl

theorem endClaims_ctx (s : State) (e : Bool) (g : Half) : (s.endClaims e).ctx g = s.ctx g := by
  unfold State.endClaims
  rw [endClaim_ctx, endClaim_ctx]

/-- A claim that ends moves counts of the entries alone. -/
theorem changeSide_counts (s : State) (f : Face) (j : Nat) (g : SideRec → SideRec) (n : Fin 16) :
    (s.changeSide f j g).volume n = { s.volume n with counts := ((s.changeSide f j g).volume n).counts } := by
  unfold State.changeSide
  dsimp only
  split
  · rfl
  · split
    · rfl
    · rw [setVolume_volume]
      split
      · next hn => rw [hn]; rfl
      · rfl

theorem endClaim_account {s : State} {h : Half} {c : Claim} (hc : s.claimOf h = some c) (e : Bool) :
    (s.endClaim h e).account = (s.changeSide (faceOf h) c.leaf (SideRec.unclaimed c.prior)).account := by
  rw [endClaim_some hc]
  split
  · rw [(notify_frame _ _ _).2.1]; rfl
  · rfl

theorem endClaim_counts (s : State) (h : Half) (e : Bool) (n : Fin 16) :
    (s.endClaim h e).volume n = { s.volume n with counts := ((s.endClaim h e).volume n).counts } := by
  cases hc : s.claimOf h with
  | none => rw [endClaim_none hc]
  | some c =>
    rw [volume_congr (endClaim_account hc e)]
    exact changeSide_counts s _ _ _ n

theorem endClaims_counts (s : State) (e : Bool) (n : Fin 16) :
    (s.endClaims e).volume n = { s.volume n with counts := ((s.endClaims e).volume n).counts } := by
  unfold State.endClaims
  rw [endClaim_counts, endClaim_counts s]

theorem endClaim_exceptions (s : State) (h : Half) (e : Bool) :
    (s.endClaim h e).account.exceptions = s.account.exceptions := by
  cases hc : s.claimOf h with
  | none => rw [endClaim_none hc]
  | some c =>
    rw [endClaim_account hc]
    exact changeSide_exceptions s _ _ _

theorem endClaims_exceptions (s : State) (e : Bool) :
    (s.endClaims e).account.exceptions = s.account.exceptions := by
  unfold State.endClaims
  rw [endClaim_exceptions, endClaim_exceptions]

/-! ### CLOSE from MOUNTED -/

theorem Passes.close (index : Byte) : Passes (.close .S index) .S ⟨0x13, [index]⟩ :=
  ⟨rfl, ⟨_, rfl, rfl⟩, rfl, by simp [Config.maxRequestBody]⟩

theorem exec_close (index : Byte) (s : State) :
    ∃ act, exec (.close .S index) s = .next (s.ask (.close .S index) act) ∧
      ∀ t : State,
        (finOf 16 index.toNat = none → act t = t.refuse .range) ∧
        ∀ i, finOf 16 index.toNat = some i → act t = t.close i := by
  refine ⟨_, rfl, fun t => ?_⟩
  simp +contextual

/-- The checks of a CLOSE in order (R160). -/
theorem close_eq (s : State) (i : Fin 16) :
    (s.opening.state = .parked → s.close i = s.refuse .state) ∧
    (s.opening.state = .fault → s.close i = s.refuse .fault) ∧
    (s.opening.state ≠ .parked → s.opening.state ≠ .fault →
      ((s.volume i).state ≠ .mounted → (s.volume i).state ≠ .suspended → s.close i = s.refuse .state) ∧
      ((s.volume i).state = .mounted →
        (s.opening.state = .turning ∨ s.inFlight = true → s.close i = s.refuse .busy) ∧
        (¬(s.opening.state = .turning ∨ s.inFlight = true) →
          s.close i = ⟨s.closeMounted i, .ok, (s.closeMounted i).volumeStatus i⟩)) ∧
      ((s.volume i).state = .suspended →
        s.close i = ⟨s.closeSuspended i, .ok, (s.closeSuspended i).volumeStatus i⟩)) := by
  unfold State.close
  refine ⟨fun h => by simp [h], fun h => by simp [h], fun h1 h2 => ⟨fun h3 h4 => ?_, fun h3 => ⟨fun h4 => ?_, fun h4 => ?_⟩,
    fun h3 => ?_⟩⟩
  · simp only [h1, h2, if_false]
  · simp [h1, h2, h3, h4]
  · rw [not_or] at h4
    simp [h1, h2, h3, h4]
  · simp [h1, h2, h3]

/-- The report of a volume closed from MOUNTED (R161). -/
def State.mountedReport (s : State) (i : Fin 16) : CloseReport :=
  { index := i, n := (s.volume i).n, fromMounted := true, counts := ((s.endClaims true).volume i).counts,
    doseUsed := (s.volume i).doseUsed, volumeCap := (s.volume i).volumeCap, excCount := (s.volume i).excCount,
    excLost := (s.volume i).excLost, unread := s.account.exceptions.length, lastOpening := some s.opening.k }

/-- A MOUNTED entry closed: its claims end, it leaves the cradle, its report is queued and the tables are emptied
(R160, R161). -/
theorem closeMounted_eq (s : State) (i : Fin 16) :
    s.closeMounted i =
      ((((s.endClaims true).enterIdle.setVolume i
        { s.volume i with
          state := .closed, counts := ((s.endClaims true).volume i).counts, lastOpening := some s.opening.k }).notify .S
        (.closeReport (s.mountedReport i))).emptyTables) := by
  have ho := (endClaims_frame s true).1
  have hv : ({ (s.endClaims true).enterIdle.volume i with
      state := .closed, lastOpening := some (s.endClaims true).enterIdle.opening.k } : Volume) =
      { s.volume i with
        state := .closed, counts := ((s.endClaims true).volume i).counts, lastOpening := some s.opening.k } := by
    change ({ (s.endClaims true).volume i with
      state := .closed, lastOpening := some (s.endClaims true).opening.k } : Volume) = _
    rw [ho, endClaims_counts]
  unfold State.closeMounted
  dsimp only
  rw [hv]
  have hr : ((s.endClaims true).enterIdle.setVolume i { s.volume i with
      state := .closed, counts := ((s.endClaims true).volume i).counts,
      lastOpening := some s.opening.k }).closeReport i true = s.mountedReport i := by
    have he : (s.endClaims true).enterIdle.account.exceptions = s.account.exceptions := endClaims_exceptions s true
    have hk : (s.endClaims true).enterIdle.opening.k = s.opening.k := by
      change (s.endClaims true).opening.k = _
      rw [ho]
    simp only [State.closeReport, setVolume_volume, if_true, setVolume_account_exceptions, setVolume_opening, he, hk]
    rfl
  rw [hr]

end Sys2Proof.Machine
end

section
/-! PROOFS. Slots freed and offered (R112, R113), and CLOSE (R160, R161). -/

namespace Sys2Proof.Machine

open Sys2Proof

/-! ### A slot that becomes FREE -/

theorem offerOnce_nil {s : State} (h : s.capture.waitOrder = []) : s.offerOnce = s := by
  simp only [State.offerOnce, h]

theorem offerOnce_full {s : State} (h : s.lowestFree = none) : s.offerOnce = s := by
  unfold State.offerOnce
  split
  · rfl
  · simp only [h]

@[simp] theorem setCtx_setCtx (s : State) (h : Half) (a b : Option Ctx) : (s.setCtx h a).setCtx h b = s.setCtx h b := by
  simp [State.setCtx]

/-- The step of an unpaired context, with its slot bound and its light request placed (R55, R57). -/
def State.stepWith (s : State) (h : Half) (c : Ctx) (x : Fin 8) (timer : Option Nat) : State :=
  ((s.setSlot x (s.opened h c)).setCtx h (some { c with slot := some x, state := .waitLight, slotTimer := timer })).setHeld
    (s.light.held ++ [c.request h])

theorem Ctx.request_congr {c d : Ctx} (hi : d.id = c.id) (hs : d.step = c.step) (hp : d.copy = c.copy) (h : Half) :
    d.request h = c.request h := by
  cases h <;> simp only [Ctx.request, Ctx.mask, hi, hs, hp]

theorem bindSlot_eq {s : State} {h : Half} {c : Ctx} (hc : s.ctx h = some c) (x : Fin 8) :
    s.bindSlot h x =
      (s.setSlot x (s.opened h c)).setCtx h (some { c with slot := some x, state := .waitLight }) := by
  simp only [State.bindSlot, hc]
  rfl

theorem placeRequest_unpaired {s : State} {h : Half} {c : Ctx} (hc : s.ctx h = some c) (hl : c.linked = false) :
    s.placeRequest h = s.setHeld (s.light.held ++ [c.request h]) := by
  simp [State.placeRequest, hc, hl]

theorem stopSlotLimit_unpaired {s : State} {h : Half} {c : Ctx} (hc : s.ctx h = some c) (hl : c.linked = false) :
    s.stopSlotLimit h = s.setCtx h (some { c with slotTimer := none }) := by
  simp [State.stopSlotLimit, hc, hl]

/-- The oldest context that waits takes the lowest FREE slot (R112). -/
theorem offerOnce_bound {s : State} {h : Half} {rest : List Half} {x : Fin 8} {c : Ctx}
    (hw : s.capture.waitOrder = h :: rest) (hx : s.lowestFree = some x) (hc : s.ctx h = some c)
    (hl : c.linked = false) : s.offerOnce = (s.setWaitOrder rest).stepWith h c x none := by
  unfold State.offerOnce
  simp only [hw, hx]
  rw [bindSlot_eq (s := s.setWaitOrder rest) hc,
    stopSlotLimit_unpaired (c := { c with slot := some x, state := .waitLight }) (by simp) hl, setCtx_setCtx,
    placeRequest_unpaired (c := { c with slot := some x, state := .waitLight, slotTimer := none }) (by simp) hl]
  exact congrArg (fun q => State.setHeld _ (_ ++ [q])) (Ctx.request_congr rfl rfl rfl h)

/-- The slots are all the memory controller gives to a capture. -/
theorem offerOnce_memory (s : State) : s.offerOnce.memory = { s.memory with slots := s.offerOnce.memory.slots } := by
  unfold State.offerOnce
  split
  · rfl
  · split
    · rfl
    · simp only [placeRequest_frame, stopSlotLimit_frame]
      unfold State.bindSlot
      split <;> rfl

theorem freeSlot_memory (s : State) (x : Fin 8) :
    (s.freeSlot x).memory = { s.memory with slots := (s.freeSlot x).memory.slots } := by
  unfold State.freeSlot State.offerSlots
  rw [offerOnce_memory, offerOnce_memory (s.setSlot x .free)]
  rfl

/-- With no capture that waits, a slot freed is just FREE. -/
theorem freeSlot_nil {s : State} (h : s.capture.waitOrder = []) (x : Fin 8) : s.freeSlot x = s.setSlot x .free := by
  have h1 : (s.setSlot x .free).offerOnce = s.setSlot x .free := offerOnce_nil h
  unfold State.freeSlot State.offerSlots
  rw [h1, h1]

/-- The only FREE slot goes to the oldest context that waits (R112). -/
theorem freeSlot_cons {s : State} {h : Half} {rest : List Half} {x : Fin 8} {c : Ctx}
    (hw : s.capture.waitOrder = h :: rest) (hx : ∀ y, y ≠ x → (s.slot y).state ≠ .free) (hc : s.ctx h = some c)
    (hl : c.linked = false) : s.freeSlot x = ((s.setSlot x .free).setWaitOrder rest).stepWith h c x none := by
  have hfree : (s.setSlot x .free).lowestFree = some x := by
    refine lowestFree_some (by simp [Slot.free]) fun y hy => ?_
    simpa [Fin.ne_of_lt hy] using hx y (Fin.ne_of_lt hy)
  have hnone : (((s.setSlot x .free).setWaitOrder rest).stepWith h c x none).lowestFree = none := by
    refine lowestFree_none.2 fun y => ?_
    by_cases hy : y = x
    · simp [State.stepWith, hy, State.opened]
    · simpa [State.stepWith, hy] using hx y hy
  unfold State.freeSlot State.offerSlots
  rw [offerOnce_bound (s := s.setSlot x .free) hw hfree hc hl, offerOnce_full hnone]

/-! ### CLOSE from SUSPENDED -/

/-- The report of a volume closed from SUSPENDED (R161, log 38). -/
def State.suspendedReport (s : State) (i : Fin 16) : CloseReport :=
  { index := i, n := (s.volume i).n, fromMounted := false, counts := (s.volume i).counts,
    doseUsed := (s.volume i).doseUsed, volumeCap := (s.volume i).volumeCap, excCount := (s.volume i).excCount,
    excLost := (s.volume i).excLost, unread := 0, lastOpening := (s.volume i).lastOpening }

theorem freeSlot_volume (s : State) (x : Fin 8) : (s.freeSlot x).volume = s.volume :=
  volume_congr (freeSlot_frame s x).2.1

/-- The image of a SUSPENDED entry taken out of use (R161). -/
theorem dropImage_eq {s : State} {i : Fin 16} {x : Fin 8} (h : (s.volume i).saveSlot = some x) :
    s.dropImage i =
      ((s.freeSlot x).setVolume i { s.volume i with saveSlot := none }).notify .S
        (.closeReport (s.suspendedReport i)) := by
  simp only [State.dropImage, h]
  rfl

/-- A SUSPENDED entry closed (R161). -/
theorem closeSuspended_eq {s : State} {i : Fin 16} {x : Fin 8} (h : (s.volume i).saveSlot = some x) :
    s.closeSuspended i =
      (((s.freeSlot x).setVolume i { s.volume i with saveSlot := none }).notify .S
        (.closeReport (s.suspendedReport i))).setVolume i { s.volume i with state := .closed, saveSlot := none } := by
  have hv : ((s.dropImage i).volume i) = { s.volume i with saveSlot := none } := by
    rw [dropImage_volume]
    simp
  unfold State.closeSuspended
  dsimp only
  rw [hv, dropImage_eq h]

theorem push_notices_congr {k k' : Link} (h : k'.notices = k.notices) (d : Nat) (n : Notice) :
    (k'.push d n).notices = (k.push d n).notices := by
  unfold Link.push
  rw [h]
  split <;> rfl

theorem slotsOnly_of_eq {m m' m0 : FrameMemory} (h : m = m') (h' : m' = { m0 with slots := m'.slots }) :
    m = { m0 with slots := m.slots } := by
  rw [h]; exact h'

theorem closeSuspended_account {s : State} {i : Fin 16} {x : Fin 8} (h : (s.volume i).saveSlot = some x) :
    (s.closeSuspended i).account.leaves = s.account.leaves ∧
    (s.closeSuspended i).account.exceptions = s.account.exceptions ∧
    ∀ j, (s.closeSuspended i).volume j =
      if j = i then { s.volume i with state := .closed, saveSlot := none } else s.volume j := by
  rw [closeSuspended_eq h]
  refine ⟨by simp, by simp, fun j => ?_⟩
  rw [setVolume_volume]
  split
  · rfl
  · next hj => rw [volume_congr (notify_frame ..).2.1, setVolume_volume, if_neg hj, freeSlot_volume]

theorem closeSuspended_blocks {s : State} {i : Fin 16} {x : Fin 8} (h : (s.volume i).saveSlot = some x) :
    s.keeps (s.closeSuspended i) [.opening, .mem, .drain, .pending] ∧
    (s.closeSuspended i).capture = (s.freeSlot x).capture ∧ (s.closeSuspended i).light = (s.freeSlot x).light ∧
    (s.closeSuspended i).memory = (s.freeSlot x).memory ∧
    ∀ l, (s.closeSuspended i).link l =
      if l = .S then (s.link .S).push (noticeDepth .S) (.closeReport (s.suspendedReport i)) else s.link l := by
  rw [closeSuspended_eq h]
  refine ⟨by simp [State.keeps, Part.same], by simp, by simp, by simp, fun l => ?_⟩
  have hl (m : LinkId) : (s.freeSlot x).link m = s.link m := congrArg (Links.get · m) (freeSlot_frame s x).2.2.2.2.1
  rw [setVolume_link, notify_link, setVolume_link, setVolume_link, hl, hl]

/-! ### CLOSE -/

/-- The state after a CLOSE of the MOUNTED entry (R160, R161). -/
theorem closeMounted_blocks (s : State) (i : Fin 16) :
    s.keeps (s.closeMounted i) [.light, .memory, .mem, .drain, .pending] ∧
    (s.closeMounted i).capture = (s.endClaims true).capture ∧
    (s.closeMounted i).account.leaves = [] ∧ (s.closeMounted i).account.exceptions = [] ∧
    (s.closeMounted i).opening =
      { s.opening with volume := none, seek := none, settle := none, direction := none, state := .idle } ∧
    (∀ j, (s.closeMounted i).volume j =
      if j = i then
        { s.volume i with
          state := .closed, counts := ((s.endClaims true).volume i).counts, lastOpening := some s.opening.k }
      else (s.endClaims true).volume j) ∧
    ∀ l, (s.closeMounted i).link l =
      if l = .S then (s.link .S).push (noticeDepth .S) (.closeReport (s.mountedReport i))
      else (s.endClaims true).link l := by
  rw [closeMounted_eq]
  refine ⟨by simp [State.keeps, Part.same], by simp, rfl, rfl, ?_, fun j => ?_, fun l => ?_⟩
  · rw [(emptyTables_frame _).1, (notify_frame ..).1, setVolume_opening, State.enterIdle, setOpening_opening,
      (endClaims_frame s true).1]
  · change (State.notify _ _ _).volume j = _
    rw [volume_congr (notify_frame ..).2.1, setVolume_volume]
    rfl
  · change (State.notify _ _ _).link l = _
    rw [notify_link]
    split
    · change Link.push _ _ ((s.endClaims true).link .S) = _
      rw [endClaims_link_S]
    · rfl

/-- Without a capture that waits, a slot freed begins nothing at the arbiters. -/
theorem arbitrate_slots {s t : State} (hl : t.light = s.light) (hd : t.drain = s.drain)
    (hm : t.memory = { s.memory with slots := t.memory.slots }) : s.arbitrate t = t := by
  refine arbitrate_eq (by simp [hl]) fun r hr => ?_
  have ho : t.memory.owed = s.memory.owed := by rw [hm]
  have he : t.memory.engine = s.memory.engine := by rw [hm]
  have hx : t.rx = s.rx := by funext g; exact congrArg (fun m => m.rx.get g) hm
  rw [← hr]
  cases r <;> simp only [State.requests, hx, ho, he, hd]

/-- Settles O50. -/
theorem close : Obligations.Close := by
  intro index s h
  obtain ⟨act, hexec, hact⟩ := exec_close index s
  obtain ⟨hrange, hentry⟩ := hact (s.taken .S 0x13)
  have hc := Passes.close index
  dsimp only
  rw [hexec]
  refine ⟨fun hn => congrArg _ (hc.pure h (hrange (finOf_none hn))), fun i hi => ?_⟩
  have hclose := hentry i (finOf_eq hi)
  obtain ⟨hparked, hfault, hopen⟩ := close_eq (s.taken .S 0x13) i
  have busy_iff : (s.opening.state = .turning ∨ ∃ h, s.ctx h ≠ none) ↔ s.opening.state = .turning ∨ s.inFlight = true := by
    rw [inFlight_iff, exists_half]
  rw [busy_iff]
  refine ⟨fun hp => congrArg _ (hc.pure h (hclose.trans (hparked hp))),
    fun hp => congrArg _ (hc.pure h (hclose.trans (hfault hp))),
    fun hf h1 h2 => congrArg _ (hc.pure h (hclose.trans ((hopen hf.1 hf.2).1 h1 h2))),
    fun hf h1 hb => congrArg _ (hc.pure h (hclose.trans (((hopen hf.1 hf.2).2.1 h1).1 hb))),
    fun hf h1 hb => ?_, fun x hf h1 hx => ?_⟩
  · have hm := hclose.trans (((hopen hf.1 hf.2).2.1 h1).2 hb)
    obtain ⟨hkeeps, hcapture, hleaves, hexc, hopening, hvol, hlink⟩ := closeMounted_blocks (s.taken .S 0x13) i
    simp only [State.mountedReport, endClaims_taken] at hcapture hvol hlink
    have hS := (hlink .S).trans (if_pos rfl)
    have hclaims (g : Half) : (((s.taken .S 0x13).closeMounted i).claimOf g) = (s.endClaims true).claimOf g :=
      congrArg (fun q => q.claims.get g) hcapture
    have hctx (g : Half) : (((s.taken .S 0x13).closeMounted i).ctx g) = (s.endClaims true).ctx g :=
      congrArg (fun q => q.ctxs.get g) hcapture
    have hnone : ∀ g, s.ctx g = none := by
      have hf' := mt (fun h => Or.inr ((inFlight_iff s).2 h)) hb
      rw [← exists_half (fun g => s.ctx g ≠ none)] at hf'
      simpa using hf'
    refine ⟨_, congrArg _ (hc.quiet h hm ?_ (congrArg Light.held (hkeeps .light (by simp))) (hkeeps .memory (by simp))
      (hkeeps .drain (by simp))), answered_hasAnswer ?_ _ _ _, (hvol i).trans (if_pos rfl),
      fun j hj => (hvol j).trans (if_neg hj), hleaves, hexc,
      fun g => ⟨(hclaims g).trans (endClaims_claimOf s true g), (hctx g).trans ((endClaims_ctx s true g).trans (hnone g))⟩,
      hopening, ?_, fun l hl => ?_, keeps_answered (keeps_of_taken hkeeps (by simp)) (by simp)⟩
    · rw [hS]; simp
    · rw [hS]; simp
    · rw [answered_link, if_pos rfl, hS, notify_link, if_pos rfl]
      exact push_notices_congr (k := s.link .S) (k' := (s.taken .S 0x13).link .S) rfl _ _
    · rw [answered_link, if_neg hl, hlink, if_neg hl, taken_link, if_neg hl]
  · have hm := hclose.trans ((hopen hf.1 hf.2).2.2 h1)
    obtain ⟨hleaves, hexc, hvol⟩ := closeSuspended_account (s := s.taken .S 0x13) hx
    obtain ⟨hkeeps, hcapture, hlight, hmem, hlink⟩ := closeSuspended_blocks (s := s.taken .S 0x13) hx
    have hS := (hlink .S).trans (if_pos rfl)
    refine ⟨_, congrArg _ (hc.reply h hm ?_), answered_hasAnswer ?_ _ _ _, (hvol i).trans (if_pos rfl),
      fun j hj => (hvol j).trans (if_neg hj), hleaves, hexc, ?_, fun l hl => ?_,
      keeps_answered (keeps_of_taken hkeeps (by simp)) (by simp), ?_, fun hw => ?_, fun g rest hw hy c hg hl => ?_⟩
    · rw [hS]; simp
    · rw [hS]; simp
    · rw [answered_link, if_pos rfl, hS, notify_link, if_pos rfl]
      exact push_notices_congr (k := s.link .S) (k' := (s.taken .S 0x13).link .S) rfl _ _
    · rw [answered_link, if_neg hl, hlink, if_neg hl, taken_link, if_neg hl]
    · exact slotsOnly_of_eq hmem (freeSlot_memory (s.taken .S 0x13) x)
    · have hfree := freeSlot_nil (s := s.taken .S 0x13) hw x
      rw [hfree] at hcapture hlight hmem
      have hslots : ∀ y, ((s.taken .S 0x13).closeSuspended i).slot y = if y = x then Slot.free else s.slot y := fun y =>
        (congrArg (fun m => m.slots[y]) hmem).trans (setSlot_slot s x y .free)
      exact ⟨arbitrate_slots hlight (hkeeps .drain (by simp)) (slotsOnly_of_eq hmem rfl),
        (hslots x).trans (if_pos rfl), fun y hy => (hslots y).trans (if_neg hy), by
          simpa [State.keeps, Part.same] using ⟨hcapture, hlight⟩⟩
    · have hfree := freeSlot_cons (s := s.taken .S 0x13) hw hy hg hl
      rw [hfree] at hcapture hlight hmem
      have hctx : ((s.taken .S 0x13).closeSuspended i).ctx g =
          some { c with slot := some x, state := .waitLight, slotTimer := none } :=
        (congrArg (fun q => q.ctxs.get g) hcapture).trans ((setCtx_ctx _ g g _).trans (if_pos rfl))
      have hslots : ∀ y, ((s.taken .S 0x13).closeSuspended i).slot y = if y = x then s.opened g c else s.slot y := by
        intro y
        refine (congrArg (fun m => m.slots[y]) hmem).trans ((setSlot_slot _ x y _).trans ?_)
        split
        · rfl
        · next hy => exact (setSlot_slot s x y _).trans (if_neg hy)
      exact ⟨hctx, (hslots x).trans (if_pos rfl), fun y hy => (hslots y).trans (if_neg hy),
        congrArg Capture.waitOrder hcapture, hlight⟩

end Sys2Proof.Machine
end

section
/-! PROOFS. PARK (R22) and WAKE (R23): the opening, the lamps (R77), the frame memory (R128) and the drain queue
(R135). -/

namespace Sys2Proof.Machine

open Sys2Proof

/-- The opening status reads the opening record and the account unit (R3). -/
theorem openingStatus_congr {s t : State} (ho : t.opening = s.opening) (ha : t.account = s.account) :
    t.openingStatus = s.openingStatus :=
  dispatchBody_congr ho ha 0x30

/-! ### PARK -/

theorem Passes.park : Passes (.park .S) .S ⟨0x33, []⟩ := ⟨rfl, ⟨_, rfl, rfl⟩, rfl, by simp⟩

/-- PARK by opening state (R22). -/
theorem exec_park (s : State) :
    ∃ act, exec (.park .S) s = .next (s.ask (.park .S) act) ∧
      ∀ t : State,
        (t.opening.state = .parked → act t = t.openingReply .ok) ∧
        (t.opening.state = .fault → act t = t.openingReply .fault) ∧
        (t.opening.state = .turning → act t = t.openingReply .busy) ∧
        (t.opening.state ≠ .parked → t.opening.state ≠ .fault → t.opening.state ≠ .turning →
          (t.inFlight = true ∨ t.drainIdle = false → act t = t.openingReply .busy) ∧
          (t.inFlight = false → t.drainIdle = true → act t = t.parkCradle.openingReply .ok)) := by
  refine ⟨_, rfl, fun t => ?_⟩
  cases h : t.opening.state <;> simp +contextual

theorem park_lamp (x : Lamp) :
    x.park =
      if x.state = .charging ∨ x.state = .charged ∨ x.state = .faulted then
        { x with state := .discharged, recharge := none }
      else x := by
  unfold Lamp.park
  cases h : x.state <;> simp

theorem wake_lamp (x : Lamp) :
    x.wake =
      if x.state = .discharged then { x with state := .charging, recharge := some x.entry.recharge } else x := by
  unfold Lamp.wake
  cases h : x.state <;> simp

theorem parkMemory_memory (s : State) :
    s.parkMemory.memory =
      if s.memory.engine.state = .idle then { s.memory with mode := .retention, refreshTimer := none, owed := 0 }
      else { s.memory with mode := .entering } := by
  unfold State.parkMemory State.enterRetention
  split <;> rfl

/-- The record of the opening at PARK (R22). -/
def Opening.park (o : Opening) : Opening :=
  { o with
    state := .parked, settle := none, direction := none,
    parkReturn := if o.state = .idle then .nothing else .volume }

theorem parkCradle_eq (s : State) :
    s.parkCradle = (((s.endClaims true).setOpening s.opening.park).mapLamps Lamp.park).parkMemory := by
  unfold State.parkCradle
  dsimp only
  rw [(endClaims_frame s true).1]
  rfl

/-- Every part of the state after a PARK (R22, R50, R77, R128). -/
theorem parkCradle_blocks (s : State) :
    s.parkCradle.opening = s.opening.park ∧ s.parkCradle.account = (s.endClaims true).account ∧
    s.parkCradle.capture = (s.endClaims true).capture ∧ s.parkCradle.links = (s.endClaims true).links ∧
    (∀ i, s.parkCradle.lamp i = (s.lamp i).park) ∧
    s.parkCradle.light = { s.light with lamps := s.parkCradle.light.lamps } ∧
    s.parkCradle.memory =
      (if s.memory.engine.state = .idle then { s.memory with mode := .retention, refreshTimer := none, owed := 0 }
       else { s.memory with mode := .entering }) ∧
    s.keeps s.parkCradle [.mem, .drain, .pending] := by
  rw [parkCradle_eq]
  refine ⟨by simp, by simp, by simp, by simp, fun i => ?_, ?_, ?_, by simp [State.keeps, Part.same]⟩
  · have hl : ((((s.endClaims true).setOpening s.opening.park).mapLamps Lamp.park).parkMemory).lamp i =
        (((s.endClaims true).setOpening s.opening.park).mapLamps Lamp.park).lamp i := by
      simp only [State.lamp, parkMemory_frame]
    rw [hl, mapLamps_lamp]
    exact congrArg (fun q => Lamp.park (q.lamps[i])) (endClaims_frame s true).2.1
  · rw [(parkMemory_frame _).2.2.2.1]
    change ({ (s.endClaims true).light with lamps := _ } : Light) = _
    rw [(endClaims_frame s true).2.1]
    rfl
  · rw [parkMemory_memory]
    simp

/-- Standby begins no request at the memory arbiter: refreshes owed are gone. -/
theorem requests_of_park {s t : State} (hd : t.drain = s.drain)
    (hm : t.memory =
      (if s.memory.engine.state = .idle then { s.memory with mode := .retention, refreshTimer := none, owed := 0 }
       else { s.memory with mode := .entering })) (r : Requester) (hr : t.requests r = true) : s.requests r = true := by
  have he : t.memory.engine = s.memory.engine := by rw [hm]; split <;> rfl
  have hx : t.rx = s.rx := by
    funext g
    refine congrArg (fun m : FrameMemory => m.rx.get g) hm |>.trans ?_
    split <;> rfl
  have ho : t.memory.owed ≤ s.memory.owed := by rw [hm]; split <;> simp
  cases r <;> simp only [State.requests, he, hx, hd, decide_eq_true_eq] at hr ⊢
  case refreshUrgent => omega
  case refreshOwed => omega
  all_goals exact hr

/-- Settles O16. -/
theorem park : Obligations.Park := by
  intro s h
  obtain ⟨act, hexec, hact⟩ := exec_park s
  obtain ⟨hparked, hfault, hturning, hother⟩ := hact (s.taken .S 0x33)
  have hc := Passes.park
  rw [hexec]
  refine ⟨fun hs => congrArg _ (hc.pure h (hparked hs)), fun hs => congrArg _ (hc.pure h (hfault hs)),
    fun hs => congrArg _ (hc.pure h (hturning hs)),
    fun h1 h2 h3 => ⟨fun hb => congrArg _ (hc.pure h ((hother h1 h2 h3).1 hb)),
    fun hb hd => ?_⟩⟩
  have hp := (hother h1 h2 h3).2 hb hd
  obtain ⟨hopening, haccount, hcapture, hlinks, hlamp, hlight, hmem, hkeeps⟩ := parkCradle_blocks (s.taken .S 0x33)
  rw [endClaims_taken] at haccount hcapture hlinks
  have hlink (l : LinkId) : ((s.taken .S 0x33).parkCradle).link l = ((s.endClaims true).taken .S 0x33).link l :=
    congrArg (Links.get · l) hlinks
  have hS : ((s.taken .S 0x33).parkCradle).link .S = (s.taken .S 0x33).link .S := by
    rw [hlink, taken_link, taken_link, endClaims_link_S]
  have hheld : (s.taken .S 0x33).parkCradle.light.held = s.light.held := by rw [hlight]; rfl
  have hreply := (hc.reply h hp ((congrArg Link.dropAnswer hS).trans (taken_dropAnswer _ _ _ _))).trans
    (arbitrate_eq (fun r hr => hheld ▸ hr) (requests_of_park (s := s) (hkeeps .drain (by simp)) hmem))
  refine ⟨_, congrArg _ hreply, answered_hasAnswer ((congrArg Link.request hS).trans (by simp)) _ _ _, hopening, haccount,
    hcapture, fun g => ?_, fun l => ?_, fun i => (hlamp i).trans (park_lamp _), hlight, hmem,
    keeps_answered (keeps_of_taken hkeeps (by simp)) (by simp)⟩
  · exact (congrArg (fun q => q.claims.get g) hcapture).trans (endClaims_claimOf s true g)
  · rw [answered_link]
    split
    · next hl =>
      subst hl
      change (Link.notices (State.link _ .S)) = _
      exact (congrArg Link.notices (hlink .S)).trans rfl
    · next hl => rw [hlink, taken_link, if_neg hl]

/-! ### WAKE -/

theorem Passes.wake : Passes (.wake .S) .S ⟨0x34, []⟩ := ⟨rfl, ⟨_, rfl, rfl⟩, rfl, by simp⟩

/-- WAKE by opening state (R23). -/
theorem exec_wake (s : State) :
    ∃ act, exec (.wake .S) s = .next (s.ask (.wake .S) act) ∧
      ∀ t : State,
        (t.opening.state ≠ .parked → act t = t.openingReply .state) ∧
        (t.opening.state = .parked → act t = t.wakeCradle.openingReply .ok) := by
  refine ⟨_, rfl, fun t => ?_⟩
  cases h : t.opening.state <;> simp

/-- The opening controller's part of a WAKE (R23). -/
def State.wakeOpening (s : State) : State :=
  match s.opening.parkReturn with
  | .volume => (s.setOpening { s.opening with parkReturn := .nothing }).enterSettling
  | .nothing => s.setOpening { s.opening with parkReturn := .nothing, state := .idle, direction := none }

/-- The state a WAKE reaches before the memory arbiter decides. -/
def State.woken (s : State) : State := ((s.wakeOpening.mapLamps Lamp.wake).wakeMemory).activateDrain

theorem wakeCradle_same (s : State) : SameButBurst s.woken s.wakeCradle := by
  have hw : s.wakeCradle = if s.memory.mode = .retention then s.woken.decideMemory else s.woken := by
    unfold State.wakeCradle State.woken State.wakeOpening
    cases s.opening.parkReturn <;> rfl
  rw [hw]
  split
  · exact decideMemory_same _
  · exact .refl _

theorem wakeOpening_frame (s : State) :
    s.keeps s.wakeOpening [.account, .capture, .light, .memory, .mem, .drain, .pending] := by
  unfold State.wakeOpening
  split <;> simp [State.keeps, Part.same]

/-- The opening record after a WAKE (R23), and the links when nothing is evaluated. -/
theorem wakeOpening_opening (s : State) :
    (s.opening.parkReturn = .nothing →
      s.wakeOpening.opening = { s.opening with parkReturn := .nothing, direction := none, state := .idle } ∧
        s.wakeOpening.links = s.links) ∧
    (s.opening.parkReturn = .volume →
      (s.settleTime ≠ 0 →
        s.wakeOpening.opening =
          { s.opening with parkReturn := .nothing, direction := none, state := .settling, settle := some s.settleTime } ∧
          s.wakeOpening.links = s.links) ∧
      (s.settleTime = 0 →
        s.wakeOpening.opening =
          (s.setOpening { s.opening with
            parkReturn := .nothing, direction := none, state := .settling, settle := none }).takeEvaluated.opening)) := by
  unfold State.wakeOpening
  refine ⟨fun h => ?_, fun h => ⟨fun ht => ?_, fun ht => ?_⟩⟩
  · simp only [h]; exact ⟨rfl, rfl⟩
  · simp only [h]
    rw [enterSettling_timed (s := s.setOpening { s.opening with parkReturn := .nothing }) ht]
    exact ⟨rfl, rfl⟩
  · simp only [h]
    rw [enterSettling_at_once (s := s.setOpening { s.opening with parkReturn := .nothing }) ht]
    rfl

theorem wakeOpening_ports (s : State) (l : LinkId) : (s.link l).SamePort (s.wakeOpening.link l) := by
  unfold State.wakeOpening
  split
  · exact samePort_of_eq (enterSettling_ports _ l) rfl
  · exact .refl _

/-- The activation of R135 with the memory ACTIVE. -/
theorem activateDrain_active {s : State} (hm : s.memory.mode = .active) :
    (s.drain.active ≠ none ∨ s.drain.queue = [] → s.activateDrain = s) ∧
    ∀ j rest, s.drain.active = none → s.drain.queue = j :: rest →
      s.activateDrain =
        { s.setSlot j.slot { s.slot j.slot with state := .draining } with
          drain := { s.drain with queue := rest, active := some (j.activate s.drain.readyIn), buffer := [] } } := by
  unfold State.activateDrain
  refine ⟨fun h => ?_, fun j rest ha hq => ?_⟩
  · obtain h | h := h
    · rw [if_neg (by simp [h])]
    · simp only [h]; split <;> rfl
  · rw [if_pos (by simp [ha, hm])]
    simp only [hq]
    rfl

theorem activateDrain_memory (s : State) :
    s.activateDrain.memory = { s.memory with slots := s.activateDrain.memory.slots } := by
  unfold State.activateDrain
  split
  · split <;> rfl
  · rfl

/-- Every part of the state a WAKE reaches. -/
theorem woken_blocks (s : State) :
    s.woken.opening = s.wakeOpening.opening ∧ s.woken.links = s.wakeOpening.links ∧
    s.keeps s.woken [.account, .capture, .mem, .pending] ∧
    (∀ i, s.woken.lamp i = (s.lamp i).wake) ∧ s.woken.light = { s.light with lamps := s.woken.light.lamps } ∧
    (s.woken.memory.mode = .active ∧ s.woken.memory.refreshTimer = some 78 ∧ s.woken.memory.owed = 0) ∧
    (s.drain.active ≠ none ∨ s.drain.queue = [] → s.woken.drain = s.drain) ∧
    ∀ j rest, s.drain.active = none → s.drain.queue = j :: rest →
      s.woken.drain = { s.drain with queue := rest, active := some (j.activate s.drain.readyIn), buffer := [] } ∧
        (s.woken.slot j.slot).state = .draining := by
  have hk := wakeOpening_frame s
  have hdrain : s.wakeOpening.drain = s.drain := hk .drain (by simp)
  have hlight : s.woken.light = (s.wakeOpening.mapLamps Lamp.wake).light := by simp [State.woken]
  have hlight' : s.wakeOpening.light = s.light := hk .light (by simp)
  obtain ⟨hstay, hnext⟩ := activateDrain_active (s := (s.wakeOpening.mapLamps Lamp.wake).wakeMemory) rfl
  have hmem := activateDrain_memory (s.wakeOpening.mapLamps Lamp.wake).wakeMemory
  refine ⟨by simp [State.woken], by simp [State.woken], ?_, fun i => ?_, ?_, ?_, fun h => ?_, fun j rest ha hq => ?_⟩
  · have h1 : s.wakeOpening.account = s.account := hk .account (by simp)
    have h2 : s.wakeOpening.capture = s.capture := hk .capture (by simp)
    have h3 : s.wakeOpening.mem = s.mem := hk .mem (by simp)
    have h4 : s.wakeOpening.pending = s.pending := hk .pending (by simp)
    simp [State.keeps, Part.same, State.woken, h1, h2, h3, h4]
  · calc s.woken.lamp i = (s.wakeOpening.mapLamps Lamp.wake).lamp i := congrArg (fun q => q.lamps[i]) hlight
      _ = (s.wakeOpening.lamp i).wake := mapLamps_lamp _ _ _
      _ = (s.lamp i).wake := congrArg (fun q => Lamp.wake q.lamps[i]) hlight'
  · rw [hlight]
    calc (s.wakeOpening.mapLamps Lamp.wake).light =
        { s.wakeOpening.light with lamps := (s.wakeOpening.mapLamps Lamp.wake).light.lamps } := rfl
      _ = _ := by rw [hlight']
  · have hw : s.woken.memory = _ := hmem
    rw [hw]
    exact ⟨rfl, rfl, rfl⟩
  · exact (congrArg State.drain (hstay (by simpa [hdrain] using h))).trans hdrain
  · have hw : s.woken = _ := hnext j rest (by simpa [hdrain] using ha) (by simpa [hdrain] using hq)
    rw [hw]
    refine ⟨?_, ?_⟩
    · change ({ s.wakeOpening.drain with
        queue := rest, active := some (j.activate s.wakeOpening.drain.readyIn), buffer := [] } : Drain) = _
      rw [hdrain]
    · exact congrArg Slot.state ((setSlot_slot _ j.slot j.slot _).trans (if_pos rfl))

/-- Settles O17. -/
theorem wake : Obligations.Wake := by
  intro s h
  obtain ⟨act, hexec, hact⟩ := exec_wake s
  obtain ⟨hother, hparked⟩ := hact (s.taken .S 0x34)
  have hc := Passes.wake
  rw [hexec]
  refine ⟨fun hs => congrArg _ (hc.pure h (hother hs)), fun hs => ?_⟩
  have hp := hparked hs
  obtain ⟨hopening, hlinks, hkeeps, hlamp, hlight, hmem, hdrain, hqueue⟩ := woken_blocks (s.taken .S 0x34)
  obtain ⟨hnothing, hvolume⟩ := wakeOpening_opening (s.taken .S 0x34)
  have hw := wakeCradle_same (s.taken .S 0x34)
  set w := (s.taken .S 0x34).wakeCradle with hwdef
  have hheld : w.light.held = s.light.held := by
    rw [hw.blocks .light (by simp), hlight]; rfl
  have ha := arbitrate_sameButBurst (s := s) (t := w.answered .S 0x34 .ok w.openingStatus) hheld
  have hlink (l : LinkId) : w.link l = (s.taken .S 0x34).wakeOpening.link l := by
    rw [hw.link]; exact congrArg (Links.get · l) hlinks
  have hports := wakeOpening_ports (s.taken .S 0x34) .S
  rw [← hlink] at hports
  refine ⟨_, congrArg _ (hc.reply h hp (hports.dropAnswer.trans (taken_dropAnswer _ _ _ _))), ?_, fun hr => ?_, fun hr =>
    ⟨fun ht => ?_, fun ht => ?_⟩, fun i => ?_, ?_, ?_, fun hd => ?_, fun j rest hj hq => ?_, fun hl l hne => ?_, ?_⟩
  · have hst : (s.arbitrate (w.answered .S 0x34 .ok w.openingStatus)).openingStatus = w.openingStatus :=
      openingStatus_congr ha.opening ha.account
    rw [hst]
    simp only [State.hasAnswer, ha.link]
    exact answered_hasAnswer hports.request _ _ _
  · exact (ha.opening.trans (hw.opening.trans hopening)).trans (hnothing hr).1
  · exact (ha.opening.trans (hw.opening.trans hopening)).trans ((hvolume hr).1 ht).1
  · refine ((ha.opening.trans (hw.opening.trans hopening)).trans ((hvolume hr).2 ht)).trans ?_
    rw [takeEvaluated_opening, takeEvaluated_opening]
    rfl
  · exact (congrArg (fun q => q.lamps[i]) (ha.light.trans hw.light)).trans ((hlamp i).trans (wake_lamp _))
  · rw [ha.light, (answered_frame ..).2.2.2.1, hw.light]; exact hlight
  · exact ⟨ha.mode.trans (hw.mode.trans hmem.1), ha.timer.trans (hw.timer.trans hmem.2.1),
      Nat.le_zero.1 ((ha.owed.trans hw.owed).trans hmem.2.2.le)⟩
  · exact ha.drain.trans (hw.drain.trans (hdrain hd))
  · obtain ⟨hd, hslot⟩ := hqueue j rest hj hq
    have hd' := ha.drain.trans (hw.drain.trans hd)
    exact ⟨congrArg Drain.queue hd', (congrArg Slot.state ((ha.slot j.slot).trans (hw.slot j.slot))).trans hslot,
      congrArg Drain.active hd'⟩
  · rw [ha.link, answered_link, if_neg hne, hlink]
    have hlinks' : (s.taken .S 0x34).wakeOpening.links = (s.taken .S 0x34).links := by
      cases hr : s.opening.parkReturn with
      | nothing => exact (hnothing hr).2
      | volume => exact ((hvolume hr).1 (hl.resolve_left (by simp [hr]))).2
    exact (congrArg (Links.get · l) hlinks').trans ((taken_link s .S l 0x34).trans (if_neg hne))
  · refine keeps_of_frame (keeps_answered (keeps_of_taken (keeps_of_frame hkeeps hw.blocks ?_) ?_) ?_) ha.blocks ?_ <;>
      simp

end Sys2Proof.Machine
end

section
/-! PROOFS. SETTLE_EXPIRY (R12): the steps of the contexts in WAIT_SETTLE begin (R54, R55, R66). -/

namespace Sys2Proof.Machine

open Sys2Proof

/-! ### The FREE slots, lowest first -/

theorem mem_freeSlots {s : State} {x : Fin 8} : x ∈ s.freeSlots ↔ (s.slot x).state = .free := by
  simp [State.freeSlots]

theorem freeSlots_nil {s : State} : s.freeSlots = [] ↔ s.lowestFree = none := by
  rw [lowestFree_none, List.eq_nil_iff_forall_not_mem]
  simp only [mem_freeSlots]

theorem lowestFree_of_freeSlots {s : State} {n : Fin 8} {rest : List (Fin 8)} (h : s.freeSlots = n :: rest) :
    s.lowestFree = some n := by
  have hf : s.lowestFree = s.freeSlots.head? := by
    rw [State.freeSlots, List.head?_filter]
    rfl
  rw [hf, h]
  rfl

/-- A FREE slot taken leaves the others. -/
theorem freeSlots_setSlot {s : State} {n : Fin 8} {rest : List (Fin 8)} {x : Slot} (h : s.freeSlots = n :: rest)
    (hx : x.state ≠ .free) : (s.setSlot n x).freeSlots = rest := by
  have hnodup : (n :: rest).Nodup := h ▸ (List.nodup_finRange 8).filter _
  have hother : ∀ y ∈ List.finRange 8, decide (((s.setSlot n x).slot y).state = .free) =
      (decide (y ≠ n) && decide ((s.slot y).state = .free)) := by
    intro y _
    by_cases hy : y = n
    · simp [hy, hx]
    · simp [hy]
  calc (s.setSlot n x).freeSlots
      = s.freeSlots.filter fun y => decide (y ≠ n) := by
        rw [State.freeSlots, List.filter_congr hother, State.freeSlots, List.filter_filter]
    _ = rest := by
        rw [h, List.filter_cons_of_neg (by simp)]
        refine List.filter_eq_self.2 fun y hy => ?_
        simpa using fun e : y = n => (List.nodup_cons.1 hnodup).1 (e ▸ hy)

/-! ### A step begun -/

/-- The slot bound to a context's step (R55). -/
def State.slotBound (s : State) (h : Half) (c : Ctx) (n : Fin 8) : State :=
  (s.setSlot n (s.opened h c)).setCtx h (some { c with slot := some n, state := .waitLight })

/-- The context that waits for a slot, at the end of the wait order (R55, R56). -/
def State.slotAwaited (s : State) (h : Half) (c : Ctx) : State :=
  (s.setCtx h (some { c with state := .waitSlot, slotTimer := some 10000 })).setWaitOrder (s.capture.waitOrder ++ [h])

theorem bindOrWait_free {s : State} {h : Half} {c : Ctx} {n : Fin 8} {rest : List (Fin 8)} (hc : s.ctx h = some c)
    (hf : s.freeSlots = n :: rest) : s.bindOrWait h = s.slotBound h c n := by
  simp only [State.bindOrWait, lowestFree_of_freeSlots hf, bindSlot_eq hc]
  rfl

theorem bindOrWait_full {s : State} {h : Half} {c : Ctx} (hc : s.ctx h = some c) (hf : s.freeSlots = []) :
    s.bindOrWait h = s.slotAwaited h c := by
  simp only [State.bindOrWait, freeSlots_nil.1 hf, hc]
  rfl

theorem slotBound_freeSlots {s : State} {h : Half} {c : Ctx} {n : Fin 8} {rest : List (Fin 8)}
    (hf : s.freeSlots = n :: rest) : (s.slotBound h c n).freeSlots = rest :=
  freeSlots_setSlot (x := s.opened h c) hf (by simp [State.opened])

theorem slotBound_ctx (s : State) (h g : Half) (c : Ctx) (n : Fin 8) :
    (s.slotBound h c n).ctx g = if g = h then some { c with slot := some n, state := .waitLight } else s.ctx g :=
  setCtx_ctx _ h g _

theorem slotBound_slot (s : State) (h : Half) (c : Ctx) (n x : Fin 8) :
    (s.slotBound h c n).slot x = if x = n then s.opened h c else s.slot x :=
  setSlot_slot s n x _

theorem slotAwaited_ctx (s : State) (h g : Half) (c : Ctx) :
    (s.slotAwaited h c).ctx g = if g = h then some { c with state := .waitSlot, slotTimer := some 10000 } else s.ctx g :=
  setCtx_ctx s h g _

theorem startStep_free {s : State} {h : Half} {c : Ctx} {n : Fin 8} {rest : List (Fin 8)} (hc : s.ctx h = some c)
    (hl : c.linked = false) (hf : s.freeSlots = n :: rest) :
    s.startStep h = (s.slotBound h c n).setHeld (s.light.held ++ [c.request h]) := by
  have hctx : (s.slotBound h c n).ctx h = some { c with slot := some n, state := .waitLight } := by
    rw [slotBound_ctx, if_pos rfl]
  unfold State.startStep
  rw [bindOrWait_free hc hf]
  simp only [State.ctxIn, hctx, decide_true, if_true]
  rw [placeRequest_unpaired hctx hl]
  exact congrArg (fun q => State.setHeld _ (_ ++ [q])) (Ctx.request_congr rfl rfl rfl h)

theorem startStep_full {s : State} {h : Half} {c : Ctx} (hc : s.ctx h = some c) (hf : s.freeSlots = []) :
    s.startStep h = s.slotAwaited h c := by
  have hctx : (s.slotAwaited h c).ctx h = some { c with state := .waitSlot, slotTimer := some 10000 } := by
    rw [slotAwaited_ctx, if_pos rfl]
  unfold State.startStep
  rw [bindOrWait_full hc hf]
  simp [State.ctxIn, hctx]

/-- The step of an unpaired context (R55, R56, R57). -/
theorem startStep_begun {s : State} {h : Half} {c : Ctx} (hc : s.ctx h = some c) (hl : c.linked = false) :
    s.stepBegun (s.startStep h) h c := by
  refine ⟨fun n rest hf => ?_, fun hf => ?_⟩
  · rw [startStep_free hc hl hf]
    exact ⟨(slotBound_ctx s h h c n).trans (if_pos rfl), slotBound_slot s h c n, rfl, rfl⟩
  · rw [startStep_full hc hf]
    exact ⟨(slotAwaited_ctx s h h c).trans (if_pos rfl), fun x => rfl, rfl, rfl⟩

theorem startStep_ctx_other {s : State} {h g : Half} {c : Ctx} (hc : s.ctx h = some c) (hl : c.linked = false)
    (hg : g ≠ h) : (s.startStep h).ctx g = s.ctx g := by
  cases hf : s.freeSlots with
  | cons n rest => rw [startStep_free hc hl hf]; exact (slotBound_ctx s h g c n).trans (if_neg hg)
  | nil => rw [startStep_full hc hf]; exact (slotAwaited_ctx s h g c).trans (if_neg hg)

/-! ### The step of a pair, and of two contexts that are none -/

theorem sharePairLimit_none {s : State} (hl : s.ctxIn .left .waitSlot = false) (hr : s.ctxIn .right .waitSlot = false) :
    s.sharePairLimit = s.placeRequest .left := by
  simp [State.sharePairLimit, hl, hr]

theorem sharePairLimit_right {s : State} {a b : Ctx} (ha : s.ctx .left = some a) (hb : s.ctx .right = some b)
    (hw : b.state = .waitSlot) :
    s.sharePairLimit =
      (s.setCtx .left (some { a with slotTimer := some 10000 })).setCtx .right
        (some { b with slotTimer := some 10000 }) := by
  simp [State.sharePairLimit, State.ctxIn, ha, hb, hw]
  rfl

theorem placeRequest_pair {s : State} {a b : Ctx} (ha : s.ctx .left = some a) (hb : s.ctx .right = some b)
    (hl : a.linked = true) (hwa : a.state = .waitLight) (hwb : b.state = .waitLight) :
    s.placeRequest .left =
      s.setHeld (s.light.held ++
        [{ served := .pair, leftId := some a.id, rightId := some b.id, step := a.step, mask := a.mask }]) := by
  simp [State.placeRequest, ha, hb, hl, hwa, hwb]

/-- The left context binds first and the right one second (R66). -/
theorem bindBoth {s : State} {a b : Ctx} (ha : s.ctx .left = some a) (hb : s.ctx .right = some b) :
    (∀ n m rest, s.freeSlots = n :: m :: rest →
      (s.bindOrWait .left).bindOrWait .right = (s.slotBound .left a n).slotBound .right b m) ∧
    (∀ n, s.freeSlots = [n] → (s.bindOrWait .left).bindOrWait .right = (s.slotBound .left a n).slotAwaited .right b) ∧
    (s.freeSlots = [] → (s.bindOrWait .left).bindOrWait .right = (s.slotAwaited .left a).slotAwaited .right b) := by
  refine ⟨fun n m rest hf => ?_, fun n hf => ?_, fun hf => ?_⟩
  · rw [bindOrWait_free ha hf, bindOrWait_free (by rw [slotBound_ctx]; exact hb) (slotBound_freeSlots hf)]
  · rw [bindOrWait_free ha hf, bindOrWait_full (by rw [slotBound_ctx]; exact hb) (slotBound_freeSlots hf)]
  · rw [bindOrWait_full ha hf, bindOrWait_full (s := s.slotAwaited .left a) (by rw [slotAwaited_ctx]; exact hb) hf]

theorem freeSlots_ne {s : State} {n m : Fin 8} {rest : List (Fin 8)} (h : s.freeSlots = n :: m :: rest) : n ≠ m := by
  have hnodup : (n :: m :: rest).Nodup := h ▸ (List.nodup_finRange 8).filter _
  exact fun e => (List.nodup_cons.1 hnodup).1 (e ▸ List.mem_cons_self)

theorem slotBound_slots {s : State} {a b : Ctx} {n m : Fin 8} (hne : n ≠ m) (x : Fin 8) :
    ((s.slotBound .left a n).slotBound .right b m).slot x =
      if x = n then s.opened .left a else if x = m then s.opened .right b else s.slot x := by
  rw [slotBound_slot, slotBound_slot]
  by_cases hn : x = n
  · subst hn
    rw [if_neg hne, if_pos rfl, if_pos rfl]
  · rw [if_neg hn, if_neg hn]
    rfl

theorem ctxIn_eq {s : State} {h : Half} {c : Ctx} (hc : s.ctx h = some c) (st : CtxState) :
    s.ctxIn h st = decide (c.state = st) := by
  simp only [State.ctxIn, hc]

/-- The step of a pair (R66). -/
theorem startPair_begun {s : State} {a b : Ctx} (ha : s.ctx .left = some a) (hb : s.ctx .right = some b)
    (hl : a.linked = true) : s.pairBegun s.startPair a b := by
  obtain ⟨htwo, hone, hnone⟩ := bindBoth ha hb
  unfold State.startPair
  refine ⟨fun n rest hf => ⟨fun m rest' hr => ?_, fun hr => ?_⟩, fun hf => ?_⟩
  · subst hr
    rw [htwo n m rest' hf]
    have hleft : ((s.slotBound .left a n).slotBound .right b m).ctx .left =
        some { a with slot := some n, state := .waitLight } := rfl
    have hright : ((s.slotBound .left a n).slotBound .right b m).ctx .right =
        some { b with slot := some m, state := .waitLight } := rfl
    rw [sharePairLimit_none (by rw [ctxIn_eq hleft]; rfl) (by rw [ctxIn_eq hright]; rfl),
      placeRequest_pair hleft hright hl rfl rfl]
    exact ⟨hleft, hright, slotBound_slots (freeSlots_ne hf), rfl, rfl⟩
  · subst hr
    rw [hone n hf]
    have hleft : ((s.slotBound .left a n).slotAwaited .right b).ctx .left =
        some { a with slot := some n, state := .waitLight } := rfl
    have hright : ((s.slotBound .left a n).slotAwaited .right b).ctx .right =
        some { b with state := .waitSlot, slotTimer := some 10000 } := rfl
    rw [sharePairLimit_right hleft hright rfl]
    exact ⟨rfl, rfl, slotBound_slot s .left a n, rfl, rfl⟩
  · rw [hnone hf]
    have hleft : ((s.slotAwaited .left a).slotAwaited .right b).ctx .left =
        some { a with state := .waitSlot, slotTimer := some 10000 } := rfl
    have hright : ((s.slotAwaited .left a).slotAwaited .right b).ctx .right =
        some { b with state := .waitSlot, slotTimer := some 10000 } := rfl
    rw [sharePairLimit_right hleft hright rfl]
    exact ⟨rfl, rfl, fun x => rfl, rfl, List.append_assoc ..⟩

/-- The steps of two contexts that are no pair, the left one first (log 14). -/
abbrev State.bothBegun (s u : State) (a b : Ctx) : Prop :=
  (∀ n rest, s.freeSlots = n :: rest →
    (∀ m rest', rest = m :: rest' →
      u.ctx .left = some { a with slot := some n, state := .waitLight } ∧
      u.ctx .right = some { b with slot := some m, state := .waitLight } ∧
      (∀ x, u.slot x = if x = n then s.opened .left a else if x = m then s.opened .right b else s.slot x) ∧
      u.light = { s.light with held := s.light.held ++ [a.request .left, b.request .right] } ∧
      u.capture.waitOrder = s.capture.waitOrder) ∧
    (rest = [] →
      u.ctx .left = some { a with slot := some n, state := .waitLight } ∧
      u.ctx .right = some { b with state := .waitSlot, slotTimer := some 10000 } ∧
      (∀ x, u.slot x = if x = n then s.opened .left a else s.slot x) ∧
      u.light = { s.light with held := s.light.held ++ [a.request .left] } ∧
      u.capture.waitOrder = s.capture.waitOrder ++ [.right])) ∧
  (s.freeSlots = [] →
    u.ctx .left = some { a with state := .waitSlot, slotTimer := some 10000 } ∧
    u.ctx .right = some { b with state := .waitSlot, slotTimer := some 10000 } ∧ (∀ x, u.slot x = s.slot x) ∧
    u.light = s.light ∧ u.capture.waitOrder = s.capture.waitOrder ++ [.left, .right])

theorem startBoth_begun {s : State} {a b : Ctx} (ha : s.ctx .left = some a) (hb : s.ctx .right = some b)
    (hla : a.linked = false) (hlb : b.linked = false) :
    s.bothBegun ((s.startStep .left).startStep .right) a b := by
  have hright : (s.startStep .left).ctx .right = some b := (startStep_ctx_other ha hla (by simp)).trans hb
  refine ⟨fun n rest hf => ?_, fun hf => ?_⟩
  · rw [startStep_free ha hla hf] at hright ⊢
    have hrest : ((s.slotBound .left a n).setHeld (s.light.held ++ [a.request .left])).freeSlots = rest :=
      slotBound_freeSlots hf
    refine ⟨fun m rest' hr => ?_, fun hr => ?_⟩
    · subst hr
      rw [startStep_free hright hlb hrest]
      exact ⟨rfl, rfl, slotBound_slots (freeSlots_ne hf), congrArg (fun q => { s.light with held := q })
        (List.append_assoc ..), rfl⟩
    · subst hr
      rw [startStep_full hright hrest]
      exact ⟨rfl, rfl, slotBound_slot s .left a n, rfl, rfl⟩
  · rw [startStep_full ha hf] at hright ⊢
    rw [startStep_full hright (s := s.slotAwaited .left a) hf]
    exact ⟨rfl, rfl, fun x => rfl, rfl, List.append_assoc ..⟩

/-! ### The contexts in WAIT_SETTLE -/

/-- The steps of the contexts in WAIT_SETTLE by who waits (R54, R66). -/
theorem startWaiting_none {s : State} (h : ∀ g c, s.ctx g = some c → c.state ≠ .waitSettle) : s.startWaiting = s := by
  have hin (g : Half) : s.ctxIn g .waitSettle = false := by
    cases hc : s.ctx g with
    | none => simp [State.ctxIn, hc]
    | some c => rw [ctxIn_eq hc]; simpa using h g c hc
  simp [State.startWaiting, hin]

theorem ctxIn_waitSettle_other {s : State} {g : Half} (h : ∀ d, s.ctx g = some d → d.state ≠ .waitSettle) :
    s.ctxIn g .waitSettle = false := by
  cases hc : s.ctx g with
  | none => simp [State.ctxIn, hc]
  | some c => rw [ctxIn_eq hc]; simpa using h c hc

theorem startWaiting_one {s : State} {h : Half} {c : Ctx} (hc : s.ctx h = some c) (hw : c.state = .waitSettle)
    (ho : ∀ d, s.ctx (otherHalf h) = some d → d.state ≠ .waitSettle) : s.startWaiting = s.startStep h := by
  have hin : s.ctxIn h .waitSettle = true := by rw [ctxIn_eq hc]; simpa using hw
  have hout := ctxIn_waitSettle_other ho
  unfold State.startWaiting
  cases h <;> simp only [otherHalf] at hout <;> simp [hin, hout]

theorem startWaiting_both {s : State} {a b : Ctx} (ha : s.ctx .left = some a) (hb : s.ctx .right = some b)
    (hwa : a.state = .waitSettle) (hwb : b.state = .waitSettle) :
    s.startWaiting = if a.linked = true then s.startPair else (s.startStep .left).startStep .right := by
  have hla : s.ctxIn .left .waitSettle = true := by rw [ctxIn_eq ha]; simpa using hwa
  have hlb : s.ctxIn .right .waitSettle = true := by rw [ctxIn_eq hb]; simpa using hwb
  unfold State.startWaiting
  simp [hla, hlb, ha]

/-! ### What the start of a step leaves -/

/-- The start of a step changes slots, contexts, the wait order and the light requests. -/
structure StepFrame (s t : State) : Prop where
  claims : t.capture.claims = s.capture.claims
  idCounter : t.capture.idCounter = s.capture.idCounter
  memory : t.memory = { s.memory with slots := t.memory.slots }

namespace StepFrame

variable {s t u : State}

theorem refl (s : State) : StepFrame s s := ⟨rfl, rfl, rfl⟩

theorem trans (h : StepFrame s t) (h' : StepFrame t u) : StepFrame s u :=
  ⟨h'.claims.trans h.claims, h'.idCounter.trans h.idCounter, by rw [h'.memory, h.memory]⟩

theorem of_same (hc : t.capture = s.capture) (hm : t.memory = s.memory) : StepFrame s t :=
  ⟨by rw [hc], by rw [hc], by rw [hm]⟩

theorem setCtx (s : State) (h : Half) (c : Option Ctx) : StepFrame s (s.setCtx h c) := ⟨rfl, rfl, rfl⟩

theorem placeRequest (s : State) (h : Half) : StepFrame s (s.placeRequest h) := of_same (by simp) (by simp)

theorem bindOrWait (s : State) (h : Half) : StepFrame s (s.bindOrWait h) := by
  unfold State.bindOrWait
  split
  · unfold State.bindSlot
    split <;> exact ⟨rfl, rfl, rfl⟩
  · split <;> exact ⟨rfl, rfl, rfl⟩

theorem startStep (s : State) (h : Half) : StepFrame s (s.startStep h) := by
  unfold State.startStep
  dsimp only
  split
  · exact (bindOrWait s h).trans (placeRequest _ h)
  · exact bindOrWait s h

theorem startPair (s : State) : StepFrame s s.startPair := by
  have hshare (s : State) : StepFrame s s.sharePairLimit := by
    unfold State.sharePairLimit
    split
    · split
      · exact (setCtx s _ _).trans (setCtx _ _ _)
      · exact .refl s
    · exact placeRequest s _
  exact ((bindOrWait s _).trans (bindOrWait _ _)).trans (hshare _)

theorem startWaiting (s : State) : StepFrame s s.startWaiting := by
  have hif (c : Bool) (s : State) (h : Half) : StepFrame s (if c = true then s.startStep h else s) := by
    split
    · exact startStep s h
    · exact .refl s
  have hite (c : Bool) {t u : State} (ht : StepFrame s t) (hu : StepFrame s u) :
      StepFrame s (if c = true then t else u) := by
    split
    · exact ht
    · exact hu
  have hl := hif (s.ctxIn .left .waitSettle) s .left
  have hr := hif (s.ctxIn .right .waitSettle) (if s.ctxIn .left .waitSettle = true then s.startStep .left else s) .right
  unfold State.startWaiting
  dsimp only
  split <;> exact hite _ (startPair s) (hl.trans hr)

end StepFrame

/-! ### SETTLE_EXPIRY -/

theorem settleExpires_other {s : State} (h : s.opening.state ≠ .settling ∨ s.opening.settle = none) :
    s.settleExpires = s := by
  unfold State.settleExpires
  split
  · next h1 h2 => simp [h1, h2] at h
  · rfl

theorem settleExpires_settling {s : State} (h : s.opening.state = .settling) (ht : s.opening.settle ≠ none) :
    s.settleExpires = ((s.setOpening { s.opening with settle := none }).takeEvaluated).startWaiting := by
  obtain ⟨n, hn⟩ := Option.ne_none_iff_exists'.1 ht
  simp [State.settleExpires, h, hn]

/-- The arbiters change nothing after steps that place no light request. -/
theorem StepFrame.arbitrate {s t : State} (h : StepFrame s t) (hd : t.drain = s.drain)
    (hl : t.light.held = s.light.held) : s.arbitrate t = t := by
  refine arbitrate_eq (by simp [hl]) fun r hr => ?_
  have ho : t.memory.owed = s.memory.owed := by rw [h.memory]
  have he : t.memory.engine = s.memory.engine := by rw [h.memory]
  have hx : t.rx = s.rx := by funext g; exact congrArg (fun m => m.rx.get g) h.memory
  rw [← hr]
  cases r <;> simp only [State.requests, hx, ho, he, hd]

theorem evaluated_inFlight {s : State} (h : s.inFlight = true) : s.evaluated = .exposing := by
  rw [evaluated_eq, if_pos h]

/-- Settles O19. -/
theorem settleExpiry : Obligations.SettleExpiry := by
  intro s
  refine ⟨fun h => ?_, fun h ht => ?_⟩
  · change Host.Outcome.next (s.arbitrate s.settleExpires) = _
    rw [settleExpires_other h, arbitrate_same rfl rfl rfl]
  · have hexec : exec .settleExpiry s =
        .next (s.arbitrate ((s.setOpening { s.opening with settle := none }).takeEvaluated).startWaiting) := by
      rw [← settleExpires_settling h ht]
      rfl
    have hv := takeEvaluated_frame (s.setOpening { s.opening with settle := none })
    have hvo := takeEvaluated_opening (s.setOpening { s.opening with settle := none })
    dsimp only
    rw [hexec]
    have hexposing : s.inFlight = true →
        ((s.setOpening { s.opening with settle := none }).takeEvaluated).opening.state = .exposing := fun hf => by
      rw [hvo]; exact evaluated_inFlight (s := s.setOpening { s.opening with settle := none }) hf
    have hsettled := takeEvaluated_settled (s.setOpening { s.opening with settle := none })
    have hnone : ((s.setOpening { s.opening with settle := none }).takeEvaluated).opening.settle = none := by
      rw [hvo]; rfl
    have hvolume : ((s.setOpening { s.opening with settle := none }).takeEvaluated).opening.volume = s.opening.volume := by
      rw [hvo]; rfl
    generalize (s.setOpening { s.opening with settle := none }).takeEvaluated = v at *
    obtain ⟨haccount, hcapture, hlight, hmemory, hmem, hdrain, hpending⟩ : v.account = s.account ∧
      v.capture = s.capture ∧ v.light = s.light ∧ v.memory = s.memory ∧ v.mem = s.mem ∧ v.drain = s.drain ∧
      v.pending = s.pending := hv
    have hctx : s.ctx = v.ctx := by funext g; simp only [State.ctx, hcapture]
    have hslot : s.slot = v.slot := by funext x; simp only [State.slot, hmemory]
    have hfree : s.freeSlots = v.freeSlots := by simp only [State.freeSlots, hslot]
    have hopened : s.opened = v.opened := by funext g c; simp only [State.opened, hvolume]
    have hwait : s.capture.waitOrder = v.capture.waitOrder := by rw [hcapture]
    have hkept := StepFrame.startWaiting v
    obtain ⟨hopening, haccount', hmem', hdrain', hlinks, hpending'⟩ := startWaiting_frame v
    have hframe : StepFrame s v.startWaiting := (StepFrame.of_same hcapture hmemory).trans hkept
    refine ⟨v.startWaiting, rfl, fun hu => ?_, ⟨hopening, hlinks, hnone, hsettled, hexposing⟩, fun hn => ?_,
      fun h c hc hw hl ho => ?_, fun a b ha hb hla hlb => ?_, fun a b ha hb hla hlb => ?_, hframe.claims, hframe.idCounter,
      hframe.memory, ?_⟩
    · rw [hframe.arbitrate (hdrain'.trans hdrain) hu]
    · rw [hctx] at hn
      exact startWaiting_none hn
    · simp only [State.stepBegun, hctx, hfree, hslot, hopened, ← hlight, hwait] at hc ho ⊢
      rw [startWaiting_one hc hw ho]
      exact ⟨startStep_begun hc hl, startStep_ctx_other hc hl (by cases h <;> simp [otherHalf])⟩
    · simp only [State.pairBegun, hctx, hfree, hslot, hopened, ← hlight, hwait] at ha hb ⊢
      rw [startWaiting_both ha.1 hb.1 ha.2 hb.2, if_pos hla]
      exact startPair_begun ha.1 hb.1 hla
    · simp only [hctx, hfree, hslot, hopened, ← hlight, hwait] at ha hb ⊢
      rw [startWaiting_both ha.1 hb.1 ha.2 hb.2, if_neg (by simp [hla])]
      exact startBoth_begun ha.1 hb.1 hla hlb
    · simp [State.keeps, Part.same, haccount, hmem, hdrain, hpending]

end Sys2Proof.Machine
end

section
/-! PROOFS. ABORT_OPENING (R21), refuted: a capture that waits for a slot and holds an OPEN one already. -/

namespace Sys2Proof.Machine

open Sys2Proof

/-- A capture that waits, with a slot bound to it. -/
def waitingCtx (id : Nat) (st : CtxState) (slot : Fin 8) : Ctx :=
  { id := id, leaf := 1, prior := .wanted, program := 0, copy := State.reset.program 0, step := 1, state := st,
    slot := some slot, results := [], linked := false, order := none, cause := none, heldCap := none,
    partnerTimer := none, slotTimer := none, frameTimer := none, report := none }

/-- In EXPOSING the left capture waits for light with slot 0; the right one waits for a slot, and holds slot 1. Both
slots are OPEN. -/
def doublyBound : State :=
  { State.reset with
    opening := { State.reset.opening with state := .exposing }
    capture :=
      { State.reset.capture with
        ctxs := ⟨some (waitingCtx 1 .waitLight 0), some (waitingCtx 2 .waitSlot 1)⟩, waitOrder := [.right] }
    memory :=
      { State.reset.memory with
        slots := (State.reset.memory.slots.set 0 { Slot.free with state := .open' }).set 1
          { Slot.free with state := .open' } } }

/-- The state of slot 1 after an ABORT_OPENING. -/
def slotOneAfter (s : State) : Option SlotState :=
  match exec (.abortOpening .S) s with
  | .next t => some (t.slot 1).state
  | _ => none

/-- The left capture's end offers its slot to the right one, which takes it in place of slot 1: slot 1 is never
returned. -/
theorem doublyBound_keeps_slot : slotOneAfter doublyBound = some .open' := by decide

theorem doublyBound_portFree : doublyBound.portFree .S := by decide

/-- The wait order holds captures in WAIT_SLOT alone. -/
theorem doublyBound_orderly :
    ∀ h ∈ doublyBound.capture.waitOrder, ∀ c, doublyBound.ctx h = some c → c.state = .waitSlot := by
  intro h hh c hc
  obtain rfl := List.mem_singleton.1 hh
  obtain rfl := Option.some.inj hc
  rfl

/-- Refutes O15: with a capture in WAIT_SLOT that already holds an OPEN slot, which the statement's premises on the wait
order allow, the slot the other capture returns is bound in its place, and the slot held before is not FREE at the end. -/
theorem not_abortOpening : ¬ Obligations.AbortOpening := by
  intro h
  obtain ⟨-, -, -, hopen⟩ := h doublyBound doublyBound_portFree
  obtain ⟨⟨t, body, hexec, -, -, -, hends, -⟩, -⟩ := hopen (by decide) (by decide) (by decide) (by decide)
  obtain ⟨-, -, hslot⟩ := hends .right (waitingCtx 2 .waitSlot 1) rfl (by decide) (by decide)
  have hfree : t.slot 1 = Slot.free := hslot doublyBound_orderly (by decide) 1 rfl rfl
  have hkept := doublyBound_keeps_slot
  unfold slotOneAfter at hkept
  rw [hexec] at hkept
  simp only [hfree] at hkept
  exact absurd hkept (by decide)

end Sys2Proof.Machine
end

section
/-! SUPPORT. What the end of one half's capture leaves of the other's: its context, its sides, the claims, the memory and
the notices. -/

namespace Sys2Proof.Machine

open Sys2Proof

/-! ### A capture in flight that stays in flight -/

/-- The same capture: its id, its side, its order; an order that ends it at once still does. -/
structure Ctx.SameCapture (c d : Ctx) : Prop where
  id : d.id = c.id
  leaf : d.leaf = c.leaf
  prior : d.prior = c.prior
  order : d.order = c.order
  ends : c.state.endsNow = true → d.state.endsNow = true

theorem Ctx.SameCapture.refl (c : Ctx) : c.SameCapture c := ⟨rfl, rfl, rfl, rfl, fun h => h⟩

theorem Ctx.SameCapture.trans {c d e : Ctx} (h : c.SameCapture d) (h' : d.SameCapture e) : c.SameCapture e :=
  ⟨h'.id.trans h.id, h'.leaf.trans h.leaf, h'.prior.trans h.prior, h'.order.trans h.order, fun x => h'.ends (h.ends x)⟩

/-- No context begins, and one in flight stays the same capture. -/
def CtxKept (a b : Option Ctx) : Prop :=
  (a = none → b = none) ∧ ∀ c, a = some c → ∃ d, b = some d ∧ c.SameCapture d

theorem CtxKept.refl (a : Option Ctx) : CtxKept a a := ⟨fun h => h, fun c h => ⟨c, h, .refl c⟩⟩

theorem CtxKept.of_eq {a b : Option Ctx} (h : b = a) : CtxKept a b := h ▸ .refl a

theorem CtxKept.trans {a b c : Option Ctx} (h : CtxKept a b) (h' : CtxKept b c) : CtxKept a c := by
  refine ⟨fun ha => h'.1 (h.1 ha), fun x hx => ?_⟩
  obtain ⟨y, hy, hxy⟩ := h.2 x hx
  obtain ⟨z, hz, hyz⟩ := h'.2 y hy
  exact ⟨z, hz, hxy.trans hyz⟩

theorem setCtx_kept {s : State} {h : Half} {c d : Ctx} (hc : s.ctx h = some c) (hd : c.SameCapture d) (g : Half) :
    CtxKept (s.ctx g) ((s.setCtx h (some d)).ctx g) := by
  rw [setCtx_ctx]
  split
  · next hg =>
    subst hg
    rw [hc]
    exact ⟨fun h => absurd h (by simp), fun x hx => ⟨d, rfl, Option.some.inj hx ▸ hd⟩⟩
  · exact .refl _

theorem ctxKept_of_capture {s t : State} (h : t.capture = s.capture) (g : Half) : CtxKept (s.ctx g) (t.ctx g) :=
  .of_eq (by simp only [State.ctx, h])

/-! ### Slots offered -/

theorem bindSlot_kept (s : State) (h : Half) (i : Fin 8) (g : Half) :
    CtxKept (s.ctx g) ((s.bindSlot h i).ctx g) := by
  cases hc : s.ctx h with
  | none => simp only [State.bindSlot, hc]; exact .refl _
  | some c =>
    rw [bindSlot_eq hc]
    exact setCtx_kept (s := s.setSlot i _) (d := { c with slot := some i, state := .waitLight }) hc
      ⟨rfl, rfl, rfl, rfl, fun _ => rfl⟩ g

theorem stopSlotLimit_kept (s : State) (h g : Half) : CtxKept (s.ctx g) ((s.stopSlotLimit h).ctx g) := by
  have timer {u : State} {k : Half} {c : Ctx} (hc : u.ctx k = some c) :
      CtxKept (u.ctx g) ((u.setCtx k (some { c with slotTimer := none })).ctx g) :=
    setCtx_kept (d := { c with slotTimer := none }) hc ⟨rfl, rfl, rfl, rfl, fun h => h⟩ g
  unfold State.stopSlotLimit
  split
  · exact .refl _
  · next c hc =>
    split
    · split
      · exact timer hc
      · next d hd =>
        split
        · exact .refl _
        · refine (timer hc).trans (timer ?_)
          rw [setCtx_ctx, if_neg (by cases h <;> simp [otherHalf])]
          exact hd
    · exact timer hc

theorem offerOnce_kept (s : State) (g : Half) : CtxKept (s.ctx g) (s.offerOnce.ctx g) := by
  unfold State.offerOnce
  split
  · exact .refl _
  · next h rest hw =>
    split
    · exact .refl _
    · next i hi =>
      refine ((bindSlot_kept (s.setWaitOrder rest) h i g).trans (stopSlotLimit_kept _ h g)).trans
        (ctxKept_of_capture (placeRequest_frame _ h).2.2.1 g)

theorem returnSlot_kept (s : State) (x : Option (Fin 8)) (g : Half) : CtxKept (s.ctx g) ((s.returnSlot x).ctx g) := by
  unfold State.returnSlot
  split
  · exact .refl _
  · split
    · exact (offerOnce_kept (s.setSlot _ .free) g).trans (offerOnce_kept _ g)
    · exact .refl _

theorem partnerEnded_kept (s : State) (h g : Half) : CtxKept (s.ctx g) ((s.partnerEnded h).ctx g) := by
  unfold State.partnerEnded
  split
  · exact .refl _
  · next d hd =>
    have hk := setCtx_kept hd (d := { d with linked := false, cause := d.cause.or (some .partnerEnded) })
      ⟨rfl, rfl, rfl, rfl, fun h => h⟩ g
    dsimp only
    split
    · exact hk
    · exact hk

/-! ### The end of one capture -/

/-- The record of a side after the end of its capture (R62, R63, R64). -/
def Ctx.endedSide (c : Ctx) (h : Half) (discarded : Bool) (r : SideRec) : SideRec :=
  { r with
    state := c.sideAfter discarded, owner := none, prior := none,
    captures := satAdd Config.maxSideCaptures r.captures, summary := some (c.summary h c.outcome discarded) }

/-- The account unit's and the notices' part of a capture's end (R63). -/
def State.endAccount (s : State) (h : Half) (c : Ctx) : State :=
  let discarded := s.discardedMark h c
  let exc := c.exception h s.opening.k discarded
  let done : Notice := .captureDone c.id h c.leaf c.outcome c.results.length c.anyDimmed (exc.map (·.kind))
  (((s.changeSide (faceOf h) c.leaf (c.endedSide h discarded)).addException? exc).notify (cameraLink h) done).notify .S
    done

/-- The capture unit's part of a capture's end (R63): no context, no place in the wait order, no light request. -/
def State.endContext (s : State) (h : Half) : State :=
  ((s.setCtx h none).setWaitOrder (s.capture.waitOrder.filter fun x => decide (x ≠ h))).withdraw h

theorem endOne_none {s : State} {h : Half} (hc : s.ctx h = none) : s.endOne h = s := by
  simp only [State.endOne, hc]

theorem endOne_some {s : State} {h : Half} {c : Ctx} (hc : s.ctx h = some c) :
    s.endOne h = (((s.endAccount h c).endContext h).returnSlot c.slot).evaluate := by
  simp only [State.endOne, hc]
  rfl

theorem endAccount_capture (s : State) (h : Half) (c : Ctx) : (s.endAccount h c).capture = s.capture := by
  simp [State.endAccount]

theorem endContext_ctx (s : State) (h g : Half) :
    (s.endContext h).ctx g = if g = h then none else s.ctx g := by
  have : (s.endContext h).ctx g = (s.setCtx h none).ctx g := by
    simp only [State.endContext, State.ctx, withdraw_frame, setWaitOrder_capture_ctxs]
  rw [this, setCtx_ctx]

theorem endOne_self (s : State) (h : Half) : (s.endOne h).ctx h = none := by
  cases hc : s.ctx h with
  | none => rw [endOne_none hc]; exact hc
  | some c =>
    rw [endOne_some hc]
    have hn : ((s.endAccount h c).endContext h).ctx h = none := by rw [endContext_ctx, if_pos rfl]
    exact (ctxKept_of_capture (evaluate_frame _).2.1 h).1 ((returnSlot_kept _ c.slot h).1 hn)

/-- The end of one half's capture keeps the other half's. -/
theorem endOne_kept (s : State) {h g : Half} (hg : g ≠ h) : CtxKept (s.ctx g) ((s.endOne h).ctx g) := by
  cases hc : s.ctx h with
  | none => rw [endOne_none hc]; exact .refl _
  | some c =>
    rw [endOne_some hc]
    refine ((CtxKept.of_eq ?_).trans (returnSlot_kept _ c.slot g)).trans (ctxKept_of_capture (evaluate_frame _).2.1 g)
    rw [endContext_ctx, if_neg hg]
    simp only [State.ctx, endAccount_capture]

/-! ### The sides -/

theorem addException_leaves (s : State) (x : ExcRecord) : (s.addException x).account.leaves = s.account.leaves := by
  unfold State.addException
  dsimp only
  split
  · rfl
  · split <;> simp

theorem addExceptionOf_leaves (s : State) (x : Option ExcRecord) :
    (s.addException? x).account.leaves = s.account.leaves := by
  cases x with
  | none => rfl
  | some r => exact addException_leaves s r

theorem endContext_account (s : State) (h : Half) : (s.endContext h).account = s.account := by
  simp [State.endContext]

theorem endOne_leaves {s : State} {h : Half} {c : Ctx} (hc : s.ctx h = some c) :
    (s.endOne h).account.leaves =
      (s.changeSide (faceOf h) c.leaf (c.endedSide h (s.discardedMark h c))).account.leaves := by
  rw [endOne_some hc, (evaluate_frame _).1, (returnSlot_frame _ _).2.1, endContext_account]
  simp [State.endAccount, addExceptionOf_leaves]

/-- The sides after the end of a capture (R63). -/
theorem endOne_side {s : State} {h : Half} {c : Ctx} (hc : s.ctx h = some c) (f : Face) (j : Nat) :
    (s.endOne h).side f j =
      if f = faceOf h ∧ j = c.leaf then (s.side f j).map (c.endedSide h (s.discardedMark h c)) else s.side f j := by
  rw [side_congr (endOne_leaves hc), changeSide_side]

theorem faceOf_ne {h g : Half} (hg : g ≠ h) : faceOf g ≠ faceOf h := by
  cases h <;> cases g <;> simp_all [faceOf]

/-- The end of one half's capture leaves the other face. -/
theorem endOne_side_other (s : State) {h g : Half} (hg : g ≠ h) (j : Nat) :
    (s.endOne h).side (faceOf g) j = s.side (faceOf g) j := by
  cases hc : s.ctx h with
  | none => rw [endOne_none hc]
  | some c => rw [endOne_side hc, if_neg fun hf => faceOf_ne hg hf.1]

theorem partnerEnded_side (s : State) (h : Half) : (s.partnerEnded h).side = s.side :=
  side_congr (congrArg Account.leaves (partnerEnded_frame s h).2.1)

/-! ### Every end of a capture -/

/-- A property that the end of one capture and of a pair's link keep. -/
structure EndKeeps (P : State → Prop) : Prop where
  partner : ∀ {s : State} (h : Half), P s → P (s.partnerEnded h)
  one : ∀ {s : State} (h : Half), P s → P (s.endOne h)

namespace EndKeeps

variable {P : State → Prop} {s : State}

theorem endCapture (hP : EndKeeps P) (h : Half) (hs : P s) : P (s.endCapture h) := by
  have hpair := hP.one h (hP.partner (otherHalf h) hs)
  unfold State.endCapture
  dsimp only
  split
  · exact hs
  · split
    · split
      · exact hpair
      · split
        · exact hP.one _ hpair
        · exact hpair
    · exact hP.one h hs

theorem endIfNow (hP : EndKeeps P) (h : Half) (hs : P s) : P (s.endIfNow h) := by
  unfold State.endIfNow
  split
  · exact hs
  · split
    · exact hP.endCapture h hs
    · exact hs

end EndKeeps

theorem endCapture_self (s : State) (h : Half) : (s.endCapture h).ctx h = none := by
  have ho : h ≠ otherHalf h := by cases h <;> simp [otherHalf]
  unfold State.endCapture
  dsimp only
  split
  · next hc => exact hc
  · split
    · split
      · exact endOne_self _ h
      · split
        · exact (endOne_kept _ ho).1 (endOne_self _ h)
        · exact endOne_self _ h
    · exact endOne_self s h

/-! ### One half's capture through the ends of both -/

/-- Where a half's capture `c` stands since a state: in flight, its sides untouched, or ended, its side's record that of
the end. -/
inductive Tracked (s0 : State) (h : Half) (c : Ctx) (t : State) : Prop where
  | inFlight (d : Ctx) (ctx : t.ctx h = some d) (same : c.SameCapture d)
      (sides : ∀ j, t.side (faceOf h) j = s0.side (faceOf h) j)
  | ended (d : Ctx) (discarded : Bool) (ctx : t.ctx h = none) (same : c.SameCapture d)
      (sides : ∀ j, t.side (faceOf h) j =
        if j = c.leaf then (s0.side (faceOf h) j).map (d.endedSide h discarded) else s0.side (faceOf h) j)

theorem Tracked.start {s : State} {h : Half} {c : Ctx} (hc : s.ctx h = some c) : Tracked s h c s :=
  .inFlight c hc (.refl c) fun _ => rfl

theorem Tracked.untouched {s0 s t : State} {h : Half} {c : Ctx} (hs : Tracked s0 h c s)
    (hk : CtxKept (s.ctx h) (t.ctx h)) (hside : ∀ j, t.side (faceOf h) j = s.side (faceOf h) j) : Tracked s0 h c t := by
  cases hs with
  | inFlight d ctx same sides =>
    obtain ⟨e, he, hde⟩ := hk.2 d ctx
    exact .inFlight e he (same.trans hde) fun j => (hside j).trans (sides j)
  | ended d discarded ctx same sides => exact .ended d discarded (hk.1 ctx) same fun j => (hside j).trans (sides j)

theorem tracked_endKeeps (s0 : State) (h : Half) (c : Ctx) : EndKeeps (Tracked s0 h c) where
  partner g hs := hs.untouched (partnerEnded_kept _ g h) fun j => by rw [partnerEnded_side]
  one {s} g hs := by
    by_cases hg : h = g
    · subst hg
      cases hs with
      | inFlight d ctx same sides =>
        refine .ended d (s.discardedMark h d) (endOne_self s h) same fun j => ?_
        rw [endOne_side ctx, sides, same.leaf]
        simp only [true_and]
      | ended d discarded ctx same sides =>
        rw [endOne_none ctx]
        exact .ended d discarded ctx same sides
    · exact hs.untouched (endOne_kept s hg) (endOne_side_other s hg)

/-- A half without a capture through the ends of both. -/
theorem idle_endKeeps (s0 : State) (h : Half) :
    EndKeeps fun t => t.ctx h = none ∧ ∀ j, t.side (faceOf h) j = s0.side (faceOf h) j where
  partner g hs := ⟨(partnerEnded_kept _ g h).1 hs.1, fun j => by rw [partnerEnded_side]; exact hs.2 j⟩
  one {s} g hs := by
    by_cases hg : h = g
    · subst hg
      rw [endOne_none hs.1]
      exact hs
    · exact ⟨(endOne_kept s hg).1 hs.1, fun j => (endOne_side_other s hg j).trans (hs.2 j)⟩

/-- An end ordered that takes place at once (R68, R69). -/
theorem Tracked.endIfNow {s0 s : State} {h : Half} {c : Ctx} (hs : Tracked s0 h c s) (ho : c.order.isSome = true)
    (he : c.state.endsNow = true) : (s.endIfNow h).ctx h = none := by
  cases hs with
  | inFlight d ctx same sides =>
    have hd : (d.order.isSome && d.state.endsNow) = true := by simp [same.order, ho, same.ends he]
    simp only [State.endIfNow, ctx, hd, if_true]
    exact endCapture_self s h
  | ended d discarded ctx same sides => simp only [State.endIfNow, ctx]

/-! ### Claims, slots and memory -/

theorem StepFrame.bindSlot (s : State) (h : Half) (i : Fin 8) : StepFrame s (s.bindSlot h i) := by
  unfold State.bindSlot
  split <;> exact ⟨rfl, rfl, rfl⟩

theorem StepFrame.stopSlotLimit (s : State) (h : Half) : StepFrame s (s.stopSlotLimit h) := by
  unfold State.stopSlotLimit
  (repeat' split) <;> exact ⟨rfl, rfl, rfl⟩

theorem StepFrame.offerOnce (s : State) : StepFrame s s.offerOnce := by
  unfold State.offerOnce
  split
  · exact .refl s
  · next h rest hw =>
    split
    · exact .refl s
    · next i hi =>
      have hb := (StepFrame.bindSlot (s.setWaitOrder rest) h i).trans (StepFrame.stopSlotLimit _ h)
      have hset : StepFrame s (s.setWaitOrder rest) := ⟨rfl, rfl, rfl⟩
      exact (hset.trans hb).trans (StepFrame.placeRequest _ h)

theorem StepFrame.freeSlot (s : State) (i : Fin 8) : StepFrame s (s.freeSlot i) := by
  have hset : StepFrame s (s.setSlot i .free) := ⟨rfl, rfl, rfl⟩
  exact (hset.trans (.offerOnce _)).trans (.offerOnce _)

theorem StepFrame.returnSlot (s : State) (x : Option (Fin 8)) : StepFrame s (s.returnSlot x) := by
  unfold State.returnSlot
  split
  · exact .refl s
  · split
    · exact .freeSlot s _
    · exact .refl s

theorem StepFrame.partnerEnded (s : State) (h : Half) : StepFrame s (s.partnerEnded h) := by
  unfold State.partnerEnded
  dsimp only
  (repeat' split) <;> exact ⟨rfl, rfl, rfl⟩

theorem StepFrame.endContext (s : State) (h : Half) : StepFrame s (s.endContext h) := ⟨rfl, rfl, rfl⟩

theorem StepFrame.endOne (s : State) (h : Half) : StepFrame s (s.endOne h) := by
  cases hc : s.ctx h with
  | none => rw [endOne_none hc]; exact .refl s
  | some c =>
    rw [endOne_some hc]
    have ha : StepFrame s (s.endAccount h c) := .of_same (endAccount_capture s h c) (by simp [State.endAccount])
    have he (u : State) : StepFrame u u.evaluate := .of_same (evaluate_frame u).2.1 (evaluate_frame u).2.2.2.1
    exact ((ha.trans (.endContext _ h)).trans (.returnSlot _ c.slot)).trans (he _)

theorem StepFrame.orderEnd (s : State) (h : Half) (o : EndOrder) : StepFrame s (s.orderEnd h o) := by
  unfold State.orderEnd
  (repeat' split) <;> exact ⟨rfl, rfl, rfl⟩

theorem stepFrame_endKeeps (s0 : State) : EndKeeps (StepFrame s0) where
  partner h hs := hs.trans (.partnerEnded _ h)
  one h hs := hs.trans (.endOne _ h)

theorem StepFrame.abortBoth (s : State) : StepFrame s s.abortBoth := by
  have ho := (StepFrame.orderEnd s .left .aborted).trans (.orderEnd _ .right .aborted)
  exact (stepFrame_endKeeps s).endIfNow .right ((stepFrame_endKeeps s).endIfNow .left ho)

/-! ### The notices -/

/-- Notices are only queued behind those that wait. -/
def NoticesKept (s t : State) : Prop := ∀ l, (s.link l).notices <+: (t.link l).notices

namespace NoticesKept

variable {s t u : State}

theorem refl (s : State) : NoticesKept s s := fun _ => ⟨[], List.append_nil _⟩

theorem trans (h : NoticesKept s t) (h' : NoticesKept t u) : NoticesKept s u := fun l => (h l).trans (h' l)

theorem of_links (h : t.links = s.links) : NoticesKept s t := fun l => by
  simp only [State.link, h]
  exact ⟨[], List.append_nil _⟩

theorem push (k : Link) (d : Nat) (n : Notice) : k.notices <+: (k.push d n).notices := by
  unfold Link.push
  split
  · exact ⟨[n], rfl⟩
  · exact ⟨[], List.append_nil _⟩

theorem notify (s : State) (l : LinkId) (n : Notice) : NoticesKept s (s.notify l n) := fun m => by
  rw [notify_link]
  split
  · next h => rw [h]; exact push _ _ _
  · exact ⟨[], List.append_nil _⟩

theorem evaluate (s : State) : NoticesKept s s.evaluate := by
  unfold State.evaluate
  split
  · intro l
    unfold State.link
    rw [takeEvaluated_links]
    split
    · exact notify s _ _ l
    · split
      · exact notify s _ _ l
      · exact ⟨[], List.append_nil _⟩
  · exact .refl s

theorem addException? (s : State) (x : Option ExcRecord) : NoticesKept s (s.addException? x) := by
  unfold State.addException? State.addException
  dsimp only
  split
  · exact .refl s
  · split
    · exact .refl s
    · split
      · refine NoticesKept.trans ?_ (notify _ _ _)
        exact of_links rfl
      · exact of_links rfl

theorem endOne (s : State) (h : Half) : NoticesKept s (s.endOne h) := by
  cases hc : s.ctx h with
  | none => rw [endOne_none hc]; exact .refl s
  | some c =>
    rw [endOne_some hc]
    have hside (f : Face) (j : Nat) (g : SideRec → SideRec) : NoticesKept s (s.changeSide f j g) :=
      of_links (changeSide_frame s f j g).2.2.2.2.2.2.1
    have haccount : NoticesKept s (s.endAccount h c) :=
      (((hside _ _ _).trans (addException? _ _)).trans (notify _ _ _)).trans (notify _ _ _)
    have hreturn : NoticesKept (s.endAccount h c) (((s.endAccount h c).endContext h).returnSlot c.slot) :=
      of_links (by simp [State.endContext])
    exact (haccount.trans hreturn).trans (evaluate _)

theorem endClaim (s : State) (h : Half) (e : Bool) : NoticesKept s (s.endClaim h e) := by
  cases hc : s.claimOf h with
  | none => rw [endClaim_none hc]; exact .refl s
  | some c =>
    have hu : NoticesKept s (s.unclaimSide h c) :=
      of_links (changeSide_frame s (faceOf h) c.leaf (SideRec.unclaimed c.prior)).2.2.2.2.2.2.1
    rw [endClaim_some hc]
    split
    · exact hu.trans (notify _ _ _)
    · exact hu

theorem endKeeps (s0 : State) : EndKeeps (NoticesKept s0) where
  partner h hs := hs.trans (of_links (partnerEnded_frame _ h).2.2.2.2.2.2.1)
  one h hs := hs.trans (endOne _ h)

theorem abortBoth (s : State) : NoticesKept s s.abortBoth := by
  have ho : NoticesKept s ((s.orderEnd .left .aborted).orderEnd .right .aborted) := of_links (by simp)
  exact (endKeeps s).endIfNow .right ((endKeeps s).endIfNow .left ho)

end NoticesKept

end Sys2Proof.Machine
end

section
/-! PROOFS. The entry to FAULT (R16 to R18, R69). -/

namespace Sys2Proof.Machine

open Sys2Proof

/-! ### Both captures ordered to end -/

/-- A capture ordered to end ABORTED (R69). -/
def Ctx.aborted (c : Ctx) : Ctx := { c with order := some .aborted }

theorem orderEnd_aborted_none {s : State} {h : Half} (hc : s.ctx h = none) : s.orderEnd h .aborted = s := by
  simp only [State.orderEnd, hc]

theorem orderEnd_aborted_some {s : State} {h : Half} {c : Ctx} (hc : s.ctx h = some c) :
    s.orderEnd h .aborted = if c.order = some .aborted then s else s.setCtx h (some c.aborted) := by
  simp only [State.orderEnd, hc]
  cases ho : c.order with
  | none => rfl
  | some o => cases o <;> rfl

theorem orderEnd_aborted_ctx (s : State) (h g : Half) :
    (s.orderEnd h .aborted).ctx g = if g = h then (s.ctx h).map Ctx.aborted else s.ctx g := by
  cases hc : s.ctx h with
  | none =>
    rw [orderEnd_aborted_none hc]
    by_cases hg : g = h
    · rw [if_pos hg, hg, hc]; rfl
    · rw [if_neg hg]
  | some c =>
    rw [orderEnd_aborted_some hc, Option.map_some]
    by_cases ho : c.order = some .aborted
    · have hsame : c.aborted = c := by rw [Ctx.aborted, ← ho]
      rw [if_pos ho, hsame]
      by_cases hg : g = h
      · rw [if_pos hg, hg, hc]
      · rw [if_neg hg]
    · rw [if_neg ho, setCtx_ctx]

/-- Both halves' captures ordered to end ABORTED, before either ends (log 24). -/
def State.orderedBoth (s : State) : State := (s.orderEnd .left .aborted).orderEnd .right .aborted

theorem orderedBoth_ctx (s : State) (h : Half) : s.orderedBoth.ctx h = (s.ctx h).map Ctx.aborted := by
  unfold State.orderedBoth
  rw [orderEnd_aborted_ctx, orderEnd_aborted_ctx, orderEnd_aborted_ctx]
  cases h <;> rfl

theorem orderedBoth_side (s : State) : s.orderedBoth.side = s.side :=
  side_congr (by simp [State.orderedBoth])

theorem orderEnd_waitOrder (s : State) (h : Half) (o : EndOrder) :
    (s.orderEnd h o).capture.waitOrder = s.capture.waitOrder := by
  unfold State.orderEnd
  (repeat' split) <;> rfl

theorem orderedBoth_waitOrder (s : State) : s.orderedBoth.capture.waitOrder = s.capture.waitOrder := by
  unfold State.orderedBoth
  rw [orderEnd_waitOrder, orderEnd_waitOrder]

theorem abortBoth_eq (s : State) : s.abortBoth = (s.orderedBoth.endIfNow .left).endIfNow .right := rfl

theorem endsNow_iff (x : CtxState) : x.endsNow = true ↔ x ≠ .firing ∧ x ≠ .receiving := by
  cases x <;> simp [CtxState.endsNow]

/-- A half's capture through the ends of both (R69). -/
theorem abortBoth_tracked {s : State} {h : Half} {c : Ctx} (hc : s.ctx h = some c) :
    Tracked s.orderedBoth h c.aborted s.abortBoth := by
  have hstart : Tracked s.orderedBoth h c.aborted s.orderedBoth := .start (by rw [orderedBoth_ctx, hc]; rfl)
  have hP := tracked_endKeeps s.orderedBoth h c.aborted
  exact hP.endIfNow .right (hP.endIfNow .left hstart)

theorem abortBoth_idle {s : State} {h : Half} (hc : s.ctx h = none) :
    s.abortBoth.ctx h = none ∧ ∀ j, s.abortBoth.side (faceOf h) j = s.side (faceOf h) j := by
  have hP := idle_endKeeps s h
  have hstart : s.orderedBoth.ctx h = none ∧ ∀ j, s.orderedBoth.side (faceOf h) j = s.side (faceOf h) j :=
    ⟨by rw [orderedBoth_ctx, hc]; rfl, fun j => by rw [orderedBoth_side]⟩
  exact hP.endIfNow .right (hP.endIfNow .left hstart)

/-- A capture that waits, or awaits its frame, is gone (R69). -/
theorem abortBoth_ctx_none {s : State} {h : Half} {c : Ctx} (hc : s.ctx h = some c) (he : c.state.endsNow = true) :
    s.abortBoth.ctx h = none := by
  have hstart : Tracked s.orderedBoth h c.aborted s.orderedBoth := .start (by rw [orderedBoth_ctx, hc]; rfl)
  have hP := tracked_endKeeps s.orderedBoth h c.aborted
  have gone : EndKeeps fun t : State => t.ctx h = none :=
    ⟨fun g hs => (partnerEnded_kept _ g h).1 hs, fun {t} g hs => by
      by_cases hg : h = g
      · rw [hg]; exact endOne_self t g
      · exact (endOne_kept t hg).1 hs⟩
  cases h with
  | left => exact gone.endIfNow .right (hstart.endIfNow rfl he)
  | right => exact (hP.endIfNow .left hstart).endIfNow rfl he

theorem outcome_aborted {c : Ctx} (h : c.order = some .aborted) : c.outcome = .aborted := by
  simp [Ctx.outcome, h]

/-- The record of the side of a capture that ended ABORTED (R62, R64, R69). -/
theorem endedSide_aborted {c d : Ctx} (hs : c.SameCapture d) (ho : c.order = some .aborted) (h : Half) (x : Bool)
    (r : SideRec) :
    (d.endedSide h x r).state = c.prior.toSide ∧ (d.endedSide h x r).owner = none ∧ (d.endedSide h x r).prior = none ∧
      ∃ m, (d.endedSide h x r).summary = some m ∧ m.captureId = c.id ∧ m.outcome = .aborted := by
  have hout := outcome_aborted (hs.order.trans ho)
  refine ⟨?_, rfl, rfl, _, rfl, hs.id, hout⟩
  simp [Ctx.endedSide, Ctx.sideAfter, hout, CaptureOutcome.succeeds, hs.prior]

/-! ### The other half's capture, in FIRING or RECEIVING -/

theorem half_ne {h g : Half} (hg : g ≠ h) (x : Half) (hx : x ≠ h) : x = g := by
  cases h <;> cases g <;> cases x <;> simp_all

/-- A context with no place in the wait order is offered nothing. -/
theorem endOne_ctx_other (s : State) {h g : Half} (hg : g ≠ h) (hw : g ∉ s.capture.waitOrder) :
    (s.endOne h).ctx g = s.ctx g := by
  cases hc : s.ctx h with
  | none => rw [endOne_none hc]
  | some c =>
    have hnil : ((s.endAccount h c).endContext h).capture.waitOrder = [] := by
      change (s.endAccount h c).capture.waitOrder.filter _ = []
      rw [endAccount_capture]
      refine List.filter_eq_nil_iff.2 fun x hx => ?_
      simp only [decide_eq_true_eq, not_not]
      by_contra hne
      exact hw (half_ne hg x hne ▸ hx)
    have hreturn :
        (((s.endAccount h c).endContext h).returnSlot c.slot).ctx g = ((s.endAccount h c).endContext h).ctx g := by
      unfold State.returnSlot
      split
      · rfl
      · split
        · rw [freeSlot_nil hnil]; rfl
        · rfl
    have hev (u : State) : u.evaluate.ctx g = u.ctx g := by simp only [State.ctx, evaluate_frame]
    rw [endOne_some hc, hev, hreturn, endContext_ctx, if_neg hg]
    simp only [State.ctx, endAccount_capture]

/-- A capture whose partner has ended (R67). -/
def Ctx.alone (c : Ctx) : Ctx := { c with linked := false, cause := c.cause.or (some .partnerEnded) }

theorem waits_endsNow {x : CtxState} (h : x.endsNow = false) : x.waits = false := by
  cases x <;> simp_all [CtxState.endsNow, CtxState.waits]

theorem partnerEnded_runs {s : State} {g : Half} {c : Ctx} (hc : s.ctx g = some c) (he : c.state.endsNow = false) :
    s.partnerEnded g = s.setCtx g (some c.alone) := by
  simp only [State.partnerEnded, hc, waits_endsNow he]
  rfl

theorem ne_otherHalf (h : Half) : otherHalf h ≠ h := by cases h <;> simp [otherHalf]

/-- The end of a capture whose other half is in FIRING or RECEIVING (R67). -/
theorem endCapture_ctx_other {s : State} {h : Half} {c d : Ctx} (hd : s.ctx h = some d)
    (hc : s.ctx (otherHalf h) = some c) (he : c.state.endsNow = false) (hw : otherHalf h ∉ s.capture.waitOrder) :
    (s.endCapture h).ctx (otherHalf h) = if d.linked = true then some c.alone else some c := by
  have hne := ne_otherHalf h
  simp only [State.endCapture, hd]
  split
  · next hl =>
    have hpe := partnerEnded_runs hc he
    have hctx : ((s.partnerEnded (otherHalf h)).endOne h).ctx (otherHalf h) = some c.alone := by
      rw [endOne_ctx_other _ hne (by rw [hpe]; exact hw), hpe, setCtx_ctx, if_pos rfl]
    have hwaits : c.alone.state.waits = false := waits_endsNow he
    simp only [hctx, hwaits, Bool.false_eq_true, if_false]
  · rw [endOne_ctx_other s hne hw, hc]

theorem endIfNow_runs {s : State} {h : Half} (hc : ∀ c, s.ctx h = some c → c.state.endsNow = false) :
    s.endIfNow h = s := by
  unfold State.endIfNow
  split
  · rfl
  · next c hc' => simp [hc c hc']

/-- The end of the other half's capture, ordered, as a capture in FIRING or RECEIVING sees it (R67, R69). -/
theorem endIfNow_ctx_other {s : State} {h : Half} {c : Ctx} (hc : s.ctx (otherHalf h) = some c)
    (he : c.state.endsNow = false) (hw : otherHalf h ∉ s.capture.waitOrder)
    (ho : ∀ d, s.ctx h = some d → d.order.isSome = true) :
    ((∃ d, s.ctx h = some d ∧ d.linked = true ∧ d.state.endsNow = true) →
      (s.endIfNow h).ctx (otherHalf h) = some c.alone) ∧
    (¬(∃ d, s.ctx h = some d ∧ d.linked = true ∧ d.state.endsNow = true) →
      (s.endIfNow h).ctx (otherHalf h) = some c) := by
  unfold State.endIfNow
  cases hd : s.ctx h with
  | none => exact ⟨fun ⟨d, hd', _⟩ => absurd hd' (by simp), fun _ => hc⟩
  | some d =>
    have hend := endCapture_ctx_other hd hc he hw
    simp only [ho d hd, Bool.true_and]
    refine ⟨fun ⟨d', hd', hl, hs⟩ => ?_, fun hn => ?_⟩
    · obtain rfl := Option.some.inj hd'
      rw [if_pos hs, hend, if_pos hl]
    · split
      · next hs => rw [hend, if_neg fun hl => hn ⟨d, rfl, hl, hs⟩]
      · exact hc

/-- A capture in FIRING or RECEIVING after both ends are ordered (R67, R69). -/
theorem abortBoth_ctx_runs {s : State} {h : Half} {c : Ctx} (hc : s.ctx h = some c) (he : c.state.endsNow = false)
    (hw : h ∉ s.capture.waitOrder) :
    ((∃ d, s.ctx (otherHalf h) = some d ∧ d.linked = true ∧ d.state.endsNow = true) →
      s.abortBoth.ctx h = some c.aborted.alone) ∧
    (¬(∃ d, s.ctx (otherHalf h) = some d ∧ d.linked = true ∧ d.state.endsNow = true) →
      s.abortBoth.ctx h = some c.aborted) := by
  have hoh : otherHalf (otherHalf h) = h := by cases h <;> rfl
  have hc' : s.orderedBoth.ctx h = some c.aborted := by rw [orderedBoth_ctx, hc]; rfl
  have hother : (∃ d, s.ctx (otherHalf h) = some d ∧ d.linked = true ∧ d.state.endsNow = true) ↔
      ∃ d, s.orderedBoth.ctx (otherHalf h) = some d ∧ d.linked = true ∧ d.state.endsNow = true := by
    rw [orderedBoth_ctx]
    constructor
    · rintro ⟨d, hd, hl, hs⟩
      exact ⟨d.aborted, by rw [hd]; rfl, hl, hs⟩
    · rintro ⟨d, hd, hl, hs⟩
      obtain ⟨e, he', rfl⟩ := Option.map_eq_some_iff.1 hd
      exact ⟨e, he', hl, hs⟩
  have hends := endIfNow_ctx_other (s := s.orderedBoth) (h := otherHalf h) (c := c.aborted) (by rw [hoh]; exact hc') he
    (by rw [hoh, orderedBoth_waitOrder]; exact hw) (fun d hd => by
      rw [orderedBoth_ctx] at hd
      obtain ⟨e, -, rfl⟩ := Option.map_eq_some_iff.1 hd
      rfl)
  rw [hoh, ← hother] at hends
  have hself : ∀ u : State, (u.ctx h = some c.aborted ∨ u.ctx h = some c.aborted.alone) → u.endIfNow h = u := by
    rintro u (hu | hu) <;> exact endIfNow_runs fun d hd => by rw [hu] at hd; obtain rfl := Option.some.inj hd; exact he
  have hboth : s.abortBoth = s.orderedBoth.endIfNow (otherHalf h) := by
    rw [abortBoth_eq]
    cases h with
    | left => rw [hself _ (.inl hc')]; rfl
    | right =>
      refine hself _ ?_
      by_cases hx : ∃ d, s.ctx (otherHalf .right) = some d ∧ d.linked = true ∧ d.state.endsNow = true
      · exact .inr (hends.1 hx)
      · exact .inl (hends.2 hx)
  rw [hboth]
  exact hends

end Sys2Proof.Machine
end

section
/-! PROOFS. FAULT entered (R16 to R18, R69): the claims' sides, the notice, and the obligation. -/

namespace Sys2Proof.Machine

open Sys2Proof

/-! ### The sides of the claims -/

theorem endClaim_side {s : State} {h : Half} {x : Claim} (hx : s.claimOf h = some x) (e : Bool) (f : Face) (j : Nat) :
    (s.endClaim h e).side f j =
      if f = faceOf h ∧ j = x.leaf then (s.side f j).map (SideRec.unclaimed x.prior) else s.side f j := by
  have hu : (s.unclaimSide h x).side f j =
      if f = faceOf h ∧ j = x.leaf then (s.side f j).map (SideRec.unclaimed x.prior) else s.side f j := by
    have hleaves : (s.unclaimSide h x).account.leaves =
        (s.changeSide (faceOf h) x.leaf (SideRec.unclaimed x.prior)).account.leaves := by simp [State.unclaimSide]
    rw [side_congr hleaves, changeSide_side]
  rw [endClaim_some hx, ← hu]
  split
  · rw [side_congr (by simp : _ = (s.unclaimSide h x).account.leaves)]
  · rfl

/-- The end of one half's claim leaves the other face. -/
theorem endClaim_side_other (s : State) {h g : Half} (hg : g ≠ h) (e : Bool) (j : Nat) :
    (s.endClaim h e).side (faceOf g) j = s.side (faceOf g) j := by
  cases hx : s.claimOf h with
  | none => rw [endClaim_none hx]
  | some x => rw [endClaim_side hx, if_neg fun hf => faceOf_ne hg hf.1]

theorem endClaims_side_eq (s : State) (h : Half) (e : Bool) (j : Nat) :
    (s.endClaims e).side (faceOf h) j = (s.endClaim h e).side (faceOf h) j := by
  unfold State.endClaims
  cases h with
  | left => exact endClaim_side_other _ (by simp) e j
  | right =>
    have hclaim : (s.endClaim .left e).claimOf .right = s.claimOf .right := by rw [endClaim_claims]; rfl
    have hside (i : Nat) := endClaim_side_other s (h := .left) (g := .right) (by simp) e i
    cases hx : s.claimOf .right with
    | none => rw [endClaim_none (hclaim.trans hx), endClaim_none hx, hside]
    | some x => rw [endClaim_side (hclaim.trans hx), endClaim_side hx, hside]

theorem endClaims_side_claimed {s : State} {h : Half} {x : Claim} (hx : s.claimOf h = some x) (e : Bool) :
    (s.endClaims e).side (faceOf h) x.leaf = (s.side (faceOf h) x.leaf).map (SideRec.unclaimed x.prior) := by
  rw [endClaims_side_eq, endClaim_side hx, if_pos ⟨rfl, rfl⟩]

theorem endClaims_side_free {s : State} {h : Half} {j : Nat} (hj : ∀ x, s.claimOf h = some x → x.leaf ≠ j) (e : Bool) :
    (s.endClaims e).side (faceOf h) j = s.side (faceOf h) j := by
  rw [endClaims_side_eq]
  cases hx : s.claimOf h with
  | none => rw [endClaim_none hx]
  | some x => rw [endClaim_side hx, if_neg fun hf => hj x hx hf.2.symm]

/-! ### The sides of the captures -/

/-- A side that is no capture's keeps its record. -/
theorem abortBoth_side_free {s : State} {h : Half} {j : Nat} (hj : ∀ c, s.ctx h = some c → c.leaf ≠ j) :
    s.abortBoth.side (faceOf h) j = s.side (faceOf h) j := by
  cases hc : s.ctx h with
  | none => exact (abortBoth_idle hc).2 j
  | some c =>
    rw [← orderedBoth_side s]
    cases abortBoth_tracked hc with
    | inFlight d ctx same sides => exact sides j
    | ended d discarded ctx same sides => rw [sides, if_neg fun hc' => hj c hc hc'.symm]

/-- The side of a capture that waits, or awaits its frame, shows its end ABORTED (R63, R69). -/
theorem abortBoth_side_ended {s : State} {h : Half} {c : Ctx} {r : SideRec} (hc : s.ctx h = some c)
    (he : c.state.endsNow = true) (hr : s.side (faceOf h) c.leaf = some r) :
    ∃ r' m, s.abortBoth.side (faceOf h) c.leaf = some r' ∧ r'.state = c.prior.toSide ∧ r'.owner = none ∧
      r'.prior = none ∧ r'.summary = some m ∧ m.captureId = c.id ∧ m.outcome = .aborted := by
  have hnone := abortBoth_ctx_none hc he
  cases abortBoth_tracked hc with
  | inFlight d ctx same sides => rw [hnone] at ctx; cases ctx
  | ended d discarded ctx same sides =>
    obtain ⟨hstate, howner, hprior, m, hsummary, hid, hout⟩ :=
      endedSide_aborted same rfl h discarded r
    refine ⟨d.endedSide h discarded r, m, ?_, hstate, howner, hprior, hsummary, hid, hout⟩
    rw [sides, orderedBoth_side, hr]
    exact if_pos rfl

/-! ### The notice -/

/-- The FAULT notice on every link with room for it (R18). -/
theorem notifyFault_queued (s : State) (cause : FaultCause) (dir : Option Direction) (l : LinkId)
    (hl : (s.link l).notices.length < noticeDepth l) :
    ((s.notifyFault cause dir).link l).notices =
      (s.link l).notices ++ [.fault cause s.opening.armCode s.opening.volume s.opening.k dir] := by
  have hpush : ((s.notifyFault cause dir).link l) =
      (s.link l).push (noticeDepth l) (.fault cause s.opening.armCode s.opening.volume s.opening.k dir) := by
    unfold State.notifyFault
    dsimp only
    cases l <;> simp
  rw [hpush]
  unfold Link.push
  rw [if_pos hl]

/-! ### The obligation -/

/-- The opening in FAULT (R16), before the notice and the ends. -/
def State.faulting (s : State) (cause : FaultCause) : State :=
  (s.setOpening
    { s.opening with state := .fault, cause := some cause, settle := none, turn := none, direction := none }).notifyFault
    cause s.opening.direction

theorem enterFault_eq (s : State) (cause : FaultCause) :
    s.enterFault cause = ((s.faulting cause).abortBoth).endClaims false := rfl

theorem faulting_frame (s : State) (cause : FaultCause) :
    (s.faulting cause).account = s.account ∧ (s.faulting cause).capture = s.capture ∧
      (s.faulting cause).memory = s.memory := by
  simp [State.faulting]

theorem enterFault_ctx (s : State) (cause : FaultCause) (h : Half) :
    (s.enterFault cause).ctx h = (s.faulting cause).abortBoth.ctx h := by
  rw [enterFault_eq, endClaims_ctx]

/-- The claims stand until the captures have ended (R69). -/
theorem abortBoth_claimOf (s : State) (h : Half) : s.abortBoth.claimOf h = s.claimOf h := by
  simp only [State.claimOf, (StepFrame.abortBoth s).claims]

theorem enterFault_rx (s : State) (cause : FaultCause) (h : Half) : (s.enterFault cause).rx h = s.rx h := by
  have hm := (StepFrame.abortBoth (s.faulting cause)).memory
  rw [enterFault_eq]
  simp only [State.rx, endClaims_frame]
  rw [hm]
  simp only [faulting_frame]

/-- Notices are queued behind the FAULT notice alone (R18). -/
theorem faulting_notices (s : State) (cause : FaultCause) : NoticesKept (s.faulting cause) (s.enterFault cause) := by
  rw [enterFault_eq]
  exact (NoticesKept.abortBoth _).trans ((NoticesKept.endClaim _ .left false).trans (NoticesKept.endClaim _ .right false))

/-- Settles O20: the obligation's clauses in its order; the captures and the claims through `abortBoth_tracked` and
`endClaims`, the notices by what only queues behind. -/
theorem faultEntry : Obligations.FaultEntry := by
  unfold Obligations.FaultEntry
  intro cause s
  obtain ⟨hacc, hcap, hmem⟩ := faulting_frame s cause
  have hctx (h : Half) : (s.faulting cause).ctx h = s.ctx h := by simp only [State.ctx, hcap]
  have hclaim (h : Half) : (s.faulting cause).claimOf h = s.claimOf h := by simp only [State.claimOf, hcap]
  have hside : (s.faulting cause).side = s.side := side_congr (by rw [hacc])
  have hopening := enterFault_opening s cause
  dsimp only
  refine ⟨hopening, ?_, ?_, ?_, ?_, ?_, ?_, enterFault_rx s cause, ?_⟩
  · simp [State.faultLine, hopening]
  · intro l hl
    have hqueued := notifyFault_queued
      (s.setOpening
        { s.opening with state := .fault, cause := some cause, settle := none, turn := none, direction := none })
      cause s.opening.direction l hl
    exact hqueued ▸ faulting_notices s cause l
  · intro h
    rw [enterFault_eq, endClaims_claimOf]
  · intro h x r hx hr hfree
    have hx' : (s.faulting cause).abortBoth.claimOf h = some x := by rw [abortBoth_claimOf, hclaim, hx]
    rw [enterFault_eq, endClaims_side_claimed hx', abortBoth_side_free (by rw [hctx]; exact hfree), hside, hr]
    rfl
  · intro h c hc hf hr
    have he := (endsNow_iff c.state).2 ⟨hf, hr⟩
    have hc' := (hctx h).trans hc
    refine ⟨(enterFault_ctx s cause h).trans (abortBoth_ctx_none hc' he), fun r hside' hfree => ?_⟩
    have hfree' : ∀ x, (s.faulting cause).abortBoth.claimOf h = some x → x.leaf ≠ c.leaf := by
      rw [abortBoth_claimOf, hclaim]
      exact hfree
    rw [enterFault_eq, endClaims_side_free hfree']
    exact abortBoth_side_ended hc' he (by rw [hside, hside'])
  · intro h c hc hrun hw
    have he : c.state.endsNow = false := by rcases hrun with hs | hs <;> rw [hs] <;> rfl
    have hends := abortBoth_ctx_runs ((hctx h).trans hc) he (by rw [hcap]; exact hw)
    rw [hctx] at hends
    rw [enterFault_ctx]
    simp only [← endsNow_iff]
    exact ⟨hends.2, hends.1⟩
  · simp [State.keeps, Part.same]

end Sys2Proof.Machine
end

section
/-! SUPPORT. What an entry to FAULT leaves of the memory: the slots that hold an image, and an empty wait order; and the
parts of a cradle reset (R24, R131, R146, R163, R189). -/

namespace Sys2Proof.Machine

open Sys2Proof

/-! ### The slots that hold an image -/

/-- A slot in SAVE stays as it is (R110), and no context begins to wait for a slot (R112). -/
structure ImagesKept (s t : State) : Prop where
  slots : ∀ x, (s.slot x).state = .save → t.slot x = s.slot x
  waits : s.capture.waitOrder = [] → t.capture.waitOrder = []

namespace ImagesKept

variable {s t u : State}

theorem refl (s : State) : ImagesKept s s := ⟨fun _ _ => rfl, fun h => h⟩

theorem trans (h : ImagesKept s t) (h' : ImagesKept t u) : ImagesKept s u :=
  ⟨fun x hx => (h'.slots x (by rw [h.slots x hx]; exact hx)).trans (h.slots x hx), fun hw => h'.waits (h.waits hw)⟩

theorem of_same (hs : ∀ x, t.slot x = s.slot x) (hw : t.capture.waitOrder = s.capture.waitOrder) : ImagesKept s t :=
  ⟨fun x _ => hs x, fun h => hw.trans h⟩

theorem of_memory (hm : t.memory = s.memory) (hc : t.capture = s.capture) : ImagesKept s t :=
  .of_same (fun x => by simp only [State.slot, hm]) (by rw [hc])

theorem setSlot (s : State) {i : Fin 8} (x : Slot) (hi : (s.slot i).state ≠ .save) : ImagesKept s (s.setSlot i x) :=
  ⟨fun j hj => by rw [setSlot_slot, if_neg fun e : j = i => hi (e ▸ hj)], fun h => h⟩

theorem placeRequest (s : State) (h : Half) : ImagesKept s (s.placeRequest h) :=
  .of_memory (placeRequest_frame s h).2.2.2.1 (placeRequest_frame s h).2.2.1

theorem bindSlot (s : State) (h : Half) {i : Fin 8} (hi : (s.slot i).state ≠ .save) : ImagesKept s (s.bindSlot h i) := by
  cases hc : s.ctx h with
  | none => simp only [State.bindSlot, hc]; exact .refl s
  | some c => rw [bindSlot_eq hc]; exact (setSlot s (s.opened h c) hi).trans (.of_same (fun _ => rfl) rfl)

theorem stopSlotLimit (s : State) (h : Half) : ImagesKept s (s.stopSlotLimit h) := by
  unfold State.stopSlotLimit
  (repeat' split) <;> exact .of_same (fun _ => rfl) rfl

theorem offerOnce (s : State) : ImagesKept s s.offerOnce := by
  unfold State.offerOnce
  split
  · exact .refl s
  · next h rest hw =>
    split
    · exact .refl s
    · next i hi =>
      have hfree : (s.slot i).state = .free := by simpa [State.lowestFree] using List.find?_some hi
      have hstart : ImagesKept s (s.setWaitOrder rest) := ⟨fun _ _ => rfl, fun h => absurd (hw.symm.trans h) (by simp)⟩
      have hsave : ((s.setWaitOrder rest).slot i).state ≠ .save := fun hs => by
        have hs : (s.slot i).state = .save := hs
        rw [hfree] at hs
        cases hs
      have hbind := bindSlot (s.setWaitOrder rest) h hsave
      exact ((hstart.trans hbind).trans (stopSlotLimit _ h)).trans (placeRequest _ h)

theorem returnSlot (s : State) (x : Option (Fin 8)) : ImagesKept s (s.returnSlot x) := by
  unfold State.returnSlot
  split
  · exact .refl s
  · next i =>
    split
    · next hi => exact ((setSlot s .free (by simp [hi])).trans (offerOnce _)).trans (offerOnce _)
    · exact .refl s

theorem filterWaits {s : State} (p : Half → Bool) (hs : ∀ x, t.slot x = s.slot x)
    (hw : t.capture.waitOrder = s.capture.waitOrder.filter p) : ImagesKept s t :=
  ⟨fun x _ => hs x, fun h => by rw [hw, h]; rfl⟩

theorem partnerEnded (s : State) (h : Half) : ImagesKept s (s.partnerEnded h) := by
  unfold State.partnerEnded
  dsimp only
  split
  · exact .refl s
  · split
    · exact filterWaits _ (fun _ => rfl) rfl
    · exact .of_same (fun _ => rfl) rfl

theorem endOne (s : State) (h : Half) : ImagesKept s (s.endOne h) := by
  cases hc : s.ctx h with
  | none => rw [endOne_none hc]; exact .refl s
  | some c =>
    rw [endOne_some hc]
    have haccount : ImagesKept s (s.endAccount h c) := .of_memory (by simp [State.endAccount]) (endAccount_capture s h c)
    have hcontext (u : State) : ImagesKept u (u.endContext h) := filterWaits _ (fun _ => rfl) rfl
    have hevaluate (u : State) : ImagesKept u u.evaluate :=
      .of_memory (evaluate_frame u).2.2.2.1 (evaluate_frame u).2.1
    exact ((haccount.trans (hcontext _)).trans (returnSlot _ c.slot)).trans (hevaluate _)

theorem orderEnd (s : State) (h : Half) (o : EndOrder) : ImagesKept s (s.orderEnd h o) :=
  .of_same (fun x => by simp only [State.slot, orderEnd_frame]) (orderEnd_waitOrder s h o)

theorem endKeeps (s0 : State) : EndKeeps (ImagesKept s0) where
  partner h hs := hs.trans (.partnerEnded _ h)
  one h hs := hs.trans (.endOne _ h)

theorem abortBoth (s : State) : ImagesKept s s.abortBoth := by
  have ho := (orderEnd s .left .aborted).trans (.orderEnd _ .right .aborted)
  exact (endKeeps s).endIfNow .right ((endKeeps s).endIfNow .left ho)

theorem endClaim (s : State) (h : Half) (e : Bool) : ImagesKept s (s.endClaim h e) := by
  cases hc : s.claimOf h with
  | none => rw [endClaim_none hc]; exact .refl s
  | some c =>
    rw [endClaim_some hc]
    refine .of_same (fun x => ?_) ?_ <;> split <;> simp [State.unclaimSide, State.slot, State.setClaim]

theorem enterFault (s : State) (cause : FaultCause) : ImagesKept s (s.enterFault cause) := by
  obtain ⟨-, hcap, hmem⟩ := faulting_frame s cause
  rw [enterFault_eq]
  exact ((of_memory hmem hcap).trans (abortBoth _)).trans ((endClaim _ .left false).trans (endClaim _ .right false))

end ImagesKept

/-! ### The opening at a cradle reset (R24) -/

/-- The cradle reset enters FAULT (R24). -/
def State.faulted (s : State) : Prop := s.opening.state ≠ .parked ∧ (s.opening.state = .idle → s.mounted ≠ none)

theorem resetOpening_faulted {s : State} (h : s.faulted) : s.resetOpening = s.enterFault .reset := by
  obtain ⟨hp, hi⟩ := h
  unfold State.resetOpening
  split
  · next hs => exact absurd hs hp
  · next hs => rw [if_pos (Option.isSome_iff_ne_none.2 (hi hs))]
  · rfl

theorem resetOpening_stays {s : State} (h : ¬s.faulted) :
    s.resetOpening = s ∧ (s.opening.state = .parked ∨ s.opening.state = .idle) := by
  have hs : s.opening.state = .parked ∨ s.opening.state = .idle ∧ s.mounted = none := by
    unfold State.faulted at h
    by_cases hp : s.opening.state = .parked
    · exact .inl hp
    · exact .inr (by simpa [hp] using h)
  unfold State.resetOpening
  obtain hs | ⟨hs, hm⟩ := hs
  · rw [hs]; exact ⟨rfl, .inl rfl⟩
  · rw [hs, hm]; exact ⟨rfl, .inr rfl⟩

/-- What the entry to FAULT leaves of the cradle and the memory. -/
structure FaultKeeps (s t : State) : Prop where
  volumes : ∀ i, (s.volume i).Standing (t.volume i)
  memory : t.memory = { s.memory with slots := t.memory.slots }
  ports : ∀ l, (s.link l).SamePort (t.link l)
  images : ImagesKept s t
  keeps : s.keeps t [.mem, .drain, .pending]

theorem resetOpening_keeps (s : State) : FaultKeeps s s.resetOpening := by
  by_cases h : s.faulted
  · rw [resetOpening_faulted h]
    have hmem : (s.enterFault .reset).memory = { s.memory with slots := (s.enterFault .reset).memory.slots } := by
      have hm := (StepFrame.abortBoth (s.faulting .reset)).memory
      rw [enterFault_eq, (endClaims_frame _ _).2.2.1]
      rw [(faulting_frame s .reset).2.2] at hm
      exact hm
    exact ⟨(enterFault_steady s .reset).volumes, hmem, enterFault_ports s .reset, .enterFault s .reset,
      by simp [State.keeps, Part.same]⟩
  · rw [(resetOpening_stays h).1]
    exact ⟨fun _ => .refl _, rfl, fun _ => .refl _, .refl s, State.keeps_refl s _⟩

end Sys2Proof.Machine
end

section
/-! SUPPORT. The volumes, the engine and the drain unit at a cradle reset (R131, R146, R163). -/

namespace Sys2Proof.Machine

open Sys2Proof

/-! ### The transfer abandoned (R131) -/

/-- A burst of a transfer is in progress (log 20). -/
def State.transferring (s : State) : Prop := ∃ n x, s.memory.burst = some (.engine n x)

theorem abandonTransfer_transferring {s : State} {n : Nat} {x : Bool} (hb : s.memory.burst = some (.engine n x)) :
    s.abandonTransfer.memory =
      { s.memory with burst := some (.engine n true), engine := { s.memory.engine with abandoned := true } } := by
  simp only [State.abandonTransfer, hb]
  rfl

theorem abandonTransfer_quiet {s : State} (hb : ¬s.transferring) :
    s.abandonTransfer.memory =
      if s.memory.mode = .entering then
        { s.memory with engine := .idle, mode := .retention, refreshTimer := none, owed := 0 }
      else { s.memory with engine := .idle } := by
  unfold State.abandonTransfer
  split
  · next n x hn => exact absurd ⟨n, x, hn⟩ hb
  · by_cases hm : s.memory.mode = .entering
    · simp [State.engineDone, State.setEngine, State.enterRetention, hm]
    · simp [State.engineDone, State.setEngine, hm]

/-! ### The volumes (R163) -/

/-- The save slot of an entry freed (R113, R163). -/
def State.freeSaveSlot (s : State) : Option (Fin 8) → State
  | none => s
  | some x => s.freeSlot x

theorem resetVolumes_none {s : State} (hm : s.moving = none) : s.resetVolumes = s := by
  simp only [State.resetVolumes, hm]

theorem resetVolumes_saving {s : State} {i : Fin 16} (hm : s.moving = some i) (hv : (s.volume i).state = .suspending) :
    s.resetVolumes =
      ((s.abandonTransfer.freeSaveSlot (s.volume i).saveSlot).setVolume i
        { s.volume i with state := .mounted, saveSlot := none }).setOpening { s.opening with volume := some i } := by
  simp only [State.resetVolumes, hm, hv]
  cases (s.volume i).saveSlot <;> simp [State.freeSaveSlot]

theorem resetVolumes_restoring {s : State} {i : Fin 16} (hm : s.moving = some i)
    (hv : (s.volume i).state = .resuming) :
    s.resetVolumes = (s.abandonTransfer.setVolume i { s.volume i with state := .suspended }).emptyTables := by
  simp only [State.resetVolumes, hm, hv]

/-- What the reset of the volumes leaves. -/
structure VolumesReset (s t : State) : Prop where
  opening : t.opening = { s.opening with volume := t.opening.volume }
  claims : t.capture.claims = s.capture.claims
  ctx : ∀ h, s.ctx h = none → t.ctx h = none
  memory : t.memory = { (if s.moving = none then s else s.abandonTransfer).memory with slots := t.memory.slots }
  keeps : s.keeps t [.links, .drain, .mem, .pending]

theorem StepFrame.freeSaveSlot (s : State) (x : Option (Fin 8)) : StepFrame s (s.freeSaveSlot x) := by
  cases x with
  | none => exact .refl s
  | some x => exact .freeSlot s x

theorem freeSaveSlot_frame (s : State) (x : Option (Fin 8)) :
    s.keeps (s.freeSaveSlot x) [.opening, .account, .mem, .drain, .links, .pending] := by
  cases x <;> simp [State.freeSaveSlot, State.keeps, Part.same]

theorem freeSaveSlot_kept (s : State) (x : Option (Fin 8)) (g : Half) : CtxKept (s.ctx g) ((s.freeSaveSlot x).ctx g) := by
  cases x with
  | none => exact .refl _
  | some x => exact (offerOnce_kept (s.setSlot x .free) g).trans (offerOnce_kept _ g)

theorem resetVolumes_reset (s : State) : VolumesReset s s.resetVolumes := by
  cases hm : s.moving with
  | none =>
    rw [resetVolumes_none hm]
    exact ⟨rfl, rfl, fun _ h => h, by rw [if_pos hm], State.keeps_refl s _⟩
  | some i =>
    have hmem : (if s.moving = none then s else s.abandonTransfer).memory = s.abandonTransfer.memory := by simp [hm]
    obtain hv | hv := State.Positioned.moving_state hm
    · have hstep := StepFrame.freeSaveSlot s.abandonTransfer (s.volume i).saveSlot
      have hframe := freeSaveSlot_frame s.abandonTransfer (s.volume i).saveSlot
      rw [resetVolumes_saving hm hv]
      refine ⟨rfl, ?_, fun h hc => ?_, ?_, ?_⟩
      · exact hstep.claims.trans (by simp)
      · refine (freeSaveSlot_kept s.abandonTransfer (s.volume i).saveSlot h).1 ?_
        simpa only [State.ctx, abandonTransfer_frame] using hc
      · rw [hmem]; exact hstep.memory
      · simp [State.keeps, Part.same] at hframe ⊢
        simp [hframe]
    · rw [resetVolumes_restoring hm hv]
      refine ⟨by simp [State.emptyTables], by simp [State.emptyTables], fun h hc => ?_, ?_, ?_⟩
      · simpa [State.emptyTables, State.ctx] using hc
      · rw [hmem]; rfl
      · simp [State.keeps, Part.same, State.emptyTables]

/-! ### The drain unit (R146) -/

/-- The queue removed and the deferred releases cleared (R146). -/
def State.drainCleared (s : State) : State :=
  { s.mapSlots fun x => { x with deferred := none } with drain := { s.drain with queue := [] } }

theorem resetDrain_eq (s : State) : s.resetDrain = s.drainCleared.orderDrain .reset := rfl

theorem drainCleared_slot (s : State) (x : Fin 8) : s.drainCleared.slot x = { s.slot x with deferred := none } :=
  mapSlots_slot s _ x

/-- A drain that ends RESET with no release held and none queued behind it (R140, R146). -/
theorem drainEnd_reset {s : State} {a : ActiveDrain} (ha : s.drain.active = some a) (hq : s.drain.queue = [])
    (hd : (s.slot a.job.slot).deferred = none) :
    s.drainEnd .reset =
      ({ s with drain := { s.drain with active := none, buffer := [] } } : State).setSlot a.job.slot
        ((s.slot a.job.slot).afterDrain a.job .reset) := by
  let s1 : State := { s with drain := { s.drain with active := none, buffer := [] } }
  let x := (s1.slot a.job.slot).afterDrain a.job .reset
  have hx : ((s1.setSlot a.job.slot x).slot a.job.slot) = x := by rw [setSlot_slot, if_pos rfl]
  have hrel : (s1.setSlot a.job.slot x).drainReleases a.job .reset =
      ⟨s1.setSlot a.job.slot x, .none, none, none, false⟩ := by
    have hxd : x.deferred = none := hd
    simp [State.drainReleases, hx, hxd]
  have hact : (s1.setSlot a.job.slot x).activateDrain = s1.setSlot a.job.slot x := by
    have hq' : (s1.setSlot a.job.slot x).drain.queue = [] := hq
    simp only [State.activateDrain, hq', ite_self]
  simp only [State.drainEnd, ha]
  change ((((s1.setSlot a.job.slot x).drainReleases a.job .reset).state.addException? _).notifyDropped
    _ _ _ _).activateDrain = _
  rw [hrel]
  exact hact

/-- What the reset of the drain unit does. -/
structure DrainReset (s t : State) : Prop where
  keeps : s.keeps t [.opening, .account, .capture, .light, .links, .mem, .pending]
  memory : t.memory = { s.memory with slots := t.memory.slots }
  deferred : ∀ x, (t.slot x).deferred = none
  slots : ∀ x, s.drains x = false → t.slot x = { s.slot x with deferred := none }
  queue : t.drain.queue = []
  idle : s.drain.active = none → t.drain.active = none
  ended : (∀ n, s.memory.burst ≠ some (.drain n)) → t.drain.active = none
  ordered : ∀ n a, s.memory.burst = some (.drain n) → s.drain.active = some a →
    t.drain.active = some { a with stall := none, ordered := some .reset }

theorem drainBurst_iff (s : State) : s.drainBurst = true ↔ ∃ n, s.memory.burst = some (.drain n) := by
  unfold State.drainBurst
  split
  · next n h => simp [h]
  · next h => simpa using h

theorem resetDrain_reset (s : State) : DrainReset s s.resetDrain := by
  rw [resetDrain_eq]
  cases ha : s.drain.active with
  | none =>
    have heq : s.drainCleared.orderDrain .reset = s.drainCleared := by
      simp only [State.orderDrain, State.drainCleared, ha]
    rw [heq]
    exact ⟨by simp [State.keeps, Part.same, State.drainCleared], rfl, fun x => by rw [drainCleared_slot],
      fun x _ => drainCleared_slot s x, rfl, fun _ => ha, fun _ => ha, fun n a _ h => by simp [ha] at h⟩
  | some a =>
    have ha' : s.drainCleared.drain.active = some a := ha
    by_cases hb : s.drainBurst = true
    · have heq : s.drainCleared.orderDrain .reset =
          s.drainCleared.setActive (some { a with stall := none, ordered := some .reset }) := by
        simp only [State.orderDrain, ha']
        exact if_pos hb
      obtain ⟨n, hn⟩ := (drainBurst_iff s).1 hb
      rw [heq]
      refine ⟨by simp [State.keeps, Part.same, State.drainCleared], rfl, fun x => ?_, fun x _ => drainCleared_slot s x,
        rfl, fun h => by simp [ha] at h, fun h => absurd hn (h n), fun m b _ h => ?_⟩
      · exact congrArg Slot.deferred (drainCleared_slot s x)
      · rw [← Option.some.inj (ha.symm.trans h)]; rfl
    · let c := s.drainCleared.setActive (some { a with stall := none, ordered := some .reset })
      have heq : s.drainCleared.orderDrain .reset = c.drainEnd .reset := by
        simp only [State.orderDrain, ha']
        exact if_neg hb
      have hslot (x : Fin 8) : c.slot x = { s.slot x with deferred := none } := drainCleared_slot s x
      rw [heq, drainEnd_reset (s := c) rfl rfl (by rw [hslot])]
      refine ⟨by simp [State.keeps, Part.same, State.drainCleared, c], rfl, fun x => ?_, fun x hx => ?_, rfl,
        fun _ => rfl, fun _ => rfl, fun n _ h _ => absurd ((drainBurst_iff s).2 ⟨n, h⟩) hb⟩
      · rw [setSlot_slot]
        split
        · exact congrArg Slot.deferred (hslot a.job.slot)
        · exact congrArg Slot.deferred (hslot x)
      · have hne : x ≠ a.job.slot := by
          have : a.job.slot ≠ x := by simpa [State.drains, ha] using hx
          exact this.symm
        rw [setSlot_slot, if_neg hne]
        exact hslot x

end Sys2Proof.Machine
end

section
/-! PROOFS. CRADLE_RESET (R24, R131, R146, R163, R189). -/

namespace Sys2Proof.Machine

open Sys2Proof

/-! ### An event that lets nothing be granted -/

/-- Outside EXPOSING the light arbiter grants nothing (R83, R85). -/
theorem decideLight_quiet {s : State} (h : s.opening.state ≠ .exposing) : s.decideLight = s := by
  have hchoose : s.chooseRequest = none := by
    have hnil : s.light.held.filter s.eligible = [] :=
      List.filter_eq_nil_iff.2 fun r _ => by simp [State.eligible, h]
    simp only [State.chooseRequest, hnil]
  simp only [State.decideLight, lightDecisions, hchoose, ite_self]

theorem arbitrate_quiet {s t : State} (h : t.opening.state ≠ .exposing)
    (hr : ∀ r, t.requests r = true → s.requests r = true) : s.arbitrate t = t := by
  have hplaced : s.decideIfPlaced t = t := by
    unfold State.decideIfPlaced
    rw [decideLight_quiet h, ite_self]
  have hbegan : (requesters.any fun r => t.requests r && !s.requests r) = false := by
    refine List.any_eq_false.2 fun r _ => ?_
    cases ht : t.requests r with
    | false => simp
    | true => simp [hr r ht]
  unfold State.arbitrate State.decideIfBegan
  rw [hplaced, hbegan]
  rfl

/-! ### The opening -/

/-- The cradle as a reset leaves it before the transfer and the drain unit are reset (R24, R189). -/
def State.cradleStopped (s : State) : State := s.emptyAllNotices.resetOpening

/-- The effect of CRADLE_RESET. -/
def State.cradleReset (s : State) : State := s.cradleStopped.resetVolumes.resetDrain

section

variable (s : State)

theorem cradleStopped_keeps : FaultKeeps s s.cradleStopped := by
  obtain ⟨hv, hm, hp, ⟨hslots, hwaits⟩, hk⟩ := resetOpening_keeps s.emptyAllNotices
  have hports (l : LinkId) : (s.link l).SamePort (s.emptyAllNotices.link l) := (Steady.refl s).emptyAllNotices.ports l
  exact ⟨hv, hm, fun l => (hports l).trans (hp l), ⟨hslots, hwaits⟩,
    keeps_of_frame (by simp [State.keeps, Part.same, State.emptyAllNotices]) hk fun _ h => h⟩

theorem cradleStopped_stays (h : ¬s.faulted) : s.cradleStopped.opening = s.opening := by
  rw [State.cradleStopped, (resetOpening_stays (s := s.emptyAllNotices) h).1]
  rfl

theorem cradleStopped_faulted (h : s.faulted) : s.cradleStopped = s.emptyAllNotices.enterFault .reset :=
  resetOpening_faulted (s := s.emptyAllNotices) h

/-- FAULT, or the state PARKED or IDLE that stays (R24). -/
theorem cradleStopped_opening :
    (s.cradleStopped.opening.k = s.opening.k ∧ s.cradleStopped.opening.seek = s.opening.seek ∧
      s.cradleStopped.opening.armCode = s.opening.armCode) ∧ s.cradleStopped.opening.state ≠ .exposing := by
  by_cases h : s.faulted
  · rw [cradleStopped_faulted s h, enterFault_opening]
    exact ⟨⟨rfl, rfl, rfl⟩, by simp⟩
  · rw [cradleStopped_stays s h]
    obtain hs | hs := (resetOpening_stays (s := s) h).2 <;> exact ⟨⟨rfl, rfl, rfl⟩, by simp [hs]⟩

theorem cradleReset_opening :
    s.cradleReset.opening = { s.cradleStopped.opening with volume := s.cradleReset.opening.volume } := by
  have hd : s.cradleReset.opening = s.cradleStopped.resetVolumes.opening :=
    (resetDrain_reset _).keeps .opening (by simp)
  rw [hd]
  exact (resetVolumes_reset _).opening

theorem cradleReset_links : s.cradleReset.links = s.cradleStopped.links :=
  ((resetDrain_reset _).keeps .links (by simp)).trans ((resetVolumes_reset _).keeps .links (by simp))

theorem cradleReset_capture : s.cradleReset.capture = s.cradleStopped.resetVolumes.capture :=
  (resetDrain_reset _).keeps .capture (by simp)

theorem cradleReset_account : s.cradleReset.account = s.cradleStopped.resetVolumes.account :=
  (resetDrain_reset _).keeps .account (by simp)

theorem cradleReset_ports (l : LinkId) : (s.link l).SamePort (s.cradleReset.link l) := by
  have hl : s.cradleReset.link l = s.cradleStopped.link l := by simp only [State.link, cradleReset_links]
  rw [hl]
  exact (cradleStopped_keeps s).ports l

/-- Entry to FAULT on the emptied queues (R16 to R18, R69, R189). -/
theorem cradleReset_faulted (h : s.faulted) :
    (∀ g, s.cradleReset.claimOf g = none) ∧
    (∀ g c, s.ctx g = some c → c.state ≠ .firing → c.state ≠ .receiving → s.cradleReset.ctx g = none) ∧
    ∀ l, (s.cradleReset.link l).notices.head? =
      some (.fault .reset s.opening.armCode s.opening.volume s.opening.k s.opening.direction) := by
  obtain ⟨-, -, hnotice, hclaim, -, hctx, -⟩ := faultEntry .reset s.emptyAllNotices
  rw [← cradleStopped_faulted s h] at hnotice hclaim hctx
  refine ⟨fun g => ?_, fun g c hc hf hr => ?_, fun l => ?_⟩
  · simp only [State.claimOf, cradleReset_capture, (resetVolumes_reset _).claims]
    exact hclaim g
  · simp only [State.ctx, cradleReset_capture]
    exact (resetVolumes_reset _).ctx g (hctx g c hc hf hr).1
  · have hempty : (s.emptyAllNotices.link l).notices = [] := by cases l <;> rfl
    have hdepth : (s.emptyAllNotices.link l).notices.length < noticeDepth l := by rw [hempty]; cases l <;> decide
    obtain ⟨rest, hrest⟩ := hnotice l hdepth
    have hl : s.cradleReset.link l = s.cradleStopped.link l := by simp only [State.link, cradleReset_links]
    rw [hl, ← hrest, hempty]
    rfl

/-! ### The volumes -/

theorem cradleStopped_moving : s.cradleStopped.moving = s.moving := by
  have hv (i : Fin 16) : (s.cradleStopped.volume i).state = (s.volume i).state := ((cradleStopped_keeps s).volumes i).state
  simp only [State.moving, hv]

theorem cradleStopped_drain : s.cradleStopped.resetVolumes.drain = s.drain :=
  ((resetVolumes_reset _).keeps .drain (by simp)).trans ((cradleStopped_keeps s).keeps .drain (by simp))

theorem cradleStopped_drains (x : Fin 8) : s.cradleStopped.resetVolumes.drains x = s.drains x := by
  simp only [State.drains, cradleStopped_drain]

variable {s}

theorem abandonTransfer_slot (u : State) (x : Fin 8) : u.abandonTransfer.slot x = u.slot x := by
  refine congrArg (fun q : Vector Slot 8 => q[x]) (?_ : u.abandonTransfer.memory.slots = u.memory.slots)
  by_cases hb : u.transferring
  · obtain ⟨n, y, hn⟩ := hb
    rw [abandonTransfer_transferring hn]
  · rw [abandonTransfer_quiet hb]
    split <;> rfl

/-- A save abandoned (R163): the entry is MOUNTED again and its slot FREE. -/
theorem cradleReset_saving {i : Fin 16} (hm : s.moving = some i) (hv : (s.volume i).state = .suspending) :
    (s.cradleReset.volume i).state = .mounted ∧ (s.cradleReset.volume i).saveSlot = none ∧
      s.cradleReset.opening.volume = some i ∧
      ∀ x, (s.volume i).saveSlot = some x → s.drains x = false → s.capture.waitOrder = [] →
        s.cradleReset.slot x = Slot.free := by
  have hk := cradleStopped_keeps s
  have hstand := hk.volumes i
  have heq := resetVolumes_saving ((cradleStopped_moving s).trans hm) (hstand.state.trans hv)
  have hvol : s.cradleReset.volume i =
      { s.cradleStopped.volume i with state := .mounted, saveSlot := none } := by
    rw [volume_congr (cradleReset_account s), heq]
    exact (setVolume_volume _ i i _).trans (if_pos rfl)
  have hopening : s.cradleReset.opening = s.cradleStopped.resetVolumes.opening :=
    (resetDrain_reset _).keeps .opening (by simp)
  refine ⟨by rw [hvol], by rw [hvol], by rw [hopening, heq]; rfl, fun x hx hd hw => ?_⟩
  have hwait : s.cradleStopped.abandonTransfer.capture.waitOrder = [] := by
    rw [(abandonTransfer_frame _).2.2.1]
    exact hk.images.waits hw
  have hslot : s.cradleStopped.resetVolumes.slot x = Slot.free := by
    rw [heq, hstand.saveSlot, hx]
    change (s.cradleStopped.abandonTransfer.freeSlot x).slot x = _
    rw [freeSlot_nil hwait, setSlot_slot, if_pos rfl]
  refine ((resetDrain_reset _).slots x ((cradleStopped_drains s x).trans hd)).trans ?_
  rw [hslot]
  rfl

/-- A restore abandoned (R163): the entry is SUSPENDED again, its slot still SAVE, and the tables are empty. -/
theorem cradleReset_restoring {i : Fin 16} (hm : s.moving = some i) (hv : (s.volume i).state = .resuming) :
    (s.cradleReset.volume i).state = .suspended ∧ s.cradleReset.account.leaves = [] ∧
      s.cradleReset.account.exceptions = [] ∧
      ∀ x, (s.slot x).state = .save → s.drains x = false →
        s.cradleReset.slot x = { s.slot x with deferred := none } := by
  have hk := cradleStopped_keeps s
  have heq := resetVolumes_restoring ((cradleStopped_moving s).trans hm) ((hk.volumes i).state.trans hv)
  have hvol : s.cradleReset.volume i = { s.cradleStopped.volume i with state := .suspended } := by
    rw [volume_congr (cradleReset_account s), heq]
    exact (setVolume_volume _ i i _).trans (if_pos rfl)
  refine ⟨by rw [hvol], by rw [cradleReset_account, heq]; rfl, by rw [cradleReset_account, heq]; rfl, fun x hx hd => ?_⟩
  have hslot : s.cradleStopped.resetVolumes.slot x = s.slot x := by
    rw [heq]
    exact (abandonTransfer_slot s.cradleStopped x).trans (hk.images.slots x hx)
  exact ((resetDrain_reset _).slots x ((cradleStopped_drains s x).trans hd)).trans (by rw [hslot])

/-! ### The memory and the engine -/

variable (s) in
theorem cradleReset_memory :
    s.cradleReset.memory =
      { (if s.moving = none then s.cradleStopped else s.cradleStopped.abandonTransfer).memory with
        slots := s.cradleReset.memory.slots } := by
  have hd := (resetDrain_reset s.cradleStopped.resetVolumes).memory
  have hv := (resetVolumes_reset s.cradleStopped).memory
  rw [cradleStopped_moving] at hv
  rw [hv] at hd
  exact hd

/-- Without a save or a restore the memory keeps all but its slots. -/
theorem cradleReset_still (hm : s.moving = none) :
    s.cradleReset.memory = { s.memory with slots := s.cradleReset.memory.slots } := by
  have h := cradleReset_memory s
  rw [if_pos hm, (cradleStopped_keeps s).memory] at h
  exact h

variable (s) in
theorem cradleStopped_burst : s.cradleStopped.memory.burst = s.memory.burst := by
  rw [(cradleStopped_keeps s).memory]

/-- With a burst of the transfer in progress the engine waits for it (log 20). -/
theorem cradleReset_transferring (hm : s.moving ≠ none) {n : Nat} {x : Bool}
    (hb : s.memory.burst = some (.engine n x)) :
    s.cradleReset.memory =
      { s.memory with
        burst := some (.engine n true), engine := { s.memory.engine with abandoned := true },
        slots := s.cradleReset.memory.slots } := by
  have h := cradleReset_memory s
  rw [if_neg hm, abandonTransfer_transferring ((cradleStopped_burst s).trans hb), (cradleStopped_keeps s).memory] at h
  exact h

/-- Without one the engine is IDLE at once, and ENTERING becomes RETENTION (R128, R131). -/
theorem cradleReset_quiet (hm : s.moving ≠ none) (hb : ¬s.transferring) :
    s.cradleReset.memory =
      { (if s.memory.mode = .entering then
          { s.memory with engine := .idle, mode := .retention, refreshTimer := none, owed := 0 }
        else { s.memory with engine := .idle }) with slots := s.cradleReset.memory.slots } := by
  have h := cradleReset_memory s
  have hb' : ¬s.cradleStopped.transferring := by
    unfold State.transferring
    rw [cradleStopped_burst]
    exact hb
  rw [if_neg hm, abandonTransfer_quiet hb', (cradleStopped_keeps s).memory] at h
  rw [h]
  by_cases he : s.memory.mode = .entering <;> simp [he]

/-- The three ways the memory goes through a cradle reset. -/
theorem cradleReset_memory_cases (P : FrameMemory → Prop)
    (still : s.moving = none → ∀ v, P { s.memory with slots := v })
    (transferring : s.moving ≠ none → ∀ n x v, s.memory.burst = some (.engine n x) →
      P { s.memory with
          burst := some (.engine n true), engine := { s.memory.engine with abandoned := true }, slots := v })
    (entering : s.moving ≠ none → ¬s.transferring → ∀ v,
      P { s.memory with engine := .idle, mode := .retention, refreshTimer := none, owed := 0, slots := v })
    (quiet : s.moving ≠ none → ¬s.transferring → ∀ v, P { s.memory with engine := .idle, slots := v }) :
    P s.cradleReset.memory := by
  by_cases hm : s.moving = none
  · rw [cradleReset_still hm]
    exact still hm _
  · by_cases hb : s.transferring
    · obtain ⟨n, x, hn⟩ := hb
      rw [cradleReset_transferring hm hn]
      exact transferring hm n x _ hn
    · rw [cradleReset_quiet hm hb]
      split
      · exact entering hm hb _
      · exact quiet hm hb _

/-! ### The drain unit, and the requesters -/

variable (s) in
/-- A burst of the drain is no matter of the engine's. -/
theorem cradleStopped_drainBurst (n : Nat) :
    s.cradleStopped.resetVolumes.memory.burst = some (.drain n) ↔ s.memory.burst = some (.drain n) := by
  have hburst : s.cradleReset.memory.burst = s.cradleStopped.resetVolumes.memory.burst := by
    unfold State.cradleReset
    rw [(resetDrain_reset _).memory]
  rw [← hburst]
  refine cradleReset_memory_cases (P := fun m => m.burst = some (.drain n) ↔ s.memory.burst = some (.drain n))
    (fun _ _ => Iff.rfl) (fun _ m x _ hb => ?_) (fun _ _ _ => Iff.rfl) (fun _ _ _ => Iff.rfl)
  simp [hb]

variable (s) in
/-- The drain unit at a cradle reset (R146, log 18). -/
theorem cradleReset_drain :
    s.cradleReset.drain.queue = [] ∧ (∀ x, (s.cradleReset.slot x).deferred = none) ∧
    ((∀ n, s.memory.burst ≠ some (.drain n)) → s.cradleReset.drain.active = none) ∧
    (∀ n a, s.memory.burst = some (.drain n) → s.drain.active = some a →
      s.cradleReset.drain.active = some { a with stall := none, ordered := some .reset }) ∧
    (s.drain.active = none → s.cradleReset.drain.active = none) := by
  obtain ⟨-, -, hdeferred, -, hqueue, hidle, hended, hordered⟩ := resetDrain_reset s.cradleStopped.resetVolumes
  simp only [ne_eq, cradleStopped_drainBurst, cradleStopped_drain] at hidle hended hordered
  exact ⟨hqueue, hdeferred, hended, hordered, hidle⟩

variable (s) in
/-- An active drain that a cradle reset leaves is ordered to end, and requests nothing more. -/
theorem cradleReset_drain_quiet : s.cradleReset.requests .drain = false := by
  obtain ⟨-, -, hended, hordered, hidle⟩ := cradleReset_drain s
  have hquiet (h : s.cradleReset.drain.active = none) : s.cradleReset.requests .drain = false := by
    simp only [State.requests, h]
  cases ha : s.drain.active with
  | none => exact hquiet (hidle ha)
  | some a =>
    by_cases hb : ∃ n, s.memory.burst = some (.drain n)
    · obtain ⟨n, hn⟩ := hb
      simp only [State.requests, hordered n a hn ha]
      rfl
    · exact hquiet (hended fun n hn => hb ⟨n, hn⟩)

/-- A cradle reset makes no requester begin to request (R126). -/
theorem cradleReset_requests (r : Requester) (hr : s.cradleReset.requests r = true) : s.requests r = true := by
  cases r
  case drain => rw [cradleReset_drain_quiet] at hr; cases hr
  all_goals
    revert hr
    simp only [State.requests, State.rx, decide_eq_true_eq]
  case refreshUrgent =>
    exact cradleReset_memory_cases (P := fun m => Config.refreshUrgent ≤ m.owed → _) (fun _ _ h => h)
      (fun _ _ _ _ _ h => h) (fun _ _ _ h => absurd h (by simp [Config.refreshUrgent])) (fun _ _ _ h => h)
  case refreshOwed =>
    exact cradleReset_memory_cases (P := fun m => 1 ≤ m.owed → _) (fun _ _ h => h)
      (fun _ _ _ _ _ h => h) (fun _ _ _ h => absurd h (by simp)) (fun _ _ _ h => h)
  case pixel h =>
    exact cradleReset_memory_cases (P := fun m => (!(m.rx.get h).fifo.isEmpty) = true → _) (fun _ _ h => h)
      (fun _ _ _ _ _ h => h) (fun _ _ _ h => h) (fun _ _ _ h => h)
  case engine =>
    exact cradleReset_memory_cases
      (P := fun m => (decide (m.engine.state ≠ .idle) && !m.engine.abandoned && decide (0 < m.engine.left)) = true → _)
      (fun _ _ h => h) (fun _ _ _ _ _ h => by simp at h) (fun _ _ _ h => by simp [Engine.idle] at h)
      (fun _ _ _ h => by simp [Engine.idle] at h)

end

/-! ### The obligation -/

theorem Passes.cradleReset : Passes (.cradleReset .S) .S ⟨0x35, []⟩ := ⟨rfl, ⟨_, rfl, rfl⟩, rfl, by simp⟩

theorem exec_cradleReset (s : State) :
    exec (.cradleReset .S) s = .next (s.ask (.cradleReset .S) fun t => t.cradleReset.openingReply .ok) := rfl

/-- CRADLE_RESET answered: nothing is granted after it. -/
theorem cradleReset_answered {s : State} (h : s.portFree .S) :
    s.ask (.cradleReset .S) (fun t => t.cradleReset.openingReply .ok) =
      (s.taken .S 0x35).cradleReset.answered .S 0x35 .ok (s.taken .S 0x35).cradleReset.openingStatus := by
  have hdrop := (cradleReset_ports (s.taken .S 0x35) .S).dropAnswer.trans (taken_dropAnswer s .S .S 0x35)
  have hstate : (s.taken .S 0x35).cradleReset.opening.state ≠ .exposing := by
    rw [cradleReset_opening]
    exact (cradleStopped_opening _).2
  rw [Passes.cradleReset.reply h rfl hdrop]
  exact arbitrate_quiet hstate fun r hr => cradleReset_requests (s := s.taken .S 0x35) r hr

/-- Settles O18: each clause by what its part of the reset does. -/
theorem cradleReset : Obligations.CradleReset := by
  intro s h
  let s0 := s.taken .S 0x35
  have hports := cradleReset_ports s0
  have hopening := cradleReset_opening s0
  obtain ⟨hrest, hstate⟩ := cradleStopped_opening s0
  obtain ⟨hqueue, hdeferred, hended, hordered, -⟩ := cradleReset_drain s0
  refine ⟨s0.cradleReset.answered .S 0x35 .ok s0.cradleReset.openingStatus, ?_, ?_, ?_, fun hf => ?_, fun hf => ?_,
    fun l hl => ?_, fun i hi => ⟨cradleReset_saving (s := s0) hi, cradleReset_restoring (s := s0) hi⟩, fun hm => ?_,
    fun hm ht => ?_, fun hm ht => ?_, hqueue, hdeferred, hended, hordered, ?_⟩
  · rw [exec_cradleReset, cradleReset_answered h]
  · exact answered_hasAnswer ((hports .S).request.trans (by simp [s0])) _ _ _
  · change s0.cradleReset.opening.k = _ ∧ s0.cradleReset.opening.seek = _ ∧ s0.cradleReset.opening.armCode = _
    rw [hopening]
    exact hrest
  · change s0.cradleReset.opening = { s.opening with volume := s0.cradleReset.opening.volume }
    rw [hopening, cradleStopped_stays s0 hf]
    rfl
  · have hfault := enterFault_opening s0.emptyAllNotices .reset
    rw [← cradleStopped_faulted s0 hf] at hfault
    rw [hfault] at hopening
    obtain ⟨hclaim, hctx, hnotice⟩ := cradleReset_faulted s0 hf
    have hline : s0.cradleReset.faultLine = true := by rw [State.faultLine, hopening]; rfl
    refine ⟨congrArg Opening.state hopening, congrArg Opening.cause hopening, congrArg Opening.settle hopening,
      congrArg Opening.turn hopening, congrArg Opening.direction hopening, hline, hclaim, hctx, fun l => ?_⟩
    refine Eq.trans ?_ (hnotice l)
    rw [answered_link]
    split
    · next hl => rw [hl]
    · rfl
  · have hl' := hports l
    rw [taken_link, if_neg hl] at hl'
    rw [answered_link, if_neg hl]
    exact ⟨hl'.request, hl'.answerDue, hl'.response⟩
  · have hmem := cradleReset_still (s := s0) hm
    exact ⟨(congrArg FrameMemory.engine hmem :), (congrArg FrameMemory.mode hmem :), (congrArg FrameMemory.burst hmem :)⟩
  · obtain ⟨n, x, hn⟩ := ht
    have hmem := cradleReset_transferring (s := s0) hm hn
    refine ⟨(congrArg FrameMemory.engine hmem :), (congrArg FrameMemory.mode hmem :), fun m y hy => ?_⟩
    obtain ⟨rfl, rfl⟩ : n = m ∧ x = y := by simpa [hn] using hy
    exact (congrArg FrameMemory.burst hmem :)
  · have hmem := cradleReset_quiet (s := s0) hm ht
    change s0.cradleReset.memory.engine = _ ∧ s0.cradleReset.memory.burst = _ ∧
      (_ → s0.cradleReset.memory.mode = _ ∧ s0.cradleReset.memory.refreshTimer = _ ∧ s0.cradleReset.memory.owed = _) ∧
      (_ → s0.cradleReset.memory.mode = _ ∧ s0.cradleReset.memory.refreshTimer = _ ∧ s0.cradleReset.memory.owed = _)
    rw [hmem]
    by_cases he : s0.memory.mode = .entering
    · rw [if_pos he]
      exact ⟨rfl, rfl, fun _ => ⟨rfl, rfl, rfl⟩, fun hn => absurd he hn⟩
    · rw [if_neg he]
      exact ⟨rfl, rfl, fun hn => absurd hn he, fun _ => ⟨rfl, rfl, rfl⟩⟩
  · have hmem : s0.keeps s0.cradleReset [.mem, .pending] :=
      keeps_of_frame (keeps_of_frame (fun p hp => (cradleStopped_keeps s0).keeps p (by revert hp; simp; tauto))
        (resetVolumes_reset _).keeps (by simp)) (resetDrain_reset _).keeps (by simp)
    exact keeps_answered (keeps_of_taken hmem (by simp)) (by simp)

end Sys2Proof.Machine
end

section
/-! PROOFS. TURN_ASK (R28 to R30) and TURN_END (R34 to R39) in every opening state. -/

namespace Sys2Proof.Machine

open Sys2Proof

theorem Passes.turnAsk : Passes (.turnAsk .A) .A ⟨0x70, []⟩ :=
  ⟨rfl, ⟨_, rfl, rfl⟩, rfl, by simp⟩

theorem Passes.turnEnd (count : Byte) : Passes (.turnEnd .A count) .A ⟨0x72, [count]⟩ :=
  ⟨rfl, ⟨_, rfl, rfl⟩, rfl, by simp [Config.maxRequestBody]⟩

/-! ### TURN_ASK -/

/-- TURN_ASK by opening state (R28). -/
theorem exec_turnAsk (s : State) :
    ∃ act, exec (.turnAsk .A) s = .next (s.ask (.turnAsk .A) act) ∧
      ∀ t : State,
        (t.opening.state = .turnable → act t = t.grantTurn.armReply .grant) ∧
        (t.opening.state = .turning → act t = t.armReply .grant) ∧
        (t.opening.state = .settling ∨ t.opening.state = .ready ∨ t.opening.state = .exposing →
          act t = t.armReply .wait) ∧
        (t.opening.state = .finished → act t = t.armReply .endOfVolume) ∧
        (t.opening.state = .idle → act t = t.armReply .noVolume) ∧
        (t.opening.state = .fault → act t = t.armReply .fault) ∧
        (t.opening.state = .parked → act t = t.armReply .state) := by
  refine ⟨_, rfl, fun t => ?_⟩
  cases h : t.opening.state <;> simp

theorem turnTimeout_mounted {s : State} {i : Fin 16} (h : s.opening.volume = some i) :
    s.turnTimeout = 1000 * (s.volume i).turn := by
  simp only [State.turnTimeout, h]

/-- Settles O22: only a grant changes the opening record, and a port reset keeps it. -/
theorem turnAsk : Obligations.TurnAsk := by
  refine ⟨fun s h => ?_, fun s => ⟨_, rfl, portReset_opening s .A⟩⟩
  obtain ⟨act, hexec, hact⟩ := exec_turnAsk s
  obtain ⟨hturnable, hturning, hwait, hfinished, hidle, hfault, hparked⟩ := hact (s.taken .A 0x70)
  have hc := Passes.turnAsk
  rw [hexec]
  refine ⟨fun hs => congrArg _ ?_, fun hs => congrArg _ (hc.pure h (hturning hs)),
    fun hs => congrArg _ (hc.pure h (hwait hs)), fun hs => congrArg _ (hc.pure h (hfinished hs)),
    fun hs => congrArg _ (hc.pure h (hidle hs)), fun hs => congrArg _ (hc.pure h (hfault hs)),
    fun hs => congrArg _ (hc.pure h (hparked hs)), fun _ => turnTimeout_mounted⟩
  rw [hc.quiet h (hturnable hs) rfl rfl rfl rfl]
  exact answered_taken (s := s.grantTurn) h 0x70 .grant _

/-! ### The count applied (R35 to R38) -/

@[simp] theorem addDoubleTurn_opening (s : State) (never : Nat) : (s.addDoubleTurn never).opening = s.opening := by
  simp [State.addDoubleTurn]

theorem addDoubleTurn_ports (s : State) (never : Nat) (l : LinkId) :
    (s.link l).SamePort ((s.addDoubleTurn never).link l) :=
  (Steady.refl s).addException.addException.ports l

theorem moveTo_ports (s : State) (k : Nat) (l : LinkId) : (s.link l).SamePort ((s.moveTo k).link l) :=
  samePort_of_eq (enterSettling_ports _ l) rfl

/-- The move with the seek target written out (R35, R37). -/
theorem moveTo_of_seek {s : State} {x : Option Nat} (h : s.opening.seek = x) (n : Nat) :
    s.moveTo n =
      (s.setOpening { s.opening with k := n, seek := if x = some n then none else x }).enterSettling := by
  rw [State.moveTo, h]

section
variable {s : State} {k : Nat}

theorem applyCount_zero (hk : s.opening.k = k) (d : Direction) :
    s.applyCount d 0 = (s.addException (turnException .missedTurn none k 0)).enterSettling := by
  subst hk
  cases d <;> rfl

theorem applyCount_one_forward (hk : s.opening.k = k) : s.applyCount .forward 1 = s.moveTo (k + 1) := by
  subst hk; rfl

theorem applyCount_one_backward (hk : s.opening.k = k) : s.applyCount .backward 1 = s.moveTo (k - 1) := by
  subst hk; rfl

theorem applyCount_two_forward (hk : s.opening.k = k) (h : k + 2 ≤ s.leaves) :
    s.applyCount .forward 2 = (s.addDoubleTurn (k + 1)).moveTo (k + 2) := by
  subst hk; exact if_pos h

theorem applyCount_two_forward_lost (hk : s.opening.k = k) (h : s.leaves < k + 2) :
    s.applyCount .forward 2 = s.enterFault .lostPosition := by
  subst hk; exact if_neg (Nat.not_le.2 h)

theorem applyCount_two_backward (hk : s.opening.k = k) (h : 2 ≤ k) :
    s.applyCount .backward 2 = (s.addDoubleTurn (k - 1)).moveTo (k - 2) := by
  subst hk; exact if_pos h

theorem applyCount_two_backward_lost (hk : s.opening.k = k) (h : k < 2) :
    s.applyCount .backward 2 = s.enterFault .lostPosition := by
  subst hk; exact if_neg (Nat.not_le.2 h)

theorem applyCount_three (d : Direction) : s.applyCount d 3 = s.enterFault .lostPosition := by
  cases d <;> rfl

end

/-- A count applied leaves the ports as they are: the arm's answer is still due. -/
theorem applyCount_ports (s : State) (d : Direction) (c : Nat) (l : LinkId) :
    (s.link l).SamePort ((s.applyCount d c).link l) := by
  have hdouble (never k : Nat) : (s.link l).SamePort (((s.addDoubleTurn never).moveTo k).link l) :=
    (addDoubleTurn_ports s never l).trans (moveTo_ports _ k l)
  unfold State.applyCount
  dsimp only
  split
  · exact ((Steady.refl s).addException.ports l).trans (enterSettling_ports _ l)
  · exact moveTo_ports s _ l
  · exact moveTo_ports s _ l
  · split
    · exact hdouble _ _
    · exact enterFault_ports s _ l
  · split
    · exact hdouble _ _
    · exact enterFault_ports s _ l
  · exact enterFault_ports s _ l

/-! ### TURN_END -/

/-- TURN_END by opening state (R34). -/
theorem exec_turnEnd (count : Byte) (s : State) :
    ∃ act, exec (.turnEnd .A count) s = .next (s.ask (.turnEnd .A count) act) ∧
      ∀ t : State,
        (t.opening.state = .fault → act t = t.armReply .tooLate) ∧
        (t.opening.state ≠ .fault → t.opening.state ≠ .turning → act t = t.armReply .state) ∧
        (t.opening.state = .turning → 3 < count.toNat → act t = t.armReply .range) ∧
        (t.opening.state = .turning → count.toNat ≤ 3 → act t = (t.endTurn count.toNat).armReply .ok) := by
  refine ⟨_, rfl, fun t => ?_⟩
  cases h : t.opening.state <;> simp +contextual [Nat.not_lt.2]

/-- TURN_END taken in TURNING, with the turn timer stopped (R34). -/
def State.turnStopped (s : State) : State := (s.taken .A 0x72).setOpening { s.opening with turn := none }

theorem turnStopped_k (s : State) : s.turnStopped.opening.k = s.opening.k := rfl
theorem turnStopped_seek (s : State) : s.turnStopped.opening.seek = s.opening.seek := rfl

/-- A count within 0..3 is applied in the granted direction and answered OK (R34). -/
theorem exec_turnEnd_applied {count : Byte} {d : Direction} {n : Nat} {s t : State} (h : s.portFree .A)
    (hs : s.opening.state = .turning) (hd : s.opening.direction.getD .forward = d) (hn : count.toNat = n) (hc : n ≤ 3)
    (ht : s.turnStopped.applyCount d n = t) :
    exec (.turnEnd .A count) s = .next (s.arbitrate (t.answered .A 0x72 .ok t.armView)) := by
  obtain ⟨act, hexec, hact⟩ := exec_turnEnd count s
  obtain ⟨-, -, -, happlied⟩ := hact (s.taken .A 0x72)
  have hdrop := (applyCount_ports s.turnStopped d n .A).dropAnswer
  subst hd hn ht
  rw [hexec]
  exact congrArg _ ((Passes.turnEnd count).reply h (happlied hs hc) hdrop)

/-- Settles O23: outside TURNING and above 3 nothing but the answer; each count otherwise by its row of R35 to R38. -/
theorem turnEnd : Obligations.TurnEnd := by
  intro count s h
  obtain ⟨act, hexec, hact⟩ := exec_turnEnd count s
  obtain ⟨hfault, hother, hrange, -⟩ := hact (s.taken .A 0x72)
  have hp := Passes.turnEnd count
  have hk := turnStopped_k s
  have hseek := turnStopped_seek s
  have hdouble (never : Nat) : (s.turnStopped.addDoubleTurn never).opening.seek = s.opening.seek := by
    rw [addDoubleTurn_opening, hseek]
  refine ⟨fun hs => ?_, fun h1 h2 => ?_, fun hs => ⟨fun hc => ?_, ?_, ?_, fun hd => ?_, fun hd => ?_⟩⟩
  · exact hexec.trans (congrArg _ (hp.pure h (hfault hs)))
  · exact hexec.trans (congrArg _ (hp.pure h (hother h1 h2)))
  · exact hexec.trans (congrArg _ (hp.pure h (hrange hs hc)))
  · rintro rfl
    exact exec_turnEnd_applied h hs rfl rfl (by decide) (applyCount_three _)
  · rintro rfl
    exact exec_turnEnd_applied h hs rfl rfl (by decide) (applyCount_zero hk _)
  · have hd : s.opening.direction.getD .forward = .forward := by rw [hd, Option.getD_some]
    refine ⟨?_, ?_, ?_⟩
    · rintro rfl
      exact exec_turnEnd_applied h hs hd rfl (by decide)
        ((applyCount_one_forward hk).trans (moveTo_of_seek hseek _))
    · rintro rfl hn
      exact exec_turnEnd_applied h hs hd rfl (by decide)
        ((applyCount_two_forward hk hn).trans (moveTo_of_seek (hdouble _) _))
    · rintro rfl hn
      exact exec_turnEnd_applied h hs hd rfl (by decide) (applyCount_two_forward_lost hk hn)
  · have hd : s.opening.direction.getD .forward = .backward := by rw [hd, Option.getD_some]
    refine ⟨?_, ?_, ?_⟩
    · rintro rfl
      exact exec_turnEnd_applied h hs hd rfl (by decide)
        ((applyCount_one_backward hk).trans (moveTo_of_seek hseek _))
    · rintro rfl hn
      exact exec_turnEnd_applied h hs hd rfl (by decide)
        ((applyCount_two_backward hk hn).trans (moveTo_of_seek (hdouble _) _))
    · rintro rfl hn
      exact exec_turnEnd_applied h hs hd rfl (by decide) (applyCount_two_backward_lost hk hn)

end Sys2Proof.Machine
end

section
/-! PROOFS. Power-on reset of the blocks (R44, R71, R78, R81, R110, R116, R127 to R129, R133, R148, R181), and the rows of
the outcome table (R61 to R63). -/

namespace Sys2Proof.Machine

open Sys2Proof

/-! ### Power-on reset -/

/-- The entry of a bank that power-on reset fills with one value. -/
theorem getElem_replicate_fin {α : Type} {n : Nat} (a : α) (i : Fin n) : (Vector.replicate n a)[i] = a := by
  rw [Fin.getElem_fin, Vector.getElem_replicate]

/-- Settles O4: each block has its reset value; a bank holds that value at every index. -/
theorem powerOnBlocks : Obligations.PowerOnBlocks := fun s =>
  ⟨_, rfl, getElem_replicate_fin Volume.empty, rfl, rfl, getElem_replicate_fin Lamp.reset,
    getElem_replicate_fin Program.empty, ⟨rfl, rfl, rfl, rfl, rfl, rfl⟩, rfl, getElem_replicate_fin Slot.free,
    fun h => by cases h <;> exact ⟨rfl, rfl, rfl, rfl, rfl, rfl, rfl, rfl, rfl, rfl⟩, ⟨rfl, rfl, rfl, rfl, rfl, rfl⟩, rfl,
    fun l => by cases l <;> rfl, rfl⟩

/-! ### The questions of R61 and R62 -/

theorem damaged_iff (r : StepResult) : r.damaged = true ↔ ∃ x, r.sealStatus = some x ∧ x ≠ .good := by
  unfold StepResult.damaged
  split
  · next h => simp [h]
  · next h => simp [h]
  · next x hx h => exact ⟨fun _ => ⟨x, h, hx⟩, fun _ => rfl⟩

theorem anyDamaged_iff (c : Ctx) :
    c.anyDamaged = true ↔ ∃ r ∈ c.results, ∃ x, r.sealStatus = some x ∧ x ≠ .good := by
  simp only [Ctx.anyDamaged, List.any_eq_true, damaged_iff]

theorem anySealed_false (c : Ctx) : c.anySealed = false ↔ ∀ r ∈ c.results, r.sealStatus = none := by
  simp [Ctx.anySealed]

theorem lastDimmed_iff (c : Ctx) : c.lastDimmed = true ↔ ∃ r, c.results.getLast? = some r ∧ r.dimmed = true := by
  unfold Ctx.lastDimmed
  split
  · next h => simp [h]
  · next r h => simp [h]

theorem onDimmed_iff (x : StopRule) : x.onDimmed = true ↔ x = .onDim ∨ x = .onEither := by
  cases x <;> simp [StopRule.onDimmed]

/-- The end causes of R62 row 4. -/
theorem failure_isSome_iff (c : Ctx) :
    c.failure.isSome = true ↔
      c.cause = some .noSlot ∨ c.cause = some .lampUnavailable ∨ c.cause = some .frameMissing ∨
        c.cause = some .frameTooLarge ∨ c.cause = some .partnerLate := by
  unfold Ctx.failure
  split
  · next h => simp [h]
  · next k h => cases k <;> simp [h, EndCause.failure]

/-! ### The first row of R62 that holds -/

section
variable {c : Ctx}

theorem outcome_cancelled (h : c.order = some .cancelled) : c.outcome = .cancelled := by
  simp [Ctx.outcome, h]

theorem outcome_held (ho : c.order = none) (h : c.cause = some .held) : c.outcome = .held := by
  simp [Ctx.outcome, ho, h]

theorem outcome_failed (ho : c.order = none) (hh : c.cause ≠ some .held)
    (h : c.failure.isSome = true ∨ c.anyDamaged = true) : c.outcome = .failed := by
  simp [Ctx.outcome, ho, hh, h]

/-- An end by the partner's, with no frame sealed (R62 row 5). -/
theorem outcome_partnerEnded (ho : c.order = none) (h : c.cause = some .partnerEnded) (hs : c.anySealed = false) :
    c.outcome = .cancelled := by
  have hd : c.anyDamaged = false := by
    rw [← Bool.not_eq_true, anyDamaged_iff]
    rintro ⟨r, hr, x, hx, -⟩
    rw [(anySealed_false c).1 hs r hr] at hx
    cases hx
  simp [Ctx.outcome, Ctx.failure, EndCause.failure, ho, h, hs, hd]

/-- Rows 6 and 7. -/
theorem outcome_success (ho : c.order = none) (hh : c.cause ≠ some .held)
    (hf : ¬(c.failure.isSome = true ∨ c.anyDamaged = true)) (hp : ¬(c.cause = some .partnerEnded ∧ c.anySealed = false)) :
    c.outcome =
      if (c.cause = some .stop ∧ c.lastDimmed = true ∧ c.copy.stop.onDimmed = true) ∨
        (c.cause = some .partnerEnded ∧ 0 < c.remaining) then .shortened else .complete := by
  have hf' : (c.failure.isSome || c.anyDamaged) = false := by
    rw [← Bool.not_eq_true, Bool.or_eq_true]
    exact hf
  simp only [Ctx.outcome, ho, hh, hf', hp, reduceCtorEq, Bool.false_eq_true, if_false]

theorem sideAfter_succeeds (h : c.outcome = .complete ∨ c.outcome = .shortened) (d : Bool) :
    c.sideAfter d = if d = true then .reshoot else .captured := by
  obtain h | h := h <;> simp [Ctx.sideAfter, h, CaptureOutcome.succeeds]

theorem sideAfter_held (h : c.outcome = .held) (d : Bool) : c.sideAfter d = .held := by
  simp [Ctx.sideAfter, h, CaptureOutcome.succeeds]

theorem sideAfter_undone (h : c.outcome = .failed ∨ c.outcome = .cancelled ∨ c.outcome = .aborted) (d : Bool) :
    c.sideAfter d = c.prior.toSide := by
  obtain h | h | h := h <;> simp [Ctx.sideAfter, h, CaptureOutcome.succeeds]

end

/-- Settles O28: the rows of R62 in order. -/
theorem outcomeRows : Obligations.OutcomeRows := by
  intro c
  have hfailing : (c.failure.isSome = true ∨ c.anyDamaged = true) ↔
      c.cause = some .noSlot ∨ c.cause = some .lampUnavailable ∨ c.cause = some .frameMissing ∨
        c.cause = some .frameTooLarge ∨ c.cause = some .partnerLate ∨
        ∃ r ∈ c.results, ∃ x, r.sealStatus = some x ∧ x ≠ .good := by
    rw [failure_isSome_iff, anyDamaged_iff]
    simp only [or_assoc]
  dsimp only
  rw [← hfailing, ← anySealed_false c, ← onDimmed_iff, ← lastDimmed_iff]
  refine ⟨outcome_aborted, outcome_cancelled, fun ho => ⟨outcome_held ho, fun hh => ⟨outcome_failed ho hh, fun hf =>
    ⟨outcome_partnerEnded ho, fun hp => ?_⟩⟩⟩, fun h => ⟨sideAfter_succeeds h false, sideAfter_succeeds h true⟩,
    fun d h => sideAfter_held h d, fun d h => sideAfter_undone h d⟩
  rw [outcome_success ho hh hf hp]
  exact ⟨fun h => if_pos h, fun h => if_neg h⟩

end Sys2Proof.Machine
end

section
/-! PROOFS. The words of a header (R116 to R118) and the seal of a frame (R123, R124). -/

namespace Sys2Proof.Machine

open Sys2Proof

/-! ### Receivers that request nothing more -/

/-- Requesters ask the same when the FIFOs, the owed count, the engine and the drain unit are the same. -/
theorem requests_of_fifos {s t : State} (hf : ∀ g, (t.rx g).fifo = (s.rx g).fifo) (ho : t.memory.owed = s.memory.owed)
    (he : t.memory.engine = s.memory.engine) (hd : t.drain = s.drain) : t.requests = s.requests := by
  funext r
  cases r <;> simp only [State.requests, hf, ho, he, hd]

theorem arbitrate_of_fifos {s t : State} (hl : t.light.held = s.light.held) (hf : ∀ g, (t.rx g).fifo = (s.rx g).fifo)
    (ho : t.memory.owed = s.memory.owed) (he : t.memory.engine = s.memory.engine) (hd : t.drain = s.drain) :
    s.arbitrate t = t :=
  arbitrate_eq (by simp [hl]) (by simp [requests_of_fifos hf ho he hd])

/-- A receiver that keeps its FIFO. -/
theorem setRx_fifo {s : State} {h : Half} {r : Receiver} (hr : r.fifo = (s.rx h).fifo) (g : Half) :
    ((s.setRx h r).rx g).fifo = (s.rx g).fifo := by
  rw [setRx_rx]
  split
  · next hg => rw [hg, hr]
  · rfl

/-- A receiver that keeps its FIFO begins nothing at the arbiters. -/
theorem arbitrate_setRx {s : State} {h : Half} {r : Receiver} (hr : r.fifo = (s.rx h).fifo) :
    s.arbitrate (s.setRx h r) = s.setRx h r :=
  arbitrate_of_fifos rfl (setRx_fifo hr) rfl rfl rfl

/-! ### The header's checks (R117) -/

section
variable {h : Half} {x : Option Ctx} {c : Ctx} {header : List Word}

theorem checkHeader_unwanted (hc : ∀ c, x = some c → c.state ≠ .awaitFrame) :
    checkHeader h x header = some .noFrameWanted := by
  cases x with
  | none => rfl
  | some c => simp [checkHeader, hc c rfl]

/-- The checks in order for a context that awaits its frame. -/
theorem checkHeader_awaited (hc : c.state = .awaitFrame) :
    checkHeader h (some c) header =
      if headerNat header 2 / 256 ≠ halfCode h then some .wrongSide
      else if headerNat header 1 ≠ c.id ∨ headerNat header 2 % 256 ≠ c.step then some .noMatch
      else if headerNat header 3 < 1 ∨ 8192 < headerNat header 3 ∨ headerNat header 4 < 1 ∨ 8192 < headerNat header 4 then
        some .badSize
      else if Config.slotWords < headerNat header 3 * headerNat header 4 then some .tooLarge else none := by
  simp only [checkHeader, hc]
  rfl

end

section
variable {s : State} {h : Half} {header : List Word}

theorem headerComplete_refused {x : HeaderRefusal} (hx : checkHeader h (s.ctx h) header = some x) (hne : x ≠ .tooLarge) :
    s.headerComplete h header = s.setRx h ((s.rx h).refuse x) := by
  unfold State.headerComplete
  split
  · next heq => exact absurd (Option.some.inj (hx.symm.trans heq)) hne
  · next y heq => rw [Option.some.inj (hx.symm.trans heq)]
  · next heq => rw [hx] at heq; cases heq

theorem headerComplete_tooLarge {c : Ctx} (hc : s.ctx h = some c)
    (hx : checkHeader h (some c) header = some .tooLarge) :
    s.headerComplete h header =
      ((s.setRx h ((s.rx h).refuse .tooLarge)).setCtx h
        (some { c with cause := some .frameTooLarge, heldCap := none })).endCapture h := by
  simp only [State.headerComplete, hc, hx, State.setCause, setRx_ctx]

theorem headerComplete_accepted {c : Ctx} (hc : s.ctx h = some c) (hx : checkHeader h (some c) header = none) :
    s.headerComplete h header = s.acceptHeader h c header := by
  simp only [State.headerComplete, hc, hx]

end

/-- An accepted header begins nothing at the arbiters: the FIFO stays as it is. -/
theorem acceptHeader_arbitrate (s : State) (h : Half) (c : Ctx) (header : List Word) :
    s.arbitrate (s.acceptHeader h c header) = s.acceptHeader h c header := by
  cases hs : c.slot with
  | none =>
    simp only [State.acceptHeader, hs]
    exact arbitrate_of_fifos rfl (setRx_fifo (s := s) (r := (s.rx h).accept header none) rfl) rfl rfl rfl
  | some i =>
    simp only [State.acceptHeader, hs]
    exact arbitrate_of_fifos rfl (setRx_fifo (s := s) (r := (s.rx h).accept header (some i)) rfl) rfl rfl rfl

/-- A receiver that takes a header word as its eighth. -/
theorem exec_frameHeader {s : State} {h : Half} (hs : (s.rx h).state = .header) (hl : (s.rx h).header.length = 7)
    (w : Word) : exec (.frameHeader h w) s = .next (s.arbitrate (s.headerComplete h ((s.rx h).header ++ [w]))) := by
  change Host.Outcome.next (s.arbitrate _) = _
  simp only [hs, hl, if_true]

theorem exec_frameHeader_other {s : State} {h : Half} (hn : (s.rx h).state ≠ .header ∨ (s.rx h).header.length ≠ 7)
    (w : Word) : exec (.frameHeader h w) s = .next s := by
  refine congrArg Host.Outcome.next ((congrArg s.arbitrate ?_).trans (arbitrate_same rfl rfl rfl))
  split
  · next hs => exact if_neg (hn.resolve_left (· hs))
  · rfl

/-- Settles O39: HUNT and HEADER by the receiver's state, then the checks of R117 in order. -/
theorem headerWords : Obligations.HeaderWords := by
  intro h w s
  refine ⟨⟨fun hn => ?_, fun hs hw => ?_⟩, ⟨fun hn => ?_, fun hs hl => ?_⟩, fun hn => exec_frameHeader_other hn w,
    fun hs hl => ?_⟩
  · refine congrArg Host.Outcome.next ?_
    split
    · next hs => exact if_neg (hn.resolve_left (· hs))
    · rfl
  · subst hw
    exact congrArg Host.Outcome.next (by rw [hs]; rfl)
  · refine congrArg Host.Outcome.next ?_
    split
    · next hs => exact if_neg (Nat.not_lt.2 (hn.resolve_left (· hs)))
    · rfl
  · refine congrArg Host.Outcome.next ?_
    simp only [hs, hl, if_true]
  · rw [exec_frameHeader hs hl]
    have hrefused {x : HeaderRefusal} (hx : checkHeader h (s.ctx h) ((s.rx h).header ++ [w]) = some x)
        (hne : x ≠ .tooLarge) : s.arbitrate (s.headerComplete h ((s.rx h).header ++ [w])) =
          s.setRx h ((s.rx h).refuse x) := by
      rw [headerComplete_refused hx hne]
      exact arbitrate_setRx (r := (s.rx h).refuse x) rfl
    refine ⟨fun hc => congrArg _ (hrefused (checkHeader_unwanted hc) (by simp)), fun c hc hw => ?_⟩
    have hcheck := checkHeader_awaited (h := h) (header := (s.rx h).header ++ [w]) hw
    rw [hc] at hrefused
    refine ⟨fun h1 => congrArg _ (hrefused (hcheck.trans (if_pos h1)) (by simp)),
      fun h1 h2 => congrArg _ (hrefused (hcheck.trans ((if_neg h1).trans (if_pos h2))) (by simp)),
      fun h1 h2 h3 => congrArg _ (hrefused (hcheck.trans ((if_neg h1).trans ((if_neg h2).trans (if_pos h3)))) (by simp)),
      fun h1 h2 h3 h4 => congrArg _ (congrArg _ (headerComplete_tooLarge hc
        (hcheck.trans ((if_neg h1).trans ((if_neg h2).trans ((if_neg h3).trans (if_pos h4))))))),
      fun h1 h2 h3 h4 => ?_⟩
    have haccept := headerComplete_accepted hc
      (hcheck.trans ((if_neg h1).trans ((if_neg h2).trans ((if_neg h3).trans (if_neg (Nat.not_lt.2 h4))))))
    rw [haccept, acceptHeader_arbitrate]
    refine ⟨fun hn => ?_, fun i hi => ?_⟩
    · simp only [State.acceptHeader, hn]
      rfl
    · simp only [State.acceptHeader, hi]
      rfl

/-! ### The seal -/

section
variable {s : State} {h : Half} {res : Seal}

theorem sealIfReady_waits (hs : (s.rx h).state = .sealing) (hr : (s.rx h).result = some res)
    (hn : (s.rx h).fifo ≠ [] ∨ s.pixelBurst h = true) : s.sealIfReady h = s := by
  simp only [State.sealIfReady, hs, hr]
  refine if_neg ?_
  obtain hn | hn := hn <;> simp [hn]

theorem sealIfReady_seals (hs : (s.rx h).state = .sealing) (hr : (s.rx h).result = some res)
    (hf : (s.rx h).fifo = []) (hb : s.pixelBurst h = false) : s.sealIfReady h = s.sealFrame h res := by
  simp only [State.sealIfReady, hs, hr]
  exact if_pos (by simp [hf, hb])

/-- The seal status of a frame: CANCELLED when its receiver is marked (R123, R124). -/
def Receiver.sealAs (r : Receiver) (res : Seal) : Seal := if r.cancelMark then .cancelled else res

/-- The slot of a frame sealed (R124 step 1). -/
def Slot.sealedBy (y : Slot) (r : Receiver) (res : Seal) : Slot :=
  { y with
    state := .sealed, sealStatus := some (r.sealAs res), crcComputed := r.crc.map (~~~ ·),
    crcReceived := r.crcReceived, committed := false }

/-- The slot of a frame sealed, and its notice (R124 steps 1 to 3). -/
def State.sealSlot (s : State) (h : Half) (res : Seal) (i : Fin 8) : State :=
  (s.setSlot i ((s.slot i).sealedBy (s.rx h) res)).notify .S
    (.slotSealed i (s.slot i).volume (s.slot i).captureId (s.slot i).side (s.slot i).step ((s.rx h).sealAs res)
      (s.slot i).size (s.slot i).words)

theorem sealSlot_memory (i : Fin 8) :
    (s.sealSlot h res i).memory = (s.setSlot i ((s.slot i).sealedBy (s.rx h) res)).memory :=
  (notify_frame _ _ _).2.2.2.2.1

theorem sealSlot_ctx (i : Fin 8) (g : Half) : (s.sealSlot h res i).ctx g = s.ctx g := rfl

theorem sealFrame_slotted {i : Fin 8} (hi : (s.rx h).slot = some i) :
    s.sealFrame h res =
      ((s.sealSlot h res i).handReport h i ((s.rx h).sealAs res)).setRx h (s.rx h).afterSeal := by
  simp only [State.sealFrame, hi]
  rfl

theorem handReport_ctx_other (u : State) (h : Half) (i : Fin 8) (st : Seal) :
    (u.handReport h i st).ctx (otherHalf h) = u.ctx (otherHalf h) := by
  unfold State.handReport
  split
  · rfl
  · split
    · exact (setCtx_ctx ..).trans (if_neg (ne_otherHalf h))
    · rfl

theorem handReport_receiving {u : State} {c : Ctx} (hc : u.ctx h = some c) (hs : c.state = .receiving) (i : Fin 8)
    (st : Seal) : (u.handReport h i st).ctx h = some { c with report := some (i, st) } := by
  simp only [State.handReport, hc, hs, if_true, setCtx_ctx]

end

/-- Settles O41: a seal waits, or is `sealFrame` on its slot; each clause by the update it names. -/
theorem frameSeals : Obligations.FrameSeals := by
  intro h s res hs hr
  refine ⟨sealIfReady_waits hs hr, fun hf hb i hi => ?_⟩
  have heq := (sealIfReady_seals hs hr hf hb).trans (sealFrame_slotted hi)
  obtain ⟨-, -, -, hreported, -, -, hlinks, -⟩ := handReport_frame (s.sealSlot h res i) h i ((s.rx h).sealAs res)
  have hmemory := hreported.trans (sealSlot_memory (res := res) i)
  have hslot (j : Fin 8) : (s.sealIfReady h).slot j =
      if j = i then (s.slot i).sealedBy (s.rx h) res else s.slot j := by
    rw [heq, ← setSlot_slot s i j]
    exact (congrArg (fun m : FrameMemory => m.slots[j]) hmemory :)
  have hrx (g : Half) : (s.sealIfReady h).rx g = if g = h then (s.rx h).afterSeal else s.rx g := by
    rw [heq, setRx_rx]
    split
    · rfl
    · exact (congrArg (fun m : FrameMemory => m.rx.get g) hmemory :)
  refine ⟨(hslot i).trans (if_pos rfl), fun j hj => (hslot j).trans (if_neg hj), ?_, fun c hc hw => ?_, ?_, ?_, ?_, ?_⟩
  · rw [heq]; exact hlinks
  · rw [heq]; exact handReport_receiving ((sealSlot_ctx i h).trans hc) hw i _
  · rw [heq]; exact (handReport_ctx_other _ h i _).trans (sealSlot_ctx i _)
  · rw [hrx, if_pos rfl]
    exact ⟨rfl, rfl, rfl⟩
  · rw [hrx, if_neg (ne_otherHalf h)]
  · simp [State.keeps, Part.same]

end Sys2Proof.Machine
end

section
/-! PROOFS. The ends of a claim (R48, R49) and CANCEL by the context state (R68, R123). -/

namespace Sys2Proof.Machine

open Sys2Proof

/-! ### Claims that end -/

theorem Passes.unclaim (h : Half) : Passes (.unclaim (cameraLink h)) (cameraLink h) ⟨0x61, []⟩ :=
  ⟨rfl, ⟨_, rfl, roleAllows_camera h⟩, rfl, by simp⟩

/-- UNCLAIM on a camera's link (R49). -/
theorem exec_unclaim (h : Half) (s : State) :
    ∃ act, exec (.unclaim (cameraLink h)) s = .next (s.ask (.unclaim (cameraLink h)) act) ∧
      ∀ t : State, act t = t.unclaim h :=
  ⟨_, rfl, fun t => by simp⟩

theorem unclaim_none {s : State} {h : Half} (hc : s.claimOf h = none) :
    s.unclaim h = ⟨s, .ok, s.unclaimBody ((s.presentLeaf h).map fun j => (j, faceOf h))⟩ := by
  simp only [State.unclaim, hc]

theorem unclaim_some {s : State} {h : Half} {c : Claim} (hc : s.claimOf h = some c) :
    s.unclaim h =
      ⟨(s.endClaim h false).evaluate, .ok, (s.endClaim h false).evaluate.unclaimBody (some (c.leaf, faceOf h))⟩ := by
  simp only [State.unclaim, hc]

theorem unclaimBody_some (s : State) (f : Face) (j : Nat) :
    s.unclaimBody (some (j, f)) = be 2 j ++ [b1 f.code, noneFF ((s.side f j).map fun r => r.state.code)] := by
  simp [State.unclaimBody, leafFaceBytes]

/-- Settles O25: the expiry and UNCLAIM both give the side back by `endClaim`, then evaluate; neither concerns the
arbiters. -/
theorem claimEnds : Obligations.ClaimEnds := by
  intro h s
  refine ⟨fun hc => ?_, fun c hc => ?_, fun hp => ?_⟩
  · refine congrArg Host.Outcome.next ?_
    have hn : s.claimExpires h = s := by simp only [State.claimExpires, hc]
    rw [hn, arbitrate_same rfl rfl rfl]
  · refine congrArg Host.Outcome.next ?_
    have hn : s.claimExpires h = (s.endClaim h true).evaluate := by simp only [State.claimExpires, hc]
    rw [hn, arbitrate_same (by simp) (by simp) (by simp), endClaim_some hc, if_pos rfl]
    rfl
  · obtain ⟨act, hexec, hact⟩ := exec_unclaim h s
    have hpass := Passes.unclaim h
    rw [hexec]
    refine ⟨fun hc => ?_, fun c hc => ?_⟩
    · have hbody (x : Option Nat) (hx : s.presentLeaf h = x) :
          s.ask (.unclaim (cameraLink h)) act =
            s.answered (cameraLink h) 0x61 .ok (s.unclaimBody (x.map fun j => (j, faceOf h))) := by
        subst hx
        exact hpass.pure hp ((hact _).trans (unclaim_none (s := s.taken (cameraLink h) 0x61) hc))
      exact ⟨fun hn => congrArg _ (hbody none hn), fun j hj => congrArg _ ((hbody (some j) hj).trans (by
        rw [Option.map_some, unclaimBody_some]))⟩
    · have hsome : (s.taken (cameraLink h) 0x61).claimOf h = some c := hc
      have hend : (s.taken (cameraLink h) 0x61).endClaim h false = (s.taken (cameraLink h) 0x61).unclaimSide h c := by
        rw [endClaim_some hsome, if_neg (by simp)]
      have hports := (Steady.refl (s.taken (cameraLink h) 0x61)).endClaim (h := h) (e := false) |>.evaluate.ports
        (cameraLink h)
      have hreply := hpass.quiet hp ((hact _).trans (unclaim_some hsome))
        (hports.dropAnswer.trans (taken_dropAnswer _ _ _ _)) (by simp) (by simp) (by simp)
      rw [hreply, unclaimBody_some, hend]
      refine ⟨rfl, ?_, ?_⟩
      · have hclaim := endClaim_claims (s.taken (cameraLink h) 0x61) h h false
        rw [if_pos rfl, hend] at hclaim
        exact (congrArg (fun q : Capture => q.claims.get h) (evaluate_frame _).2.1).trans hclaim
      · simp [State.keeps, Part.same]

/-! ### CANCEL -/

theorem Passes.cancel (h : Half) (id : Word) :
    Passes (.cancel (cameraLink h) id) (cameraLink h) ⟨0x63, be 2 id.toNat⟩ :=
  ⟨rfl, ⟨_, rfl, roleAllows_camera h⟩, rfl, by simp [Config.maxRequestBody]⟩

/-- CANCEL on a camera's link (R68). -/
theorem exec_cancel (h : Half) (id : Word) (s : State) :
    ∃ act, exec (.cancel (cameraLink h) id) s = .next (s.ask (.cancel (cameraLink h) id) act) ∧
      ∀ t : State, act t = t.cancel h id.toNat :=
  ⟨_, rfl, fun t => by simp⟩

section
variable {s : State} {h : Half} {c : Ctx}

/-- An order already given stands (R68). -/
theorem cancelCtx_ordered (hc : s.ctx h = some c) (ho : c.order ≠ none) (hs : c.state.endsNow = false) :
    s.cancelCtx h = s := by
  obtain ⟨o, ho'⟩ := Option.ne_none_iff_exists'.1 ho
  have hmark : s.markCancel h = s := by simp [State.markCancel, hc, ho']
  have horder : s.orderEnd h .cancelled = s := by
    simp only [State.orderEnd, hc, ho']
  unfold State.cancelCtx
  rw [hmark, horder]
  exact endIfNow_runs fun d hd => by rw [hc] at hd; exact Option.some.inj hd ▸ hs

theorem orderEnd_new {t : State} (hc : t.ctx h = some c) (ho : c.order = none) (o : EndOrder) :
    t.orderEnd h o = t.setCtx h (some { c with order := some o }) := by
  simp only [State.orderEnd, hc, ho]

theorem markCancel_receiving (hc : s.ctx h = some c) (hs : c.state = .receiving) (hr : c.report = none)
    (ho : c.order = none) : s.markCancel h = s.setRx h { s.rx h with cancelMark := true } := by
  simp [State.markCancel, hc, hs, hr, ho]

theorem markCancel_other (hc : s.ctx h = some c) (hs : c.state ≠ .receiving ∨ c.report ≠ none) :
    s.markCancel h = s := by
  simp only [State.markCancel, hc]
  refine if_neg ?_
  rintro ⟨h1, h2, -⟩
  exact hs.elim (· h1) (· h2)

/-- A capture that runs is ordered to end, and goes on. -/
theorem endIfNow_running {t : State} (hs : c.state.endsNow = false) (o : EndOrder) :
    (t.setCtx h (some { c with order := some o })).endIfNow h = t.setCtx h (some { c with order := some o }) := by
  refine endIfNow_runs fun d hd => ?_
  rw [setCtx_ctx, if_pos rfl] at hd
  exact Option.some.inj hd ▸ hs

/-- CANCEL of a capture that runs (R68, R123). -/
theorem cancelCtx_firing (hc : s.ctx h = some c) (ho : c.order = none) (he : c.state.endsNow = false)
    (hs : c.state ≠ .receiving ∨ c.report ≠ none) :
    s.cancelCtx h = s.setCtx h (some { c with order := some .cancelled }) := by
  unfold State.cancelCtx
  rw [markCancel_other hc hs, orderEnd_new hc ho, endIfNow_running he]

theorem cancelCtx_receiving (hc : s.ctx h = some c) (ho : c.order = none) (hs : c.state = .receiving)
    (hr : c.report = none) :
    s.cancelCtx h =
      (s.setRx h { s.rx h with cancelMark := true }).setCtx h (some { c with order := some .cancelled }) := by
  unfold State.cancelCtx
  rw [markCancel_receiving hc hs hr ho, orderEnd_new (t := s.setRx h _) hc ho,
    endIfNow_running (by rw [hs]; rfl)]

/-- CANCEL of a capture that waits, or awaits its frame (R68). -/
theorem cancelCtx_ends (hc : s.ctx h = some c) (ho : c.order = none) (he : c.state.endsNow = true) :
    s.cancelCtx h = (s.setCtx h (some { c with order := some .cancelled })).endCapture h := by
  have hs : c.state ≠ .receiving := ((endsNow_iff _).1 he).2
  unfold State.cancelCtx
  rw [markCancel_other hc (.inl hs), orderEnd_new hc ho]
  simp [State.endIfNow, he]

end

/-- Settles O30: a CANCEL refused or acknowledged answers alone; one that orders an end is `cancelCtx` by state. -/
theorem cancelByState : Obligations.CancelByState := by
  intro h id s hp
  obtain ⟨act, hexec, hact⟩ := exec_cancel h id s
  have hpass := Passes.cancel h id
  let s0 := s.taken (cameraLink h) 0x63
  have hid : id.toNat = 0 ↔ id = 0 := ⟨fun e => BitVec.eq_of_toNat_eq e, fun e => by rw [e]; rfl⟩
  have hpure {st : Status} {b : List Byte} (hb : s0.cancel h id.toNat = ⟨s0, st, b⟩) :
      s.ask (.cancel (cameraLink h) id) act = s.answered (cameraLink h) 0x63 st b :=
    hpass.pure hp ((hact _).trans hb)
  dsimp only
  rw [hexec]
  refine ⟨fun hc => ⟨fun h0 => congrArg _ (hpure ?_), fun h0 => congrArg _ (hpure ?_)⟩, fun c hc => ⟨fun h0 h1 =>
    congrArg _ (hpure ?_), fun hname => ?_⟩⟩
  · have hc : s0.ctx h = none := hc
    simp only [State.cancel, hc]
    exact if_pos (hid.2 h0)
  · have hc : s0.ctx h = none := hc
    simp only [State.cancel, hc]
    exact if_neg (mt hid.1 h0)
  · have hc : s0.ctx h = some c := hc
    simp only [State.cancel, hc]
    exact if_pos ⟨mt hid.1 h0, h1⟩
  · have hc0 : s0.ctx h = some c := hc
    have htaken : s0.cancel h id.toNat = ⟨s0.cancelCtx h, .ok, be 2 c.id ++ [b1 c.state.code]⟩ := by
      simp only [State.cancel, hc0]
      exact if_neg fun ⟨e0, e1⟩ => hname.elim (fun e => e0 (hid.2 e)) e1
    have hquiet (ho : c.order = none) (ht : s0.cancelCtx h = s0.setCtx h (some { c with order := some .cancelled })) :
        s.ask (.cancel (cameraLink h) id) act =
          (s.setCtx h (some { c with order := some .cancelled })).answered (cameraLink h) 0x63 .ok
            (be 2 c.id ++ [b1 c.state.code]) := by
      have hact' : act s0 = ⟨s0.setCtx h (some { c with order := some .cancelled }), .ok,
          be 2 c.id ++ [b1 c.state.code]⟩ := by
        rw [hact, htaken, ht]
      exact (hpass.quiet hp hact' (taken_dropAnswer _ _ _ _) rfl rfl rfl).trans
        (answered_taken (s := s.setCtx h (some { c with order := some .cancelled })) hp 0x63 .ok _)
    refine ⟨fun ho hs => congrArg _ (hpure ?_), fun ho => ⟨fun hs => congrArg _ ?_, fun hs hr => congrArg _ ?_,
      fun hs hr => congrArg _ ?_, fun h1 h2 => ?_⟩⟩
    · rw [htaken, cancelCtx_ordered hc0 ho (by obtain hs | hs := hs <;> rw [hs] <;> rfl)]
    · exact hquiet ho (cancelCtx_firing hc0 ho (by rw [hs]; rfl) (.inl (by simp [hs])))
    · exact hquiet ho (cancelCtx_firing hc0 ho (by rw [hs]; rfl) (.inr hr))
    · have hact' : act s0 = ⟨(s0.setRx h { s.rx h with cancelMark := true }).setCtx h
          (some { c with order := some .cancelled }), .ok, be 2 c.id ++ [b1 c.state.code]⟩ := by
        rw [hact, htaken, cancelCtx_receiving hc0 ho hs hr]; rfl
      refine (hpass.reply hp hact' (taken_dropAnswer _ _ _ _)).trans ?_
      have hans := answered_taken (s := (s.setRx h { s.rx h with cancelMark := true }).setCtx h
        (some { c with order := some .cancelled })) hp 0x63 .ok (be 2 c.id ++ [b1 c.state.code])
      have hfifo := setRx_fifo (s := s) (r := { s.rx h with cancelMark := true }) (h := h) rfl
      exact (congrArg s.arbitrate hans).trans (arbitrate_of_fifos rfl hfifo rfl rfl rfl)
    · have ht := cancelCtx_ends hc0 ho ((endsNow_iff _).2 ⟨h1, h2⟩)
      have hports := (Steady.refl s0).setCtx (h := h) (c := some { c with order := some .cancelled })
        |>.endCapture (h := h) |>.ports (cameraLink h)
      exact ⟨congrArg _ (hpass.reply hp ((hact _).trans (htaken.trans (by rw [ht])))
        (hports.dropAnswer.trans (taken_dropAnswer _ _ _ _))), endCapture_self _ h, outcome_cancelled rfl⟩

end Sys2Proof.Machine
end

section
/-! PROOFS. COMMIT (R60, R142), refuted: the deferred release's slot goes to the other half, whose pair link reaches the
committed capture. -/

namespace Sys2Proof.Machine

open Sys2Proof

/-- The left capture, with its seal report and a slot wait limit still running. -/
def reportingCtx : Ctx :=
  { waitingCtx 1 .receiving 0 with slotTimer := some 5, report := some (0, .good) }

/-- In EXPOSING every slot is SEALED, and slot 0, drained, has a release deferred to its commit. The left capture is
RECEIVING and holds the report of slot 0; the right one, linked, waits for a slot. -/
def linkedOneWay : State :=
  { State.reset with
    opening := { State.reset.opening with state := .exposing }
    capture :=
      { State.reset.capture with
        ctxs := ⟨some reportingCtx, some { waitingCtx 2 .waitSlot 1 with slot := none, linked := true }⟩,
        waitOrder := [.right] }
    memory :=
      { State.reset.memory with
        slots := (Vector.replicate 8 { Slot.free with state := .sealed }).set 0
          { Slot.free with state := .sealed, drainedFully := true, deferred := some false } } }

theorem linkedOneWay_orderly :
    ∀ g ∈ linkedOneWay.capture.waitOrder, ∀ e, linkedOneWay.ctx g = some e → e.state = .waitSlot := by
  intro g hg e he
  obtain rfl := List.mem_singleton.1 hg
  obtain rfl := Option.some.inj he
  rfl

/-- Slot 0, freed, is bound to the right capture, and its pair link stops the left one's slot wait limit too. -/
theorem linkedOneWay_stops_limit :
    ((linkedOneWay.commitStep .left reportingCtx 0 .good).ctx .left).map (·.slotTimer) = some none := by decide

/-- Refutes O31: nothing there says that a pair link has two ends. Where the other half's capture is linked and the
committed one is not, the slot that the deferred release frees stops the slot wait limit of the committed capture, which
the statement keeps. -/
theorem not_commitStep : ¬ Obligations.CommitStep := by
  rintro ⟨-, h⟩
  obtain ⟨-, -, -, hkept⟩ := (h .left linkedOneWay).2 reportingCtx 0 .good rfl rfl rfl
  obtain ⟨hctx, -⟩ := hkept (.inr linkedOneWay_orderly)
  have hstopped := linkedOneWay_stops_limit
  rw [hctx] at hstopped
  exact absurd hstopped (by decide)

end Sys2Proof.Machine
end

section
/-! SUPPORT. What an event that does not end a half's capture leaves of it (R57, R66, R67, R112), and what its end does
(R62 to R64). -/

namespace Sys2Proof.Machine

open Sys2Proof

/-! ### A capture that goes on -/

/-- The same run of a capture: its record but for its state, its slot, its pair link and its timers. A cause it has
stays. -/
structure Ctx.GoesOn (c d : Ctx) : Prop where
  id : d.id = c.id
  leaf : d.leaf = c.leaf
  prior : d.prior = c.prior
  program : d.program = c.program
  copy : d.copy = c.copy
  step : d.step = c.step
  results : d.results = c.results
  order : d.order = c.order
  heldCap : d.heldCap = c.heldCap
  cause : c.cause ≠ none → d.cause = c.cause

namespace Ctx.GoesOn

variable {c d e : Ctx}

theorem refl (c : Ctx) : c.GoesOn c := ⟨rfl, rfl, rfl, rfl, rfl, rfl, rfl, rfl, rfl, fun _ => rfl⟩

theorem trans (h : c.GoesOn d) (h' : d.GoesOn e) : c.GoesOn e where
  id := h'.id.trans h.id
  leaf := h'.leaf.trans h.leaf
  prior := h'.prior.trans h.prior
  program := h'.program.trans h.program
  copy := h'.copy.trans h.copy
  step := h'.step.trans h.step
  results := h'.results.trans h.results
  order := h'.order.trans h.order
  heldCap := h'.heldCap.trans h.heldCap
  cause hc := (h'.cause (by rw [h.cause hc]; exact hc)).trans (h.cause hc)

/-- A capture that goes on with a cause keeps the whole of its record but for state, slot, link, timers and report. -/
theorem eq_of_cause (h : c.GoesOn d) (hc : c.cause ≠ none) :
    d = { c with
      state := d.state, slot := d.slot, linked := d.linked, partnerTimer := d.partnerTimer, slotTimer := d.slotTimer,
      frameTimer := d.frameTimer, report := d.report } := by
  have hcause := h.cause hc
  obtain ⟨⟩ := h
  cases c
  cases d
  simp_all

/-- A capture with an order or a cause has its outcome (R62). -/
theorem outcome (h : c.GoesOn d) (hc : c.cause ≠ none ∨ c.order ≠ none) : d.outcome = c.outcome := by
  obtain hc | hc := hc
  · rw [h.eq_of_cause hc]; rfl
  · obtain ⟨o, ho⟩ := Option.ne_none_iff_exists'.1 hc
    cases o <;> simp [Ctx.outcome, h.order, ho]

theorem sideAfter (h : c.GoesOn d) (hc : c.cause ≠ none ∨ c.order ≠ none) : d.sideAfter = c.sideAfter := by
  funext b
  simp only [Ctx.sideAfter, h.outcome hc, h.prior]

theorem endedSide (h : c.GoesOn d) (hc : c.cause ≠ none ∨ c.order ≠ none) : d.endedSide = c.endedSide := by
  funext k b r
  simp only [Ctx.endedSide, Ctx.summary, h.sideAfter hc, h.outcome hc, h.id, h.program, h.results]

theorem exception (h : c.GoesOn d) (hc : c.cause ≠ none ∨ c.order ≠ none) : d.exception = c.exception := by
  obtain hc | hc := hc
  · rw [h.eq_of_cause hc]; rfl
  · funext k n b
    have ho := h.outcome (.inr hc)
    obtain ⟨o, hord⟩ := Option.ne_none_iff_exists'.1 hc
    have hout : c.outcome = if o = .aborted then .aborted else .cancelled := by
      cases o <;> simp [Ctx.outcome, hord]
    unfold Ctx.exception
    rw [ho, hout]
    cases o <;> rfl

end Ctx.GoesOn

/-- No context begins, and the capture of one in flight goes on. -/
def CtxGoesOn (a b : Option Ctx) : Prop :=
  (a = none → b = none) ∧ ∀ c, a = some c → ∃ d, b = some d ∧ c.GoesOn d

theorem CtxGoesOn.refl (a : Option Ctx) : CtxGoesOn a a := ⟨fun h => h, fun c h => ⟨c, h, .refl c⟩⟩

theorem CtxGoesOn.of_eq {a b : Option Ctx} (h : b = a) : CtxGoesOn a b := h ▸ .refl a

theorem CtxGoesOn.trans {a b c : Option Ctx} (h : CtxGoesOn a b) (h' : CtxGoesOn b c) : CtxGoesOn a c := by
  refine ⟨fun ha => h'.1 (h.1 ha), fun x hx => ?_⟩
  obtain ⟨y, hy, hxy⟩ := h.2 x hx
  obtain ⟨z, hz, hyz⟩ := h'.2 y hy
  exact ⟨z, hz, hxy.trans hyz⟩

theorem setCtx_goesOn {s : State} {h : Half} {c d : Ctx} (hc : s.ctx h = some c) (hd : c.GoesOn d) (g : Half) :
    CtxGoesOn (s.ctx g) ((s.setCtx h (some d)).ctx g) := by
  rw [setCtx_ctx]
  split
  · next hg =>
    subst hg
    rw [hc]
    exact ⟨fun h => absurd h (by simp), fun x hx => ⟨d, rfl, Option.some.inj hx ▸ hd⟩⟩
  · exact .refl _

theorem ctxGoesOn_of_capture {s t : State} (h : t.capture = s.capture) (g : Half) : CtxGoesOn (s.ctx g) (t.ctx g) :=
  .of_eq (by simp only [State.ctx, h])

theorem bindSlot_goesOn (s : State) (h : Half) (i : Fin 8) (g : Half) :
    CtxGoesOn (s.ctx g) ((s.bindSlot h i).ctx g) := by
  cases hc : s.ctx h with
  | none => simp only [State.bindSlot, hc]; exact .refl _
  | some c =>
    rw [bindSlot_eq hc]
    exact setCtx_goesOn (s := s.setSlot i _) (d := { c with slot := some i, state := .waitLight }) hc
      ⟨rfl, rfl, rfl, rfl, rfl, rfl, rfl, rfl, rfl, fun _ => rfl⟩ g

theorem stopSlotLimit_goesOn (s : State) (h g : Half) : CtxGoesOn (s.ctx g) ((s.stopSlotLimit h).ctx g) := by
  have timer {u : State} {k : Half} {c : Ctx} (hc : u.ctx k = some c) :
      CtxGoesOn (u.ctx g) ((u.setCtx k (some { c with slotTimer := none })).ctx g) :=
    setCtx_goesOn (d := { c with slotTimer := none }) hc ⟨rfl, rfl, rfl, rfl, rfl, rfl, rfl, rfl, rfl, fun _ => rfl⟩ g
  unfold State.stopSlotLimit
  split
  · exact .refl _
  · next c hc =>
    split
    · split
      · exact timer hc
      · next d hd =>
        split
        · exact .refl _
        · refine (timer hc).trans (timer ?_)
          rw [setCtx_ctx, if_neg (ne_otherHalf h)]
          exact hd
    · exact timer hc

theorem offerOnce_goesOn (s : State) (g : Half) : CtxGoesOn (s.ctx g) (s.offerOnce.ctx g) := by
  unfold State.offerOnce
  split
  · exact .refl _
  · next h rest hw =>
    split
    · exact .refl _
    · next i hi =>
      exact ((bindSlot_goesOn (s.setWaitOrder rest) h i g).trans (stopSlotLimit_goesOn _ h g)).trans
        (ctxGoesOn_of_capture (placeRequest_frame _ h).2.2.1 g)

/-! ### An event aside from a half's capture -/

/-- With no capture waiting for a slot: none begins to wait, an OPEN slot is returned or stays, the half's context keeps
its own. -/
structure SlotsStand (h : Half) (s t : State) : Prop where
  waits : t.capture.waitOrder = []
  slots : ∀ n, t.slot n = s.slot n ∨ (s.slot n).state = .open' ∧ t.slot n = Slot.free
  own : ∀ c d, s.ctx h = some c → t.ctx h = some d → d.slot = c.slot

/-- A state reached without an end of a half's capture: its context goes on, its sides and its camera's link are
untouched, exceptions are only added. -/
structure Aside (h : Half) (s t : State) : Prop where
  ctx : CtxGoesOn (s.ctx h) (t.ctx h)
  sides : ∀ j, t.side (faceOf h) j = s.side (faceOf h) j
  link : t.link (cameraLink h) = s.link (cameraLink h)
  exceptions : s.account.exceptions <+: t.account.exceptions
  stands : s.capture.waitOrder = [] → SlotsStand h s t
  steady : Steady s t
  frame : StepFrame s t

theorem Steady.mounted {s t : State} (h : Steady s t) : t.mounted = s.mounted := by
  simp only [State.mounted, (h.volumes _).state]

namespace Aside

variable {h : Half} {s t u : State}

theorem refl (s : State) : Aside h s s where
  ctx := .refl _
  sides _ := rfl
  link := rfl
  exceptions := List.prefix_rfl
  stands hw := ⟨hw, fun _ => .inl rfl, fun c d hc hd => by rw [Option.some.inj (hc.symm.trans hd)]⟩
  steady := .refl s
  frame := .refl s

theorem trans (hst : Aside h s t) (htu : Aside h t u) : Aside h s u where
  ctx := hst.ctx.trans htu.ctx
  sides j := (htu.sides j).trans (hst.sides j)
  link := htu.link.trans hst.link
  exceptions := hst.exceptions.trans htu.exceptions
  stands hw := by
    have h1 := hst.stands hw
    have h2 := htu.stands h1.waits
    refine ⟨h2.waits, fun n => ?_, fun c e hc he => ?_⟩
    · obtain hs | ⟨ho, hf⟩ := h1.slots n
      · rw [← hs]; exact h2.slots n
      · obtain hs | ⟨ho', -⟩ := h2.slots n
        · exact .inr ⟨ho, hs.trans hf⟩
        · rw [hf] at ho'; exact absurd ho' (by decide)
    · obtain ⟨d, hd, -⟩ := hst.ctx.2 c hc
      exact (h2.own d e hd he).trans (h1.own c d hc hd)
  steady := hst.steady.trans htu.steady
  frame := hst.frame.trans htu.frame

/-- An event that leaves the account, the memory, the capture unit and the camera's link. -/
theorem of_same (hs : Steady s t) (ha : t.account = s.account) (hc : t.capture = s.capture)
    (hm : t.memory = s.memory) (hl : t.link (cameraLink h) = s.link (cameraLink h)) : Aside h s t where
  ctx := ctxGoesOn_of_capture hc h
  sides j := congrFun (congrFun (side_congr (congrArg Account.leaves ha)) _) j
  link := hl
  exceptions := by rw [ha]
  stands hw := ⟨by rw [hc, hw], fun n => .inl (by simp only [State.slot, hm]), fun c d h1 h2 => by
    simp only [State.ctx, hc] at h1 h2; rw [Option.some.inj (h1.symm.trans h2)]⟩
  steady := hs
  frame := .of_same hc hm

theorem setHeld (s : State) (r : List LightRequest) : Aside h s (s.setHeld r) :=
  of_same (Steady.refl s).setHeld rfl rfl rfl rfl

/-- The context of the half is written, and its capture goes on. -/
theorem setCtx_self {c d : Ctx} (hc : s.ctx h = some c) (hd : c.GoesOn d) (hs : d.slot = c.slot) :
    Aside h s (s.setCtx h (some d)) where
  ctx := setCtx_goesOn hc hd h
  sides _ := rfl
  link := rfl
  exceptions := List.prefix_rfl
  stands hw := ⟨hw, fun _ => .inl rfl, fun x y hx hy => by
    rw [setCtx_ctx, if_pos rfl] at hy
    rw [← Option.some.inj hy, ← Option.some.inj (hc.symm.trans hx), hs]⟩
  steady := (Steady.refl s).setCtx
  frame := .setCtx s h _

theorem setCtx_other {g : Half} (hg : h ≠ g) (x : Option Ctx) : Aside h s (s.setCtx g x) where
  ctx := .of_eq (by rw [setCtx_ctx, if_neg hg])
  sides _ := rfl
  link := rfl
  exceptions := List.prefix_rfl
  stands hw := ⟨hw, fun _ => .inl rfl, fun x y hx hy => by
    rw [setCtx_ctx, if_neg hg] at hy
    rw [Option.some.inj (hx.symm.trans hy)]⟩
  steady := (Steady.refl s).setCtx
  frame := .setCtx s g _

theorem setWaitOrder {w : List Half} (hw : s.capture.waitOrder = [] → w = []) : Aside h s (s.setWaitOrder w) where
  ctx := .refl _
  sides _ := rfl
  link := rfl
  exceptions := List.prefix_rfl
  stands hn := ⟨hw hn, fun _ => .inl rfl, fun c d hc hd => by rw [Option.some.inj (hc.symm.trans hd)]⟩
  steady := (Steady.refl s).setWaitOrder
  frame := ⟨rfl, rfl, rfl⟩

theorem notify {l : LinkId} (hl : cameraLink h ≠ l) (n : Notice) : Aside h s (s.notify l n) :=
  of_same (Steady.refl s).notify (by simp) (by simp) (by simp) (by rw [notify_link, if_neg hl])

theorem evaluate (s : State) : Aside h s s.evaluate := by
  refine of_same (Steady.refl s).evaluate (by simp) (by simp) (by simp) ?_
  have hS := cameraLink_ne_S h
  have hA : cameraLink h ≠ .A := by cases h <;> simp [cameraLink]
  unfold State.evaluate
  split
  · unfold State.link
    rw [takeEvaluated_links]
    split
    · exact (notify_link s .A (cameraLink h) _).trans (if_neg hA)
    · split
      · exact (notify_link s .S (cameraLink h) _).trans (if_neg hS)
      · rfl
  · rfl

theorem addException? (s : State) (x : Option ExcRecord) : Aside h s (s.addException? x) where
  ctx := ctxGoesOn_of_capture (by simp) h
  sides j := by rw [side_congr (addExceptionOf_leaves s x)]
  link := by
    unfold State.addException? State.addException
    dsimp only
    (repeat' split) <;> simp [cameraLink_ne_S h]
  exceptions := by
    unfold State.addException? State.addException
    dsimp only
    (repeat' split) <;> simp
  stands hw := ⟨by simp [hw], fun n => .inl (by simp [State.slot]), fun c d hc hd => by
    simp only [State.ctx, addExceptionOf_frame] at hc hd; rw [Option.some.inj (hc.symm.trans hd)]⟩
  steady := (Steady.refl s).addException?
  frame := .of_same (by simp) (by simp)

theorem changeSide {g : Half} (hg : h ≠ g) (j : Nat) (f : SideRec → SideRec) :
    Aside h s (s.changeSide (faceOf g) j f) where
  ctx := ctxGoesOn_of_capture (by simp) h
  sides i := by rw [changeSide_side, if_neg fun hf => faceOf_ne hg hf.1]
  link := by simp only [State.link, changeSide_frame]
  exceptions := by rw [changeSide_exceptions]
  stands hw := ⟨by simp [hw], fun n => .inl (by simp [State.slot]), fun c d hc hd => by
    simp only [State.ctx, changeSide_frame] at hc hd; rw [Option.some.inj (hc.symm.trans hd)]⟩
  steady := (Steady.refl s).changeSide
  frame := .of_same (by simp) (by simp)

/-- A slot offered (R112). -/
theorem offerOnce (s : State) : Aside h s s.offerOnce where
  ctx := offerOnce_goesOn s h
  sides j := congrFun (congrFun (side_congr (congrArg Account.leaves (offerOnce_frame s).2.1)) _) j
  link := by simp only [State.link, offerOnce_frame]
  exceptions := by simp
  stands hw := by rw [offerOnce_nil hw]; exact (refl s).stands hw
  steady := (Steady.refl s).offerOnce
  frame := .offerOnce s

/-- A slot in OPEN returned (R113). -/
theorem returnSlot (s : State) (x : Option (Fin 8)) : Aside h s (s.returnSlot x) := by
  unfold State.returnSlot
  split
  · exact refl s
  · next i =>
    split
    · next ho =>
      have hfree : Aside h s (s.setSlot i .free) :=
        { ctx := .refl _
          sides := fun _ => rfl
          link := rfl
          exceptions := List.prefix_rfl
          stands := fun hw => ⟨hw, fun n => by
            rw [setSlot_slot]
            split
            · next hn => exact .inr ⟨by rw [hn, ho], rfl⟩
            · exact .inl rfl, fun c d hc hd => by rw [Option.some.inj (hc.symm.trans hd)]⟩
          steady := (Steady.refl s).setSlot
          frame := ⟨rfl, rfl, rfl⟩ }
      exact hfree.trans ((offerOnce _).trans (offerOnce _))
    · exact refl s

theorem partnerEnded (s : State) (g : Half) : Aside h s (s.partnerEnded g) := by
  unfold State.partnerEnded
  split
  · exact refl s
  · next d hd =>
    have hctx : Aside h s (s.setCtx g (some { d with linked := false, cause := d.cause.or (some .partnerEnded) })) := by
      by_cases hg : h = g
      · subst hg
        exact setCtx_self hd ⟨rfl, rfl, rfl, rfl, rfl, rfl, rfl, rfl, rfl, fun hc => by
          obtain ⟨x, hx⟩ := Option.ne_none_iff_exists'.1 hc; simp [hx]⟩ rfl
      · exact setCtx_other hg _
    dsimp only
    split
    · exact hctx.trans (setWaitOrder fun hw => by rw [hw]; rfl)
    · exact hctx

theorem endContext_other {g : Half} (hg : h ≠ g) : Aside h s (s.endContext g) :=
  ((setCtx_other hg none).trans (setWaitOrder fun hw => by
    rw [show s.capture.waitOrder = [] from hw]; rfl)).trans (setHeld _ _)

theorem cameraLink_ne {g : Half} (hg : h ≠ g) : cameraLink h ≠ cameraLink g := by
  cases h <;> cases g <;> simp_all [cameraLink]

/-- The end of the other half's capture (R63). -/
theorem endOne_other {g : Half} (hg : h ≠ g) (s : State) : Aside h s (s.endOne g) := by
  cases hc : s.ctx g with
  | none => rw [endOne_none hc]; exact refl s
  | some c =>
    rw [endOne_some hc]
    have haccount : Aside h s (s.endAccount g c) :=
      (((changeSide hg _ _).trans (addException? _ _)).trans (notify (cameraLink_ne hg) _)).trans
        (notify (cameraLink_ne_S h) _)
    exact ((haccount.trans (endContext_other hg)).trans (returnSlot _ _)).trans (evaluate _)

end Aside

end Sys2Proof.Machine
end

section
/-! SUPPORT. The end of one capture as its half sees it (R62 to R64): context, notice, exception, sides and slot. -/

namespace Sys2Proof.Machine

open Sys2Proof

/-- The exception of a capture that ends (R63). -/
def State.endException (s : State) (h : Half) (c : Ctx) : Option ExcRecord :=
  c.exception h s.opening.k (s.discardedMark h c)

/-- The notice of a capture that ends (R63). -/
def State.endNotice (s : State) (h : Half) (c : Ctx) : Notice :=
  .captureDone c.id h c.leaf c.outcome c.results.length c.anyDimmed ((s.endException h c).map (·.kind))

/-! ### Slots returned with no capture waiting -/

theorem returnSlot_nil {s : State} (hw : s.capture.waitOrder = []) (x : Option (Fin 8)) :
    s.returnSlot x =
      match x with
      | none => s
      | some i => if (s.slot i).state = .open' then s.setSlot i .free else s := by
  unfold State.returnSlot
  split
  · rfl
  · rw [freeSlot_nil hw]

theorem returnSlot_slot {s : State} (hw : s.capture.waitOrder = []) (x : Option (Fin 8)) (n : Fin 8) :
    (s.returnSlot x).slot n = if x = some n ∧ (s.slot n).state = .open' then Slot.free else s.slot n := by
  rw [returnSlot_nil hw]
  cases x with
  | none => simp
  | some i =>
    by_cases hi : n = i
    · subst hi; by_cases ho : (s.slot n).state = .open' <;> simp [ho]
    · have hne : ¬ (some i = some n) := fun e => hi (Option.some.inj e).symm
      dsimp only
      split <;> simp [hi, hne]

theorem returnSlot_nil_rest {s : State} (hw : s.capture.waitOrder = []) (x : Option (Fin 8)) :
    (s.returnSlot x).capture = s.capture ∧ (s.returnSlot x).light = s.light := by
  rw [returnSlot_nil hw]
  split
  · exact ⟨rfl, rfl⟩
  · split <;> exact ⟨rfl, rfl⟩

/-- No slot is offered to a half outside the wait order. -/
theorem offerOnce_waitOrder {s : State} {g : Half} (hg : g ∉ s.capture.waitOrder) :
    g ∉ s.offerOnce.capture.waitOrder := by
  unfold State.offerOnce
  split
  · exact hg
  · next h rest hw =>
    split
    · exact hg
    · next i hi =>
      have hrest : ((((s.setWaitOrder rest).bindSlot h i).stopSlotLimit h).placeRequest h).capture.waitOrder = rest := by
        rw [(placeRequest_frame _ h).2.2.1]
        unfold State.stopSlotLimit State.bindSlot
        (repeat' split) <;> rfl
      rw [hrest]
      exact fun hm => hg (by rw [hw]; exact List.mem_cons_of_mem _ hm)

theorem returnSlot_waitOrder {s : State} {g : Half} (hg : g ∉ s.capture.waitOrder) (x : Option (Fin 8)) :
    g ∉ (s.returnSlot x).capture.waitOrder := by
  unfold State.returnSlot
  split
  · exact hg
  · split
    · exact offerOnce_waitOrder (offerOnce_waitOrder (s := s.setSlot _ .free) hg)
    · exact hg

/-! ### The end of one capture -/

section
variable {s : State} {h : Half} {c : Ctx}

theorem endContext_waitOrder (s : State) (h : Half) :
    (s.endContext h).capture.waitOrder = s.capture.waitOrder.filter fun x => decide (x ≠ h) := rfl

theorem endAccount_link (s : State) (h : Half) (c : Ctx) (l : LinkId) (hl : l ≠ .S) :
    (s.endAccount h c).link l =
      if l = cameraLink h then (s.link l).push (noticeDepth l) (s.endNotice h c) else s.link l := by
  have hexc (u : State) (x : Option ExcRecord) : (u.addException? x).link l = u.link l := by
    unfold State.addException? State.addException
    dsimp only
    (repeat' split) <;> simp [hl]
  have hside : (s.changeSide (faceOf h) c.leaf (c.endedSide h (s.discardedMark h c))).link l = s.link l := by
    simp only [State.link, changeSide_frame]
  unfold State.endAccount
  dsimp only
  rw [notify_link, if_neg hl, notify_link]
  split
  · next hc => subst hc; rw [hexc, hside]; rfl
  · rw [hexc, hside]

/-- Capture ends are told the camera once (R63). -/
theorem endOne_link (hc : s.ctx h = some c) :
    (s.endOne h).link (cameraLink h) = (s.notify (cameraLink h) (s.endNotice h c)).link (cameraLink h) := by
  have hrest : (((s.endAccount h c).endContext h).returnSlot c.slot).link (cameraLink h) =
      (s.endAccount h c).link (cameraLink h) := by
    simp only [State.link, returnSlot_frame, State.endContext, withdraw_frame, setWaitOrder_links, setCtx_links]
  rw [endOne_some hc, (Aside.evaluate _).link, hrest, endAccount_link s h c _ (cameraLink_ne_S h), notify_link,
    if_pos rfl]

/-- The exceptions with one handed on (R178). -/
theorem addExceptionOf_exceptions (s : State) (x : Option ExcRecord) :
    (s.addException? x).account.exceptions =
      if s.mounted ≠ none ∧ s.account.exceptions.length < 64 then s.account.exceptions ++ x.toList
      else s.account.exceptions := by
  cases x with
  | none => simp [State.addException?]
  | some r =>
    unfold State.addException? State.addException
    cases hm : s.mounted with
    | none => simp
    | some i =>
      by_cases hl : s.account.exceptions.length < 64 <;> simp [Config.exceptionDepth, hl]

theorem changeSide_mounted (s : State) (f : Face) (j : Nat) (g : SideRec → SideRec) :
    (s.changeSide f j g).mounted = s.mounted :=
  (Steady.refl s).changeSide.mounted

theorem endOne_exceptions (hc : s.ctx h = some c) :
    (s.endOne h).account.exceptions =
      if s.mounted ≠ none ∧ s.account.exceptions.length < 64 then
        s.account.exceptions ++ (s.endException h c).toList
      else s.account.exceptions := by
  have haccount : (s.endOne h).account.exceptions =
      ((s.changeSide (faceOf h) c.leaf (c.endedSide h (s.discardedMark h c))).addException?
        (s.endException h c)).account.exceptions := by
    rw [endOne_some hc, (evaluate_frame _).1, (returnSlot_frame _ _).2.1, endContext_account]
    simp [State.endAccount, State.endException]
  rw [haccount, addExceptionOf_exceptions, changeSide_exceptions, changeSide_mounted]

theorem endOne_notMem (s : State) (h : Half) (hc : s.ctx h ≠ none) : h ∉ (s.endOne h).capture.waitOrder := by
  obtain ⟨c, hc⟩ := Option.ne_none_iff_exists'.1 hc
  rw [endOne_some hc, (evaluate_frame _).2.1]
  refine returnSlot_waitOrder ?_ _
  rw [endContext_waitOrder]
  simp

/-- With no other half waiting, the capture's slot in OPEN is FREE, and nothing is offered (R112, R113). -/
theorem endOne_alone (hc : s.ctx h = some c) (hw : (s.capture.waitOrder.filter fun x => decide (x ≠ h)) = []) :
    (∀ n, (s.endOne h).slot n = if c.slot = some n ∧ (s.slot n).state = .open' then Slot.free else s.slot n) ∧
    (s.endOne h).capture.waitOrder = [] ∧
    (s.endOne h).light = { s.light with held := s.light.held.filter fun r => !r.served.serves h } := by
  have hnil : ((s.endAccount h c).endContext h).capture.waitOrder = [] := by
    rw [endContext_waitOrder, endAccount_capture, hw]
  have hslot (n : Fin 8) : ((s.endAccount h c).endContext h).slot n = s.slot n := by
    simp only [State.slot, State.endContext, withdraw_frame, setWaitOrder_memory, setCtx_memory, State.endAccount,
      notify_frame, addExceptionOf_frame, changeSide_frame]
  have hlight : ((s.endAccount h c).endContext h).light =
      { s.light with held := s.light.held.filter fun r => !r.served.serves h } := by
    simp [State.endContext, State.withdraw, State.setHeld, State.endAccount]
  obtain ⟨hcapture, hrest⟩ := returnSlot_nil_rest hnil c.slot
  rw [endOne_some hc]
  refine ⟨fun n => ?_, ?_, ?_⟩
  · have he (u : State) : u.evaluate.slot n = u.slot n := by simp only [State.slot, evaluate_frame]
    rw [he, returnSlot_slot hnil, hslot]
  · rw [(evaluate_frame _).2.1, hcapture, hnil]
  · rw [(evaluate_frame _).2.2.1, hrest, hlight]

end

/-! ### A half's capture ended -/

/-- The capture `c` of a half in a state has ended since: told its camera once, its side's record that of the end, its
slot FREE where no capture waited. -/
structure EndedAs (h : Half) (c : Ctx) (s t : State) : Prop where
  ctx : t.ctx h = none
  link : t.link (cameraLink h) = (s.notify (cameraLink h) (s.endNotice h c)).link (cameraLink h)
  sides : ∀ j, t.side (faceOf h) j =
    if j = c.leaf then (s.side (faceOf h) j).map (c.endedSide h (s.discardedMark h c)) else s.side (faceOf h) j
  slots : s.capture.waitOrder = [] → t.capture.waitOrder = [] ∧
    ∀ n, c.slot = some n → (s.slot n).state = .open' ∨ s.slot n = Slot.free → t.slot n = Slot.free
  steady : Steady s t
  frame : StepFrame s t

theorem endOne_ended {s : State} {h : Half} {c : Ctx} (hc : s.ctx h = some c) : EndedAs h c s (s.endOne h) where
  ctx := endOne_self s h
  link := endOne_link hc
  sides j := by rw [endOne_side hc]; simp only [true_and]
  slots hw := by
    obtain ⟨hslot, hnil, -⟩ := endOne_alone hc (by rw [hw]; rfl)
    refine ⟨hnil, fun n hn ho => ?_⟩
    rw [hslot]
    split
    · rfl
    · next hnot => exact ho.resolve_left fun h => hnot ⟨hn, h⟩
  steady := (Steady.refl s).endOne
  frame := .endOne s h

namespace EndedAs

variable {s t u : State} {h : Half} {c d : Ctx}

/-- What follows an end leaves it. -/
theorem after (he : EndedAs h c s t) (ha : Aside h t u) : EndedAs h c s u where
  ctx := ha.ctx.1 he.ctx
  link := ha.link.trans he.link
  sides j := (ha.sides j).trans (he.sides j)
  slots hw := by
    obtain ⟨hnil, hfree⟩ := he.slots hw
    have hs := ha.stands hnil
    refine ⟨hs.waits, fun n hn ho => ?_⟩
    have hf := hfree n hn ho
    obtain h1 | ⟨h1, -⟩ := hs.slots n
    · rw [h1, hf]
    · rw [hf] at h1; exact absurd h1 (by decide)
  steady := he.steady.trans ha.steady
  frame := he.frame.trans ha.frame

theorem discardedMark_aside (ha : Aside h s t) (hd : c.GoesOn d) : t.discardedMark h d = s.discardedMark h c := by
  have hany : d.anySealed = c.anySealed := by rw [Ctx.anySealed, Ctx.anySealed, hd.results]
  unfold State.discardedMark
  rw [hany, hd.leaf, ha.sides]

/-- What comes before the end of a capture with a cause or an order does not change the end. -/
theorem before (ha : Aside h s t) (hc : s.ctx h = some c) (hcause : c.cause ≠ none ∨ c.order ≠ none)
    (he : ∀ d, t.ctx h = some d → c.GoesOn d → EndedAs h d t u) : EndedAs h c s u := by
  obtain ⟨d, hd, hgo⟩ := ha.ctx.2 c hc
  have he := he d hd hgo
  have hmark := discardedMark_aside ha hgo
  have hexc : t.endException h d = s.endException h c := by
    rw [State.endException, State.endException, hmark, hgo.exception hcause, ha.steady.opening_k]
  have hnotice : t.endNotice h d = s.endNotice h c := by
    rw [State.endNotice, State.endNotice, hexc, hgo.outcome hcause, hgo.id, hgo.leaf, hgo.results, Ctx.anyDimmed,
      Ctx.anyDimmed, hgo.results]
  refine ⟨he.ctx, ?_, fun j => ?_, fun hw => ?_, ha.steady.trans he.steady, ha.frame.trans he.frame⟩
  · rw [he.link, hnotice, notify_link, notify_link, ha.link]
  · rw [he.sides, hmark, hgo.leaf, hgo.endedSide hcause, ha.sides]
  · have hs := ha.stands hw
    obtain ⟨hnil, hfree⟩ := he.slots hs.waits
    refine ⟨hnil, fun n hn ho => ?_⟩
    refine hfree n ((hs.own c d hc hd).trans hn) ?_
    obtain h1 | ⟨-, h1⟩ := hs.slots n
    · rw [h1]; exact ho
    · exact .inr h1

end EndedAs

end Sys2Proof.Machine
end

section
/-! PROOFS. The end of a capture (R63, R64) and its partner's (R67). -/

namespace Sys2Proof.Machine

open Sys2Proof

/-! ### The mark and the exception of an end -/

theorem discardedMark_of_side {s : State} {h : Half} {c : Ctx} {r : SideRec} (hr : s.side (faceOf h) c.leaf = some r) :
    s.discardedMark h c =
      ((c.results.any fun x => x.sealStatus.isSome) && ((r.summary.map (·.discarded)).getD false)) := by
  unfold State.discardedMark Ctx.anySealed
  rw [hr]
  cases c.results.any fun x => x.sealStatus.isSome
  · rfl
  · cases hs : r.summary <;> simp [hs]

/-- The exception an end cause names (R63). -/
theorem failure_named (c : Ctx) :
    c.failure =
      if c.cause = some .noSlot then some .noSlot
      else if c.cause = some .lampUnavailable then some .lampUnavailable
      else if c.cause = some .frameMissing then some .frameMissing
      else if c.cause = some .frameTooLarge then some .frameTooLarge
      else if c.cause = some .partnerLate then some .partnerLate else none := by
  unfold Ctx.failure
  cases c.cause with
  | none => rfl
  | some k => cases k <;> rfl

theorem damaged_eq (r : StepResult) : r.damaged = decide (r.sealStatus ≠ none ∧ r.sealStatus ≠ some .good) := by
  unfold StepResult.damaged
  split
  · next h => simp [h]
  · next h => simp [h]
  · next x hx h => simp only [h, ne_eq, reduceCtorEq, not_false_eq_true, Option.some.injEq, true_and]; simpa using hx

section
variable {c : Ctx} {h : Half} {k : Nat} {b : Bool}

theorem exception_failed (ho : c.outcome = .failed) :
    c.exception h k b =
      some { kind := c.failure.getD .captureFailed, side := some (faceOf h, c.leaf), opening := k,
             captureId := some c.id,
             slot := if c.failure.isSome then none else (c.results.find? StepResult.damaged).bind (·.slot), extra := 0 } := by
  simp only [Ctx.exception, ho]
  cases c.failure <;> rfl

theorem exception_held (ho : c.outcome = .held) :
    c.exception h k b =
      some { kind := .doseHeld, side := some (faceOf h, c.leaf), opening := k, captureId := some c.id, slot := none,
             extra := capCode c.heldCap } := by
  simp only [Ctx.exception, ho]

theorem exception_success (ho : c.outcome = .complete ∨ c.outcome = .shortened) :
    c.exception h k b =
      if b = true then
        some { kind := .frameDiscarded, side := some (faceOf h, c.leaf), opening := k, captureId := some c.id,
               slot := none, extra := 0 }
      else none := by
  obtain ho | ho := ho <;> simp only [Ctx.exception, ho]

theorem exception_none (h1 : c.outcome ≠ .failed) (h2 : c.outcome ≠ .held)
    (h3 : ¬((c.outcome = .complete ∨ c.outcome = .shortened) ∧ b = true)) : c.exception h k b = none := by
  by_cases hs : c.outcome = .complete ∨ c.outcome = .shortened
  · rw [exception_success hs, if_neg fun hb => h3 ⟨hs, hb⟩]
  · unfold Ctx.exception
    cases ho : c.outcome <;> simp_all

end

/-! ### Exceptions handed on beside a side change -/

/-- The volume's exception counts after an exception is handed on (R178). -/
theorem addExceptionOf_counts (s : State) (x : Option ExcRecord) (i : Fin 16) :
    ((s.addException? x).volume i).excCount =
      (if s.mounted = some i ∧ s.account.exceptions.length < 64 ∧ x ≠ none then
        satAdd Config.maxExceptionCount (s.volume i).excCount else (s.volume i).excCount) ∧
    ((s.addException? x).volume i).excLost =
      (if s.mounted = some i ∧ ¬s.account.exceptions.length < 64 ∧ x ≠ none then
        satAdd Config.maxExceptionCount (s.volume i).excLost else (s.volume i).excLost) := by
  cases x with
  | none => simp [State.addException?]
  | some r =>
    unfold State.addException? State.addException
    cases hm : s.mounted with
    | none => simp
    | some j =>
      by_cases hl : s.account.exceptions.length < 64
      · by_cases hj : i = j
        · subst hj; simp [Config.exceptionDepth, hl, volume_congr (notify_frame ..).2.1]
        · simp [Config.exceptionDepth, hl, volume_congr (notify_frame ..).2.1, hj, Ne.symm hj]
      · by_cases hj : i = j
        · subst hj; simp [Config.exceptionDepth, hl]
        · simp [Config.exceptionDepth, hl, hj, Ne.symm hj]

/-- The notice of an exception handed on reads the volume, the list and its losses alone (R178). -/
theorem addExceptionOf_link_congr {s t : State} (hm : t.mounted = s.mounted)
    (he : t.account.exceptions = s.account.exceptions) (hl : ∀ l, t.link l = s.link l)
    (hv : ∀ i, (t.volume i).excLost = (s.volume i).excLost) (x : Option ExcRecord) (l : LinkId) :
    (t.addException? x).link l = (s.addException? x).link l := by
  cases x with
  | none => exact hl l
  | some r =>
    unfold State.addException? State.addException
    rw [hm, he]
    cases s.mounted with
    | none => exact hl l
    | some i =>
      dsimp only
      split
      · rw [notify_link, notify_link, hv]
        simp [hl]
      · exact hl l

theorem changeSide_excCounts (s : State) (f : Face) (j : Nat) (g : SideRec → SideRec) (i : Fin 16) :
    ((s.changeSide f j g).volume i).excCount = (s.volume i).excCount ∧
      ((s.changeSide f j g).volume i).excLost = (s.volume i).excLost := by
  rw [changeSide_counts]
  exact ⟨rfl, rfl⟩

section
variable {s : State} {h : Half} {c : Ctx}

theorem endOne_account (hc : s.ctx h = some c) :
    (s.endOne h).account =
      ((s.changeSide (faceOf h) c.leaf (c.endedSide h (s.discardedMark h c))).addException?
        (s.endException h c)).account := by
  rw [endOne_some hc, (evaluate_frame _).1, (returnSlot_frame _ _).2.1, endContext_account]
  simp [State.endAccount, State.endException]

/-- The volume's exception counts after the end of a capture are those of its exception handed on (R63, R178). -/
theorem endOne_counts (hc : s.ctx h = some c) (i : Fin 16) :
    ((s.endOne h).volume i).excCount = ((s.addException? (s.endException h c)).volume i).excCount ∧
      ((s.endOne h).volume i).excLost = ((s.addException? (s.endException h c)).volume i).excLost := by
  have hv : (s.endOne h).volume i = _ := congrFun (volume_congr (endOne_account hc)) i
  rw [hv]
  obtain ⟨h1, h2⟩ := addExceptionOf_counts s (s.endException h c) i
  obtain ⟨h3, h4⟩ := addExceptionOf_counts (s.changeSide (faceOf h) c.leaf (c.endedSide h (s.discardedMark h c)))
    (s.endException h c) i
  obtain ⟨h5, h6⟩ := changeSide_excCounts s (faceOf h) c.leaf (c.endedSide h (s.discardedMark h c)) i
  rw [h1, h2, h3, h4, changeSide_exceptions, changeSide_mounted, h5, h6]
  exact ⟨rfl, rfl⟩

/-- On link S the capture's notice follows its exception's (R63). -/
theorem endOne_notices (hc : s.ctx h = some c) :
    (((s.addException? (s.endException h c)).notify .S (s.endNotice h c)).link .S).notices <+:
      ((s.endOne h).link .S).notices := by
  have hexc := addExceptionOf_link_congr (s := s)
    (t := s.changeSide (faceOf h) c.leaf (c.endedSide h (s.discardedMark h c))) (changeSide_mounted ..)
    (changeSide_exceptions ..) (fun l => by simp only [State.link, changeSide_frame])
    (fun i => (changeSide_excCounts ..).2) (s.endException h c) .S
  have haccount : (s.endAccount h c).link .S = ((s.addException? (s.endException h c)).notify .S (s.endNotice h c)).link .S := by
    unfold State.endAccount
    dsimp only
    rw [notify_link, if_pos rfl, notify_link, if_neg (cameraLink_ne_S h).symm, notify_link, if_pos rfl, ← hexc]
    rfl
  have hreturn : (((s.endAccount h c).endContext h).returnSlot c.slot).link .S = (s.endAccount h c).link .S := by
    simp only [State.link, returnSlot_frame, State.endContext, withdraw_frame, setWaitOrder_links, setCtx_links]
  rw [← haccount, endOne_some hc, ← hreturn]
  exact NoticesKept.evaluate _ .S

/-! ### The slot returned -/

/-- A slot given back: FREE, or bound again (R112). -/
def Slot.GivenBack (x : Slot) : Prop := x.state = .free ∨ x.state = .open' ∧ x.captureId ≠ none

theorem bindSlot_givenBack {u : State} (g : Half) (j : Fin 8) {i : Fin 8} (hi : (u.slot i).GivenBack) :
    ((u.bindSlot g j).slot i).GivenBack := by
  cases hc : u.ctx g with
  | none => simp only [State.bindSlot, hc]; exact hi
  | some d =>
    rw [bindSlot_eq hc, setCtx_slot, setSlot_slot]
    split
    · exact .inr ⟨rfl, by simp [State.opened]⟩
    · exact hi

theorem offerOnce_givenBack {u : State} {i : Fin 8} (hi : (u.slot i).GivenBack) : (u.offerOnce.slot i).GivenBack := by
  unfold State.offerOnce
  split
  · exact hi
  · next g rest hw =>
    split
    · exact hi
    · next j hj =>
      have hbound := bindSlot_givenBack (u := u.setWaitOrder rest) g j hi
      have hslot (v : State) : ((v.stopSlotLimit g).placeRequest g).slot i = v.slot i := by
        simp only [State.slot, placeRequest_frame, stopSlotLimit_frame]
      rw [hslot]
      exact hbound

theorem endOne_givenBack (hc : s.ctx h = some c) {i : Fin 8} (hi : c.slot = some i) (ho : (s.slot i).state = .open') :
    ((s.endOne h).slot i).GivenBack := by
  have hopen : (((s.endAccount h c).endContext h).slot i).state = .open' := by
    rw [← ho]
    simp only [State.slot, State.endContext, withdraw_frame, setWaitOrder_memory, setCtx_memory, State.endAccount,
      notify_frame, addExceptionOf_frame, changeSide_frame]
  have he (u : State) : u.evaluate.slot i = u.slot i := by simp only [State.slot, evaluate_frame]
  rw [endOne_some hc, he, hi, State.returnSlot, if_pos hopen]
  refine offerOnce_givenBack (offerOnce_givenBack ?_)
  rw [setSlot_slot, if_pos rfl]
  exact .inl rfl

/-! ### The partner -/

theorem waits_iff (x : CtxState) :
    x.waits = true ↔ x = .waitSettle ∨ x = .waitPartner ∨ x = .waitSlot ∨ x = .waitLight := by
  cases x <;> simp [CtxState.waits]

theorem endCapture_unlinked (hc : s.ctx h = some c) (hl : c.linked = false) : s.endCapture h = s.endOne h := by
  simp [State.endCapture, hc, hl]

/-- A partner that waits leaves the wait order (R67). -/
theorem partnerEnded_waits {g : Half} {d : Ctx} (hd : s.ctx g = some d) (hw : d.state.waits = true) :
    s.partnerEnded g =
      (s.setCtx g (some d.alone)).setWaitOrder (s.capture.waitOrder.filter fun x => decide (x ≠ g)) := by
  simp only [State.partnerEnded, hd, hw]
  rfl

theorem partnerEnded_going {g : Half} {d : Ctx} (hd : s.ctx g = some d) (hw : d.state.waits = false) :
    s.partnerEnded g = s.setCtx g (some d.alone) := by
  simp only [State.partnerEnded, hd, hw]
  rfl

section
variable {d : Ctx} (hc : s.ctx h = some c) (hl : c.linked = true) (hd : s.ctx (otherHalf h) = some d)
include hc hl hd

/-- A partner that waits ends at once (R67): no slot is offered on the way. -/
theorem endCapture_waits (hw : d.state.waits = true) :
    s.endCapture h = ((s.partnerEnded (otherHalf h)).endOne h).endOne (otherHalf h) ∧
      (s.endCapture h).ctx (otherHalf h) = none ∧
      ∀ i, d.slot = some i → (s.slot i).state = .open' → ((s.endCapture h).slot i).state = .free := by
  have hpe := partnerEnded_waits hd hw
  have hself : (s.partnerEnded (otherHalf h)).ctx h = some c := by
    rw [hpe, setWaitOrder_ctx, setCtx_ctx, if_neg (ne_otherHalf h).symm, hc]
  have hnot : otherHalf h ∉ (s.partnerEnded (otherHalf h)).capture.waitOrder := by
    rw [hpe, setWaitOrder_capture_waitOrder]; simp
  have hctx : ((s.partnerEnded (otherHalf h)).endOne h).ctx (otherHalf h) = some d.alone := by
    rw [endOne_ctx_other _ (ne_otherHalf h) hnot, hpe, setWaitOrder_ctx, setCtx_ctx, if_pos rfl]
  have heq : s.endCapture h = ((s.partnerEnded (otherHalf h)).endOne h).endOne (otherHalf h) := by
    have hwaits : d.alone.state.waits = true := hw
    simp only [State.endCapture, hc, hl, if_true, hctx, hwaits]
  have hfilter : ((s.partnerEnded (otherHalf h)).capture.waitOrder.filter fun x => decide (x ≠ h)) = [] := by
    refine List.filter_eq_nil_iff.2 fun x hx hxh => hnot ?_
    exact half_ne (ne_otherHalf h) x (by simpa using hxh) ▸ hx
  obtain ⟨hslot, hnil, -⟩ := endOne_alone hself hfilter
  refine ⟨heq, by rw [heq]; exact endOne_self _ _, fun i hi ho => ?_⟩
  have hfirst : (((s.partnerEnded (otherHalf h)).endOne h).slot i).state = .open' ∨
      ((s.partnerEnded (otherHalf h)).endOne h).slot i = Slot.free := by
    rw [hslot]
    split
    · exact .inr rfl
    · rw [hpe]; exact .inl ho
  rw [heq, ((endOne_ended hctx).slots hnil).2 i hi hfirst]
  rfl

/-- A partner under way goes on with its step (R67). -/
theorem endCapture_partner_goes_on (hw : d.state.waits = false) (hnot : otherHalf h ∉ s.capture.waitOrder) :
    (s.endCapture h).ctx (otherHalf h) = some d.alone := by
  have hpe := partnerEnded_going hd hw
  have hctx : ((s.partnerEnded (otherHalf h)).endOne h).ctx (otherHalf h) = some d.alone := by
    rw [endOne_ctx_other _ (ne_otherHalf h) (by rw [hpe]; exact hnot), hpe, setCtx_ctx, if_pos rfl]
  have hwaits : d.alone.state.waits = false := hw
  simp [State.endCapture, hc, hl, hctx, hwaits]

end

end

/-- Settles O29: the end of one capture, part by part, and its partner's by whether it waits. -/
theorem captureEnd : Obligations.CaptureEnd := by
  intro h s c r hc hr
  extract_lets d record named firstBad exception handed done t
  have hmark : s.discardedMark h c = d := discardedMark_of_side hr
  have hexc : s.endException h c = exception := by
    have hnamed : c.failure = named := failure_named c
    have hbad : c.results.find? StepResult.damaged = firstBad := congrArg (c.results.find? ·) (funext damaged_eq)
    unfold State.endException
    rw [hmark]
    by_cases h1 : c.outcome = .failed
    · rw [exception_failed h1, hnamed, hbad]
      refine Eq.trans ?_ (if_pos h1).symm
      cases named <;> rfl
    · refine Eq.trans ?_ (if_neg h1).symm
      by_cases h2 : c.outcome = .held
      · rw [exception_held h2, if_pos h2]
      · rw [if_neg h2]
        split
        · next h3 => rw [exception_success h3.1, if_pos h3.2]
        · next h3 => exact exception_none h1 h2 h3
  have hnotice : s.endNotice h c = done := by rw [State.endNotice, hexc]; rfl
  have hframe : StepFrame s t := .endOne s h
  refine ⟨?_, fun hn => ⟨?_, ?_⟩, fun x hx => ⟨?_, fun i hi => ⟨fun hl => ?_, fun hl => ?_, ?_⟩⟩, ?_, ?_, endOne_self s h,
    endOne_notMem s h (by rw [hc]; simp), hframe.claims, hframe.idCounter, fun i => endOne_givenBack hc, ?_,
    endCapture_unlinked hc, fun hl e he => ⟨endCapture_self s h, fun hw => ?_, fun hw hnot => ?_⟩⟩
  · rw [endOne_side hc, if_pos ⟨rfl, rfl⟩, hr, hmark]
    cases h <;> rfl
  · simp only [handed, hn, State.addException?]
  · rw [endOne_exceptions hc, hexc, hn]; simp
  · simp only [handed, hx, State.addException?]
  · rw [endOne_exceptions hc, hexc, hx, if_pos ⟨by rw [hi]; simp, hl⟩]; rfl
  · rw [endOne_exceptions hc, if_neg fun hlt => absurd hlt.2 (by omega)]
  · have hcounts := endOne_counts hc i
    rwa [hexc] at hcounts
  · rw [endOne_link hc, hnotice]
  · have hnotices := endOne_notices hc
    rwa [hexc, hnotice] at hnotices
  · simp [t, State.keeps, Part.same]
  · obtain ⟨-, hnone, hslots⟩ := endCapture_waits hc hl he ((waits_iff _).2 hw)
    exact ⟨hnone, hslots⟩
  · exact endCapture_partner_goes_on hc hl he (by rw [← Bool.not_eq_true, waits_iff]; exact hw) hnot

end Sys2Proof.Machine
end

section
/-! PROOFS. The frame start, partner wait and slot wait limits (R56, R59, R65). -/

namespace Sys2Proof.Machine

open Sys2Proof

/-! ### Two captures that end one after the other -/

/-- Of two captures that end, each has its own end (R63). -/
theorem endBoth_ended {s : State} {g : Half} {x : Ctx} (k : Half) (hx : s.ctx g = some x)
    (hcause : x.cause ≠ none ∨ x.order ≠ none) : EndedAs g x s ((s.endOne k).endOne (otherHalf k)) := by
  by_cases hg : g = k
  · subst hg
    exact (endOne_ended hx).after (Aside.endOne_other (ne_otherHalf g).symm _)
  · rw [← half_ne (ne_otherHalf k) g hg]
    exact .before (Aside.endOne_other hg s) hx hcause fun d hd _ => endOne_ended hd

/-- An end with a cause adds the same exception after the other half's. -/
theorem endException_after {s : State} {k g : Half} {x d : Ctx} (hg : g ≠ k) (hd : x.GoesOn d)
    (hcause : x.cause ≠ none ∨ x.order ≠ none) : (s.endOne k).endException g d = s.endException g x := by
  have ha := Aside.endOne_other hg s
  rw [State.endException, State.endException, EndedAs.discardedMark_aside ha hd, hd.exception hcause,
    ha.steady.opening_k]

/-- The record of the side whose capture ended (R62 to R64). -/
theorem EndedAs.side {s u : State} {h : Half} {c : Ctx} {r : SideRec} (he : EndedAs h c s u)
    (hr : s.side (faceOf h) c.leaf = some r) :
    u.side (faceOf h) c.leaf = some (c.endedSide h
      ((c.results.any fun x => x.sealStatus.isSome) && ((r.summary.map (·.discarded)).getD false)) r) := by
  rw [he.sides, if_pos rfl, hr, discardedMark_of_side hr]
  rfl

/-! ### The captures of a pair at the slot wait limit -/

/-- Both members with their end causes, out of the wait order (R56). -/
def State.bothSlotless (s : State) (a b : Ctx) : State :=
  ((s.setCtx .left (some a.slotless)).setCtx .right (some b.slotless)).setWaitOrder []

section
variable {s : State} {a b : Ctx}

/-- The member without a slot ends first, the left one where neither holds one (R56, log 14). -/
theorem pairSlotWait_eq (ha : s.ctx .left = some a) (hb : s.ctx .right = some b) {k : Half}
    (hk : k = if a.state = .waitSlot then .left else .right) :
    s.pairSlotWait = ((s.bothSlotless a b).endOne k).endOne (otherHalf k) := by
  simp only [State.pairSlotWait, ha, hb]
  split at hk <;> subst hk
  · next h => exact if_pos h
  · next h => exact if_neg h

theorem bothSlotless_ctx (ha : s.ctx .left = some a) (hb : s.ctx .right = some b) {g : Half} {x : Ctx}
    (hx : s.ctx g = some x) : (s.bothSlotless a b).ctx g = some x.slotless := by
  cases g
  · obtain rfl := Option.some.inj (ha.symm.trans hx)
    simp [State.bothSlotless]
  · obtain rfl := Option.some.inj (hb.symm.trans hx)
    simp [State.bothSlotless]

end

section
variable {x : Ctx}

theorem slotless_noSlot (hw : x.state = .waitSlot) : x.slotless.cause = some .noSlot := by
  simp [Ctx.slotless, hw]

theorem slotless_partnerEnded (hw : x.state ≠ .waitSlot) : x.slotless.cause = some .partnerEnded := by
  simp [Ctx.slotless, hw]

theorem slotless_failed (hw : x.state = .waitSlot) (ho : x.order = none) : x.slotless.outcome = .failed :=
  outcome_failed ho (by simp [slotless_noSlot hw]) (.inl (by simp [Ctx.failure, slotless_noSlot hw, EndCause.failure]))

theorem slotless_cancelled (hw : x.state ≠ .waitSlot) (ho : x.order = none)
    (hs : ∀ y ∈ x.results, y.sealStatus = none) : x.slotless.outcome = .cancelled :=
  outcome_partnerEnded ho (slotless_partnerEnded hw) ((anySealed_false x.slotless).2 hs)

theorem slotless_exception (hw : x.state = .waitSlot) (ho : x.order = none) (h : Half) (k : Nat) (b : Bool) :
    x.slotless.exception h k b =
      some { kind := .noSlot, side := some (faceOf h, x.leaf), opening := k, captureId := some x.id, slot := none,
             extra := 0 } := by
  have hf : x.slotless.failure = some .noSlot := by simp [Ctx.failure, slotless_noSlot hw, EndCause.failure]
  rw [exception_failed (slotless_failed hw ho), hf]
  rfl

theorem slotless_noException (hw : x.state ≠ .waitSlot) (ho : x.order = none)
    (hs : ∀ y ∈ x.results, y.sealStatus = none) (h : Half) (k : Nat) (b : Bool) : x.slotless.exception h k b = none := by
  have hout := slotless_cancelled hw ho hs
  exact exception_none (by rw [hout]; decide) (by rw [hout]; decide) (by rw [hout]; rintro ⟨h | h, -⟩ <;> cases h)

end

/-! ### The limits of one capture -/

section
variable {s : State} {h : Half} {c : Ctx}

theorem setCause_some (hc : s.ctx h = some c) (x : EndCause) (cap : Option Cap) :
    s.setCause h x cap = s.setCtx h (some { c with cause := some x, heldCap := cap }) := by
  simp only [State.setCause, hc]

theorem frameMissing_eq (hc : s.ctx h = some c) :
    s.frameMissing h =
      if c.state = .awaitFrame ∧ c.frameTimer ≠ none then
        (s.setCtx h (some { c with cause := some .frameMissing, heldCap := none })).endCapture h
      else s := by
  simp only [State.frameMissing, hc, setCause_some hc, Option.isSome_iff_ne_none]

theorem partnerLate_eq (hc : s.ctx h = some c) :
    s.partnerLate h =
      if c.state = .waitPartner ∧ c.partnerTimer ≠ none then
        (s.setCtx h (some { c with cause := some .partnerLate, heldCap := none })).endCapture h
      else s := by
  simp only [State.partnerLate, hc, setCause_some hc, Option.isSome_iff_ne_none]

theorem slotWaitEnds_stopped (hc : s.ctx h = some c) (ht : c.slotTimer = none) : s.slotWaitEnds h = s := by
  simp [State.slotWaitEnds, hc, ht]

theorem slotWaitEnds_linked (hc : s.ctx h = some c) (ht : c.slotTimer ≠ none) (hl : c.linked = true) :
    s.slotWaitEnds h = s.pairSlotWait := by
  simp [State.slotWaitEnds, hc, ht, hl]

theorem slotWaitEnds_unlinked (hc : s.ctx h = some c) (ht : c.slotTimer ≠ none) (hl : c.linked = false) :
    s.slotWaitEnds h =
      if c.state = .waitSlot then (s.setCtx h (some { c with cause := some .noSlot, heldCap := none })).endOne h
      else s := by
  simp [State.slotWaitEnds, hc, ht, hl, setCause_some hc]

end

/-! ### The pair at the slot wait limit -/

section
variable {s u : State} {k : Half} {x y : Ctx}

theorem slotless_notice (hw : x.state = .waitSlot) (ho : x.order = none) :
    s.endNotice k x.slotless =
      .captureDone x.id k x.leaf .failed x.results.length (x.results.any (·.dimmed)) (some .noSlot) := by
  rw [State.endNotice, slotless_failed hw ho, State.endException, slotless_exception hw ho]
  rfl

/-- The first end's exception stands before the other's, if it has one (R63, R178). -/
theorem endBoth_exceptions (hx : s.ctx k = some x) (hy : s.ctx (otherHalf k) = some y) (hcause : y.cause ≠ none)
    (hm : s.mounted ≠ none) (hl : s.account.exceptions.length < 64) :
    s.account.exceptions ++ (s.endException k x).toList <+:
        ((s.endOne k).endOne (otherHalf k)).account.exceptions ∧
      (s.account.exceptions.length < 63 ∨ s.endException (otherHalf k) y = none →
        ((s.endOne k).endOne (otherHalf k)).account.exceptions =
          s.account.exceptions ++ (s.endException k x).toList ++ (s.endException (otherHalf k) y).toList) := by
  have hfirst := endOne_exceptions hx
  rw [if_pos ⟨hm, hl⟩] at hfirst
  have ha := Aside.endOne_other (ne_otherHalf k) s
  have hb := Aside.endOne_other (ne_otherHalf k).symm (s.endOne k)
  refine ⟨hfirst ▸ hb.exceptions, fun hroom => ?_⟩
  obtain ⟨d, hd, hgo⟩ := ha.ctx.2 y hy
  rw [endOne_exceptions hd, endException_after (ne_otherHalf k) hgo (.inl hcause), hfirst]
  obtain hroom | hnone := hroom
  · refine if_pos ⟨by rw [(Steady.refl s).endOne.mounted]; exact hm, ?_⟩
    have htwo : (s.endException k x).toList.length ≤ 1 := by cases s.endException k x <;> simp
    rw [List.length_append]
    omega
  · rw [hnone]
    split <;> simp

end

/-- Settles O32: one end with its cause, or both members' ends in their order. -/
theorem captureLimits : Obligations.CaptureLimits := by
  intro h s
  have hsame {c : Instr} {t : State} (hx : exec c s = .next (s.arbitrate t)) (ht : t = s) : exec c s = .next s := by
    rw [hx, ht, arbitrate_same rfl rfl rfl]
  have hframe : exec (.frameStartLimitExpiry h) s = .next (s.arbitrate (s.frameMissing h)) := rfl
  have hpartner : exec (.partnerWaitLimitExpiry h) s = .next (s.arbitrate (s.partnerLate h)) := rfl
  have hslot : exec (.slotWaitLimitExpiry h) s = .next (s.arbitrate (s.slotWaitEnds h)) := rfl
  dsimp only
  refine ⟨fun hn => ⟨hsame hframe ?_, hsame hpartner ?_, hsame hslot ?_⟩, fun c hc => ⟨fun h1 h2 => ?_, fun hn => ?_,
    fun h1 h2 => ?_, fun hn => ?_, fun ht => hsame hslot (slotWaitEnds_stopped hc ht), fun ht hl hw => ?_,
    fun hl hw => ?_, fun ht hl d hd => ?_⟩⟩
  · simp only [State.frameMissing, hn]
  · simp only [State.partnerLate, hn]
  · simp only [State.slotWaitEnds, hn]
  · rw [hframe, frameMissing_eq hc, if_pos ⟨h1, h2⟩]
  · exact hsame hframe (by rw [frameMissing_eq hc, if_neg fun ⟨a, b⟩ => hn.elim (· a) b])
  · rw [hpartner, partnerLate_eq hc, if_pos ⟨h1, h2⟩]
  · exact hsame hpartner (by rw [partnerLate_eq hc, if_neg fun ⟨a, b⟩ => hn.elim (· a) b])
  · rw [hslot, slotWaitEnds_unlinked hc ht hl, if_pos hw]
  · refine hsame hslot ?_
    by_cases ht : c.slotTimer = none
    · exact slotWaitEnds_stopped hc ht
    · rw [slotWaitEnds_unlinked hc ht hl, if_neg hw]
  · obtain ⟨a, b, ha, hb⟩ : ∃ a b, s.ctx .left = some a ∧ s.ctx .right = some b := by
      cases h
      · exact ⟨c, d, hc, hd⟩
      · exact ⟨d, c, hd, hc⟩
    have hfirst : ∃ k, k = if a.state = .waitSlot then Half.left else .right := ⟨_, rfl⟩
    obtain ⟨k, hk⟩ := hfirst
    have hctx {g : Half} {x : Ctx} (hx : s.ctx g = some x) := bothSlotless_ctx ha hb hx
    have hended {g : Half} {x : Ctx} (hx : s.ctx g = some x) :=
      endBoth_ended k (hctx hx) (.inl (by simp [Ctx.slotless]))
    have hexceptions {x y : Ctx} (hx : s.ctx k = some x) (hy : s.ctx (otherHalf k) = some y) :=
      endBoth_exceptions (hctx hx) (hctx hy) (by simp [Ctx.slotless])
    rw [hslot, slotWaitEnds_linked hc ht hl, pairSlotWait_eq ha hb hk]
    refine ⟨_, rfl, (hended ha).ctx, (hended hb).ctx, ((hended ha).slots rfl).1, by simp [State.keeps, Part.same,
      State.bothSlotless], fun g x hx => ⟨fun n hn ho => ((hended hx).slots rfl).2 n hn (.inl ho),
      fun r hr => ⟨_, (hended hx).side hr, rfl, rfl, rfl, rfl, rfl⟩, fun hw ho => ⟨slotless_failed hw ho, sideAfter_undone
        (.inl (slotless_failed hw ho)), ?_⟩, fun hw ho hs => ⟨slotless_cancelled hw ho hs, sideAfter_undone
        (.inr (.inl (slotless_cancelled hw ho hs)))⟩⟩, fun g x y hx hy hw ho hm => ?_⟩
    · rw [(hended hx).link, slotless_notice hw ho]
      rfl
    · have hgk (hor : y.state ≠ .waitSlot ∨ g = .left) : g = k := by
        cases g
        · obtain rfl := Option.some.inj (ha.symm.trans hx)
          rw [hk, if_pos hw]
        · obtain rfl := Option.some.inj (ha.symm.trans hy)
          rw [hk, if_neg (by simpa using hor)]
      have hrec : (s.bothSlotless a b).endException g x.slotless = some _ := slotless_exception hw ho _ _ _
      refine ⟨fun hor hlen => ?_, fun hyw hyo hys hlen => ?_, fun hyw hyo hg hlen => ?_⟩
      · obtain rfl := hgk hor
        have hprefix := (hexceptions hx hy hm hlen).1
        rwa [hrec] at hprefix
      · obtain rfl := hgk (.inl hyw)
        have hnone : (s.bothSlotless a b).endException (otherHalf g) y.slotless = none :=
          slotless_noException hyw hyo hys _ _ _
        rw [(hexceptions hx hy hm hlen).2 (.inr hnone), hnone, Option.toList_none, List.append_nil, hrec]
        rfl
      · obtain rfl := hgk (.inr hg)
        have hsecond : (s.bothSlotless a b).endException (otherHalf g) y.slotless = some _ :=
          slotless_exception hyw hyo _ _ _
        rw [(hexceptions hx hy hm (Nat.lt_succ_of_lt hlen)).2 (.inl hlen), hrec, hsecond]
        subst hg
        simp [otherHalf, State.bothSlotless]

end Sys2Proof.Machine
end

section
/-! PROOFS. CAPTURE accepted (R52, R55, R65, R66): the claim consumed, the context in its first state, the pair. -/

namespace Sys2Proof.Machine

open Sys2Proof

/-! ### The first state of a capture's context -/

/-- A capture with its record `c0` has begun as `c`: alone, or as a pair with its waiting partner. -/
structure State.Begun (s v : State) (h : Half) (c0 : Ctx) (partner : Option Ctx) (c : Ctx) : Prop where
  ctx : v.ctx h = some c
  record : c = { c0 with
    state := c.state, slot := c.slot, linked := c.linked, partnerTimer := c.partnerTimer, slotTimer := c.slotTimer }
  linked : c.linked = true ↔ partner ≠ none
  other : partner = none → v.ctx (otherHalf h) = s.ctx (otherHalf h)
  pairSettling : ∀ d, partner = some d → s.opening.state = .settling →
    v.ctx (otherHalf h) = some { d with linked := true, partnerTimer := none, state := .waitSettle } ∧
      v.light = s.light ∧ v.memory = s.memory ∧ v.capture.waitOrder = s.capture.waitOrder
  pair : ∀ d, partner = some d → s.opening.state ≠ .settling →
    s.pairBegun v (if h = .left then c else { d with linked := true, partnerTimer := none })
      (if h = .left then { d with linked := true, partnerTimer := none } else c)
  slot : c.state ≠ .waitLight → c.slot = none
  awaits : partner = none → c0.copy.mode = .paired → c.state = .waitPartner ∧ c.partnerTimer = some 2000
  settles : partner ≠ none ∨ c0.copy.mode = .unpaired → s.opening.state = .settling → c.state = .waitSettle
  single : partner = none → c0.copy.mode = .unpaired → s.opening.state ≠ .settling → s.stepBegun v h c0

/-- A context whose step has begun: with its slot, it waits for light; without, for a slot (R55). -/
def Ctx.Stepped (a c : Ctx) : Prop :=
  (∃ n t, c = { a with slot := some n, state := .waitLight, slotTimer := t }) ∨
    c = { a with state := .waitSlot, slotTimer := some 10000 }

theorem Ctx.Stepped.record {a c : Ctx} (h : a.Stepped c) :
    c = { a with state := c.state, slot := c.slot, slotTimer := c.slotTimer } := by
  obtain ⟨n, t, rfl⟩ | rfl := h <;> rfl

theorem Ctx.Stepped.slot {a c : Ctx} (h : a.Stepped c) (hw : c.state ≠ .waitLight) : c.slot = a.slot := by
  obtain ⟨n, t, rfl⟩ | rfl := h
  · exact absurd rfl hw
  · rfl

section
variable {s u : State} {a b c : Ctx}

theorem pairBegun_stepped (hp : s.pairBegun u a b) :
    (∃ c, u.ctx .left = some c ∧ a.Stepped c) ∧ ∃ d, u.ctx .right = some d ∧ b.Stepped d := by
  obtain ⟨hfree, hnone⟩ := hp
  cases hf : s.freeSlots with
  | nil =>
    obtain ⟨hl, hr, -⟩ := hnone hf
    exact ⟨⟨_, hl, .inr rfl⟩, _, hr, .inr rfl⟩
  | cons n rest =>
    obtain ⟨htwo, hone⟩ := hfree n rest hf
    cases rest with
    | nil =>
      obtain ⟨hl, hr, -⟩ := hone rfl
      exact ⟨⟨_, hl, .inl ⟨n, _, rfl⟩⟩, _, hr, .inr rfl⟩
    | cons m rest' =>
      obtain ⟨hl, hr, -⟩ := htwo m rest' rfl
      exact ⟨⟨_, hl, .inl ⟨n, _, rfl⟩⟩, _, hr, .inl ⟨m, _, rfl⟩⟩

/-- The step of a pair has begun for a left context as the step leaves it, too. -/
theorem pairBegun_left (hp : s.pairBegun u a b) (hc : u.ctx .left = some c) : s.pairBegun u c b := by
  refine ⟨fun n rest hf => ⟨fun m rest' hr => ?_, fun hr => ?_⟩, fun hf => ?_⟩
  · have h := (hp.1 n rest hf).1 m rest' hr
    obtain rfl := Option.some.inj (hc.symm.trans h.1)
    exact h
  · have h := (hp.1 n rest hf).2 hr
    obtain rfl := Option.some.inj (hc.symm.trans h.1)
    exact h
  · have h := hp.2 hf
    obtain rfl := Option.some.inj (hc.symm.trans h.1)
    exact h

theorem pairBegun_right (hp : s.pairBegun u a b) (hc : u.ctx .right = some c) : s.pairBegun u a c := by
  refine ⟨fun n rest hf => ⟨fun m rest' hr => ?_, fun hr => ?_⟩, fun hf => ?_⟩
  · have h := (hp.1 n rest hf).1 m rest' hr
    obtain rfl := Option.some.inj (hc.symm.trans h.2.1)
    exact h
  · have h := (hp.1 n rest hf).2 hr
    obtain rfl := Option.some.inj (hc.symm.trans h.2.1)
    exact h
  · have h := hp.2 hf
    obtain rfl := Option.some.inj (hc.symm.trans h.2.1)
    exact h

end

/-! ### The four beginnings -/

section
variable {s : State} {h : Half} {c0 d : Ctx}

/-- A pair begins its first step at once (R65, R66). -/
theorem begun_pair (hslot : c0.slot = none) (hs : s.opening.state ≠ .settling) :
    ∃ c, s.Begun (s.beginCapture h c0 (some d)) h c0 (some d) c := by
  have heq : s.beginCapture h c0 (some d) = (s.linkPair h c0 d .waitSlot).startPair := by
    simp [State.beginCapture, hs]
  let c1 : Ctx := { c0 with linked := true, state := .waitSlot }
  let d1 : Ctx := { d with linked := true, partnerTimer := none, state := .waitSlot }
  have hself : (s.linkPair h c0 d .waitSlot).ctx h = some c1 := by
    simp [State.linkPair, (ne_otherHalf h).symm, c1]
  have hother : (s.linkPair h c0 d .waitSlot).ctx (otherHalf h) = some d1 := by
    simp [State.linkPair, d1]
  have hbegun : s.pairBegun (s.linkPair h c0 d .waitSlot).startPair (if h = .left then c1 else d1)
      (if h = .left then d1 else c1) := by
    cases h
    · exact startPair_begun hself hother rfl
    · exact startPair_begun hother hself rfl
  obtain ⟨c, hc, hstep⟩ : ∃ c, (s.linkPair h c0 d .waitSlot).startPair.ctx h = some c ∧ c1.Stepped c := by
    obtain ⟨hl, hr⟩ := pairBegun_stepped hbegun
    cases h
    · exact hl
    · exact hr
  have hrecord := hstep.record
  have hlinked : c.linked = true := by rw [hrecord]
  rw [heq]
  exact ⟨c,
    { ctx := hc
      record := by rw [hrecord]
      linked := by simp [hlinked]
      other := fun hn => absurd hn (by simp)
      pairSettling := fun _ _ hx => absurd hx hs
      pair := fun e he _ => by
        obtain rfl := Option.some.inj he
        cases h
        · exact pairBegun_left hbegun hc
        · exact pairBegun_right hbegun hc
      slot := fun hw => (hstep.slot hw).trans hslot
      awaits := fun hn => absurd hn (by simp)
      settles := fun _ hx => absurd hx hs
      single := fun hn => absurd hn (by simp) }⟩

/-- A pair waits for the settle expiry (R54, R65). -/
theorem begun_pairSettling (hslot : c0.slot = none) (hs : s.opening.state = .settling) :
    ∃ c, s.Begun (s.beginCapture h c0 (some d)) h c0 (some d) c := by
  have heq : s.beginCapture h c0 (some d) = s.linkPair h c0 d .waitSettle := by simp [State.beginCapture, hs]
  rw [heq]
  exact ⟨{ c0 with linked := true, state := .waitSettle },
    { ctx := by simp [State.linkPair, (ne_otherHalf h).symm]
      record := rfl
      linked := by simp
      other := fun hn => absurd hn (by simp)
      pairSettling := fun e he _ => by
        obtain rfl := Option.some.inj he
        exact ⟨by simp [State.linkPair], rfl, rfl, rfl⟩
      pair := fun _ _ hx => absurd hs hx
      slot := fun _ => hslot
      awaits := fun hn => absurd hn (by simp)
      settles := fun _ _ => rfl
      single := fun hn => absurd hn (by simp) }⟩

/-- A PAIRED capture without a partner waits for one (R65). -/
theorem begun_waitPartner (hlink : c0.linked = false) (hslot : c0.slot = none) (hm : c0.copy.mode = .paired) :
    ∃ c, s.Begun (s.beginCapture h c0 none) h c0 none c := by
  have heq : s.beginCapture h c0 none =
      s.setCtx h (some { c0 with state := .waitPartner, partnerTimer := some 2000 }) := by
    simp [State.beginCapture, hm, Config.partnerWaitMs]
  rw [heq]
  exact ⟨{ c0 with state := .waitPartner, partnerTimer := some 2000 },
    { ctx := by simp
      record := rfl
      linked := by simp [hlink]
      other := fun _ => by simp [ne_otherHalf]
      pairSettling := fun _ he => absurd he (by simp)
      pair := fun _ he => absurd he (by simp)
      slot := fun _ => hslot
      awaits := fun _ _ => ⟨rfl, rfl⟩
      settles := fun hn => by simp [hm] at hn
      single := fun _ hu => by simp [hm] at hu }⟩

/-- An UNPAIRED capture waits for the settle expiry (R54). -/
theorem begun_settling (hlink : c0.linked = false) (hslot : c0.slot = none) (hm : c0.copy.mode = .unpaired)
    (hs : s.opening.state = .settling) : ∃ c, s.Begun (s.beginCapture h c0 none) h c0 none c := by
  have heq : s.beginCapture h c0 none = s.setCtx h (some { c0 with state := .waitSettle }) := by
    simp [State.beginCapture, hm, hs]
  rw [heq]
  exact ⟨{ c0 with state := .waitSettle },
    { ctx := by simp
      record := rfl
      linked := by simp [hlink]
      other := fun _ => by simp [ne_otherHalf]
      pairSettling := fun _ he => absurd he (by simp)
      pair := fun _ he => absurd he (by simp)
      slot := fun _ => hslot
      awaits := fun _ hp => by simp [hm] at hp
      settles := fun _ _ => rfl
      single := fun _ _ hx => absurd hs hx }⟩

/-- An UNPAIRED capture begins its first step at once (R55). -/
theorem begun_single (hlink : c0.linked = false) (hslot : c0.slot = none) (hm : c0.copy.mode = .unpaired)
    (hs : s.opening.state ≠ .settling) : ∃ c, s.Begun (s.beginCapture h c0 none) h c0 none c := by
  have heq : s.beginCapture h c0 none = (s.setCtx h (some c0)).startStep h := by simp [State.beginCapture, hm, hs]
  have hself : (s.setCtx h (some c0)).ctx h = some c0 := by simp
  have hbegun : s.stepBegun ((s.setCtx h (some c0)).startStep h) h c0 := startStep_begun hself hlink
  obtain ⟨c, hc, hstep⟩ : ∃ c, ((s.setCtx h (some c0)).startStep h).ctx h = some c ∧ c0.Stepped c := by
    cases hf : s.freeSlots with
    | nil => exact ⟨_, (hbegun.2 hf).1, .inr rfl⟩
    | cons n rest => exact ⟨_, (hbegun.1 n rest hf).1, .inl ⟨n, _, rfl⟩⟩
  have hrecord := hstep.record
  have hlinked : c.linked = false := by rw [hrecord]; exact hlink
  rw [heq]
  exact ⟨c,
    { ctx := hc
      record := by rw [hrecord]
      linked := by simp [hlinked]
      other := fun _ => by
        rw [startStep_ctx_other hself hlink (ne_otherHalf h), setCtx_ctx, if_neg (ne_otherHalf h)]
      pairSettling := fun _ he => absurd he (by simp)
      pair := fun _ he => absurd he (by simp)
      slot := fun hw => (hstep.slot hw).trans hslot
      awaits := fun _ hp => by simp [hm] at hp
      settles := fun _ hx => absurd hx hs
      single := fun _ _ _ => hbegun }⟩

/-- The first state of a capture's context, by its partner, its mode and the opening state (R52, R65). -/
theorem beginCapture_begun (hlink : c0.linked = false) (hslot : c0.slot = none) (partner : Option Ctx) :
    ∃ c, s.Begun (s.beginCapture h c0 partner) h c0 partner c := by
  by_cases hs : s.opening.state = .settling
  · cases partner with
    | some d => exact begun_pairSettling hslot hs
    | none =>
      cases hm : c0.copy.mode
      · exact begun_settling hlink hslot hm hs
      · exact begun_waitPartner hlink hslot hm
  · cases partner with
    | some d => exact begun_pair hslot hs
    | none =>
      cases hm : c0.copy.mode
      · exact begun_single hlink hslot hm hs
      · exact begun_waitPartner hlink hslot hm

theorem StepFrame.beginCapture (s : State) (h : Half) (c0 : Ctx) (partner : Option Ctx) :
    StepFrame s (s.beginCapture h c0 partner) := by
  have hlink (d : Ctx) (st : CtxState) : StepFrame s (s.linkPair h c0 d st) := (setCtx s _ _).trans (setCtx _ _ _)
  unfold State.beginCapture
  dsimp only
  split
  · split
    · exact hlink _ _
    · exact (hlink _ _).trans (startPair _)
  · split
    · exact setCtx s _ _
    · split
      · exact setCtx s _ _
      · exact (setCtx s _ _).trans (startStep _ _)

theorem beginCapture_frame (s : State) (h : Half) (c0 : Ctx) (partner : Option Ctx) :
    (s.beginCapture h c0 partner).opening = s.opening ∧ (s.beginCapture h c0 partner).account = s.account ∧
      (s.beginCapture h c0 partner).mem = s.mem ∧ (s.beginCapture h c0 partner).drain = s.drain ∧
      (s.beginCapture h c0 partner).pending = s.pending := by
  unfold State.beginCapture State.linkPair
  dsimp only
  (repeat' split) <;> simp

end

/-! ### The acceptance -/

section
variable {s : State} {h : Half} {j : Nat}

/-- The side is CAPTURING, the claim consumed and the id counter advanced (R52, R53). -/
def State.acceptBase (s : State) (h : Half) (j : Nat) (prior : Undone) : State :=
  let s1 := (s.changeSide (faceOf h) j fun r =>
    { r with state := .capturing, owner := some h, prior := some prior }).setClaim h none
  { s1 with capture := { s1.capture with idCounter := nextId s.capture.idCounter } }

/-- The context as the acceptance fills it (R52). -/
def State.acceptCtx (s : State) (number j : Nat) (prior : Undone) (p : Program) : Ctx :=
  freshCtx (nextId s.capture.idCounter) j number prior p .waitSlot

theorem acceptCapture_eq (s : State) (h : Half) (number j : Nat) (x : SideState) (p : Program) (partner : Option Ctx) :
    s.acceptCapture h number j x p partner =
      let v := (s.acceptBase h j (s.priorFor h x)).beginCapture h (s.acceptCtx number j (s.priorFor h x) p) partner
      ⟨v.evaluate, .accepted, v.captureBody h (nextId s.capture.idCounter) j p.steps.length⟩ := rfl

theorem acceptBase_frame (s : State) (h : Half) (j : Nat) (prior : Undone) :
    (s.acceptBase h j prior).opening = s.opening ∧ (s.acceptBase h j prior).light = s.light ∧
      (s.acceptBase h j prior).memory = s.memory ∧ (s.acceptBase h j prior).mem = s.mem ∧
      (s.acceptBase h j prior).drain = s.drain ∧ (s.acceptBase h j prior).pending = s.pending ∧
      (s.acceptBase h j prior).capture =
        { s.capture with claims := s.capture.claims.set h none, idCounter := nextId s.capture.idCounter } := by
  unfold State.acceptBase State.setClaim
  simp

theorem acceptBase_ctx (s : State) (h : Half) (j : Nat) (prior : Undone) : (s.acceptBase h j prior).ctx = s.ctx := by
  funext g
  obtain ⟨-, -, -, -, -, -, hcapture⟩ := acceptBase_frame s h j prior
  exact (congrArg (fun q : Capture => q.ctxs.get g) hcapture).trans rfl

theorem Steady.acceptCapture (s : State) (h : Half) (j : Nat) (prior : Undone) (c0 : Ctx) (partner : Option Ctx) :
    Steady s ((s.acceptBase h j prior).beginCapture h c0 partner).evaluate :=
  (show Steady s (s.acceptBase h j prior) from (Steady.refl s).changeSide.setClaim.setCapture).beginCapture.evaluate

/-- Every check passed (R51): the acceptance. -/
theorem tryCapture_accepts {i : Fin 16} {r : SideRec} (hj : s.presentLeaf h = some j)
    (hr : s.side (faceOf h) j = some r) (hp : (s.program i).mode = .paired → s.presentLeaf (otherHalf h) ≠ none)
    (hc : s.ctx h = none) (h1 : r.state ≠ .captured) (h2 : r.state ≠ .exempt) (h3 : r.state ≠ .held)
    (hfits : s.programFits h (s.checkedCopy h i) = true) (hlamps : s.lampsAvailable (s.checkedCopy h i) = true) :
    s.tryCapture h i =
      s.acceptCapture h i.val j r.state (s.checkedCopy h i) (s.partnerFor h i.val (s.program i)) := by
  have hx : s.presentState h = some r.state := by simp [State.presentState, hj, hr]
  have hboth : ¬((s.program i).mode = .paired ∧ s.presentLeaf (otherHalf h) = none) := fun hb => hp hb.1 hb.2
  have hdone : doneRefusal r.state = none := by cases hs : r.state <;> simp_all [doneRefusal]
  unfold State.checkedCopy at hfits hlamps ⊢
  unfold State.tryCapture
  simp only [hj, hx, if_neg hboth, hc, hdone, Option.isSome_none, Bool.false_eq_true, if_false]
  cases hpart : s.partnerFor h i.val (s.program i) <;> simp_all

theorem priorFor_claim {x : SideState} {c : Claim} (hc : s.claimOf h = some c) : s.priorFor h x = c.prior := by
  simp only [State.priorFor, hc]

theorem priorFor_found {p : Undone} (hc : s.claimOf h = none) : s.priorFor h p.toSide = p := by
  simp only [State.priorFor, hc]
  cases p <;> rfl

end

theorem settled_of_works {x : OpeningState} (h : x.works = true) (hs : x ≠ .settling) : x.settled = true := by
  cases x <;> simp_all [OpeningState.works, OpeningState.settled]

section
variable {s s' u u' : State} (hm : s'.memory = s.memory) (hl : s'.light = s.light)
  (hw : s'.capture.waitOrder = s.capture.waitOrder) (hv : s'.opening = s.opening) (hc : u'.capture = u.capture)
  (hm' : u'.memory = u.memory) (hl' : u'.light = u.light)

theorem slot_congr (hm : s'.memory = s.memory) : s'.slot = s.slot := by
  funext x
  simp only [State.slot, hm]

theorem ctx_congr (hc : u'.capture = u.capture) : u'.ctx = u.ctx := by
  funext g
  simp only [State.ctx, hc]

theorem freeSlots_congr (hm : s'.memory = s.memory) : s'.freeSlots = s.freeSlots := by
  simp only [State.freeSlots, slot_congr hm]

theorem opened_congr (hv : s'.opening = s.opening) : s'.opened = s.opened := by
  funext g c
  simp only [State.opened, hv]

include hm hl hw hv hc hm' hl'

/-- A step begun is read off the slots, the light unit, the wait order and the mounted volume alone. -/
theorem stepBegun_congr {h : Half} {c : Ctx} (hp : s'.stepBegun u' h c) : s.stepBegun u h c := by
  simpa only [State.stepBegun, freeSlots_congr hm, slot_congr hm, slot_congr hm', opened_congr hv, ctx_congr hc, hl, hl',
    hw, hc] using hp

theorem pairBegun_congr {a b : Ctx} (hp : s'.pairBegun u' a b) : s.pairBegun u a b := by
  simpa only [State.pairBegun, freeSlots_congr hm, slot_congr hm, slot_congr hm', opened_congr hv, ctx_congr hc, hl, hl',
    hw, hc] using hp

end

/-- Settles O27: the reply is `acceptCapture`, and the context's first state is that of `beginCapture_begun`. -/
theorem captureAccepted : Obligations.CaptureAccepted := by
  intro h i s j r l f table partner copy id hp hworks hj hr hpaired hfree h1 h2 h3 hfits hlamps
  obtain ⟨act, hexec, hact⟩ := exec_capture h (b1 i.val) s
  let s0 := s.taken (cameraLink h) 0x62
  let prior := s.priorFor h r.state
  let base := s0.acceptBase h j prior
  let c0 := s.acceptCtx i.val j prior copy
  let v := base.beginCapture h c0 partner
  obtain ⟨hbo, hbl, hbm, hbmem, hbd, hbp, hbc⟩ := acceptBase_frame s0 h j prior
  obtain ⟨hvo, hva, hvmem, hvd, hvp⟩ := beginCapture_frame base h c0 partner
  obtain ⟨c, hbegun⟩ := beginCapture_begun (s := base) (h := h) (c0 := c0) rfl rfl partner
  have hframe := StepFrame.beginCapture base h c0 partner
  let body := be 2 id ++ be 2 j ++ [b1 f.code, b1 copy.steps.length, b1 c.state.code]
  have hreply : act s0 = ⟨v.evaluate, .accepted, body⟩ := by
    have hi : finOf 16 (b1 i.val).toNat = some i := finOf_eq (by simp [b1]; omega)
    rw [(hact s0).2.2 i hworks hi, tryCapture_accepts (s := s0) hj hr hpaired hfree h1 h2 h3 hfits hlamps,
      acceptCapture_eq]
    have hcode : v.ctxCode h = c.state.code := by simp only [State.ctxCode, v, hbegun.ctx]
    change (⟨v.evaluate, .accepted, v.captureBody h _ j _⟩ : Reply) = _
    rw [State.captureBody, hcode]
    rfl
  have hports : (s0.link (cameraLink h)).SamePort (v.evaluate.link (cameraLink h)) :=
    (Steady.acceptCapture s0 h j prior c0 partner).ports (cameraLink h)
  obtain ⟨hea, hec, hel, hem, hemem, hed, hep⟩ := evaluate_frame v
  let u := v.evaluate.answered (cameraLink h) 0x62 .accepted body
  have hask : exec (.capture (cameraLink h) (b1 i.val)) s = .next (s.arbitrate u) := by
    rw [hexec]
    exact congrArg _ ((Passes.capture h (b1 i.val)).reply hp hreply (hports.dropAnswer.trans (taken_dropAnswer _ _ _ _)))
  have hcapture : u.capture = v.capture := by rw [(answered_frame ..).2.2.1, hec]
  have hlight : u.light = v.light := by rw [(answered_frame ..).2.2.2.1, hel]
  have hmemory : u.memory = v.memory := by rw [(answered_frame ..).2.2.2.2.1, hem]
  have haccount : u.account = base.account := by rw [(answered_frame ..).2.1, hea, hva]
  have hctx (g : Half) : u.ctx g = v.ctx g := congrFun (ctx_congr hcapture) g
  have hbctx (g : Half) : base.ctx g = s.ctx g := congrFun (acceptBase_ctx s0 h j prior) g
  have hwait : base.capture.waitOrder = s.capture.waitOrder := (congrArg Capture.waitOrder hbc).trans rfl
  have hprior : c.prior = prior := by rw [hbegun.record]; rfl
  refine ⟨u, c, hask, answered_hasAnswer ?_ _ _ _, ?_, ?_, (hctx h).trans hbegun.ctx, ?_, fun x hx => ?_,
    fun hx p hrp => ?_, ?_, hbegun.linked, fun hn => ?_, fun d hd => ⟨fun hs => ?_, fun hs => ?_⟩, hbegun.slot,
    hbegun.awaits, fun hm hs => hbegun.settles hm (hbo.symm ▸ hs), fun hn hm hs => ?_, fun hs => ?_, ?_⟩
  · rw [hports.request]; simp [s0]
  · rw [hcapture, hframe.idCounter, hbc]; rfl
  · rw [State.claimOf, hcapture, hframe.claims, hbc]; simp
  · rw [hbegun.record]; exact ⟨rfl, rfl, rfl, rfl, rfl, rfl, rfl, rfl⟩
  · exact hprior.trans (priorFor_claim hx)
  · rw [hprior]; simp only [prior, hrp, priorFor_found hx]
  · rw [side_congr (congrArg Account.leaves haccount)]
    change (s0.changeSide (faceOf h) j _).side f j = _
    rw [changeSide_side, if_pos ⟨rfl, rfl⟩, hprior]
    exact congrArg (Option.map _) hr
  · rw [hctx, hbegun.other hn, hbctx]
  · obtain ⟨h1, h2, h3, h4⟩ := hbegun.pairSettling d hd (by rw [hbo]; exact hs)
    exact ⟨(hctx _).trans h1, by rw [hlight, h2, hbl]; rfl, by rw [hmemory, h3, hbm]; rfl,
      by rw [hcapture, h4, hwait]⟩
  · exact pairBegun_congr hbm hbl hwait hbo hcapture.symm hmemory.symm hlight.symm
      (hbegun.pair d hd (by rw [hbo]; exact hs))
  · have hstep : s.stepBegun u h c0 := stepBegun_congr hbm hbl hwait hbo hcapture.symm hmemory.symm hlight.symm
      (hbegun.single hn hm (by rw [hbo]; exact hs))
    have huc := (hctx h).trans hbegun.ctx
    refine ⟨fun n hfree => ?_, fun hnone => ?_⟩
    · cases hf : s.freeSlots with
      | nil => rw [freeSlots_nil.1 hf] at hfree; cases hfree
      | cons m rest =>
        obtain rfl := Option.some.inj ((lowestFree_of_freeSlots hf).symm.trans hfree)
        obtain ⟨h1, h2, h3, -⟩ := hstep.1 m rest hf
        obtain rfl := Option.some.inj (huc.symm.trans h1)
        have hslot := (h2 m).trans (if_pos rfl)
        refine ⟨rfl, rfl, by rw [hslot]; rfl, by rw [hslot]; rfl, by rw [hslot]; rfl, by rw [hslot]; rfl,
          by rw [hslot]; rfl, ?_⟩
        rw [h3]
        exact List.mem_append_right _ (List.mem_singleton.2 (Ctx.request_congr rfl rfl rfl h))
    · obtain ⟨h1, -, -, h4⟩ := hstep.2 (freeSlots_nil.2 hnone)
      obtain rfl := Option.some.inj (huc.symm.trans h1)
      exact ⟨rfl, rfl, h4⟩
  · have hflight : v.inFlight = true := (inFlight_iff v).2
      ((exists_half fun g => v.ctx g ≠ none).1 ⟨h, by rw [hbegun.ctx]; simp⟩)
    have hvopen : v.opening = s.opening := hvo.trans hbo
    have hsettled : v.opening.state.settled = true := by
      rw [hvopen]; exact settled_of_works hworks hs
    rw [(answered_frame ..).1, evaluate_settled hsettled, takeEvaluated_opening]
    exact evaluated_inFlight hflight
  · have hmem : v.mem = s.mem := hvmem.trans hbmem
    have hdrain : v.drain = s.drain := hvd.trans hbd
    have hpending : v.pending = s.pending := hvp.trans hbp
    exact keeps_answered (by simp [State.keeps, Part.same, hmem, hdrain, hpending]) (by simp)

end Sys2Proof.Machine
end

section
/-! PROOFS. The confirm inputs and the confirm window (R88). -/

namespace Sys2Proof.Machine

open Sys2Proof

/-! ### One change to many lamps -/

section
variable {f : Lamp → Lamp}

/-- Every lamp of a list changed in turn. -/
theorem foldl_setLamp_lamp (hf : ∀ x, f (f x) = f x) (xs : List (Fin 8)) (s : State) (n : Fin 8) :
    (xs.foldl (fun a i => a.setLamp i (f (a.lamp i))) s).lamp n = if n ∈ xs then f (s.lamp n) else s.lamp n := by
  induction xs generalizing s with
  | nil => simp
  | cons x xs ih =>
    rw [List.foldl_cons, ih, setLamp_lamp]
    by_cases hn : n = x
    · subst hn
      simp [hf]
    · simp [hn]

/-- Lamps changed in turn leave the rest of the state. -/
theorem foldl_setLamp_rest (xs : List (Fin 8)) (s : State) :
    xs.foldl (fun a i => a.setLamp i (f (a.lamp i))) s =
      { s with light := { s.light with lamps := (xs.foldl (fun a i => a.setLamp i (f (a.lamp i))) s).light.lamps } } := by
  induction xs generalizing s with
  | nil => rfl
  | cons x xs ih => rw [List.foldl_cons, ih]; rfl

end

theorem miss_miss (x : Lamp) : x.miss.miss = x.miss := by
  unfold Lamp.miss
  by_cases h : x.state = .firing <;> simp [h]

theorem fire_fire (x : Lamp) : x.fire.fire = x.fire := rfl

/-! ### The confirm input -/

theorem confirmRises_outside {s : State} {n : Fin 8} (h : ∀ f, s.light.flash = some f → f.window = none) :
    s.confirmRises n = s := by
  unfold State.confirmRises
  split
  · rfl
  · next f hf => rw [h f hf]; rfl

theorem confirmRises_inside {s : State} {n : Fin 8} {f : Flash} (hf : s.light.flash = some f) (hw : f.window ≠ none) :
    s.confirmRises n = { s with light := { s.light with flash := some (f.confirm n) } } := by
  simp only [State.confirmRises, hf, Option.isSome_iff_ne_none.2 hw, if_true]

/-! ### The confirm window -/

theorem mem_marked {f : Flash} {c : Confirm} {n : Fin 8} :
    n ∈ f.marked c ↔ ∃ x ∈ f.lamps, x.lamp = n ∧ x.confirm = c := by
  simp only [Flash.marked, List.mem_map, List.mem_filter, decide_eq_true_eq]
  exact ⟨fun ⟨x, ⟨h1, h2⟩, h3⟩ => ⟨x, h1, h3, h2⟩, fun ⟨x, h1, h3, h2⟩ => ⟨x, ⟨h1, h2⟩, h3⟩⟩

/-- The window closed: the record's marks, and the missed lamps FAULTED (R88). -/
def State.closeWindow (s : State) (f : Flash) : State :=
  (f.marked .pending).foldl (fun a i => a.setLamp i (a.lamp i).miss)
    { s with light := { s.light with flash := some f.closeWindow } }

theorem closeWindow_lamp (s : State) (f : Flash) (n : Fin 8) :
    (s.closeWindow f).lamp n = if n ∈ f.marked .pending then (s.lamp n).miss else s.lamp n :=
  foldl_setLamp_lamp miss_miss _ _ n

theorem closeWindow_rest (s : State) (f : Flash) :
    s.closeWindow f =
      { s with light := { s.light with lamps := (s.closeWindow f).light.lamps, flash := some f.closeWindow } } :=
  foldl_setLamp_rest (f := Lamp.miss) _ _

theorem windowCloses_closed {s : State} (h : ∀ f, s.light.flash = some f → f.window = none) : s.windowCloses = s := by
  unfold State.windowCloses
  split
  · rfl
  · next f hf => rw [h f hf]; rfl

theorem windowCloses_open {s : State} {f : Flash} (hf : s.light.flash = some f) (hw : f.window ≠ none) :
    s.windowCloses = if f.marked .pending = [] then s.closeWindow f else (s.closeWindow f).takeCause .lampFault := by
  simp only [State.windowCloses, hf, Option.isNone_iff_eq_none, hw, if_false, List.isEmpty_iff]
  rfl

theorem takeCause_settled {s : State} {c : FaultCause}
    (h : s.opening.state = .idle ∨ s.opening.state = .parked ∨ s.opening.state = .fault) : s.takeCause c = s := by
  obtain h | h | h := h <;> simp only [State.takeCause, h]

theorem takeCause_faults {s : State} {c : FaultCause} (h1 : s.opening.state ≠ .idle) (h2 : s.opening.state ≠ .parked)
    (h3 : s.opening.state ≠ .fault) : s.takeCause c = s.enterFault c := by
  unfold State.takeCause
  split <;> simp_all

section
variable {s : State} {f : Flash}

/-- A lamp after the window has closed (R88). -/
theorem closeWindow_missed {n : Fin 8} :
    ((∃ x ∈ f.lamps, x.lamp = n ∧ x.confirm = .pending) → (s.lamp n).state = .firing →
      (s.closeWindow f).lamp n = { s.lamp n with state := .faulted, recharge := none }) ∧
    (¬(∃ x ∈ f.lamps, x.lamp = n ∧ x.confirm = .pending) ∨ (s.lamp n).state ≠ .firing →
      (s.closeWindow f).lamp n = s.lamp n) := by
  rw [closeWindow_lamp, ← mem_marked]
  refine ⟨fun hm hs => ?_, fun hor => ?_⟩
  · rw [if_pos hm, Lamp.miss, if_pos hs]
  · split
    · next hm => rw [Lamp.miss, if_neg (hor.resolve_left fun h => h hm)]
    · rfl

theorem closeWindow_keeps (s : State) (f : Flash) :
    s.keeps (s.closeWindow f) [.opening, .account, .capture, .memory, .mem, .drain, .links, .pending] := by
  rw [closeWindow_rest]
  simp [State.keeps, Part.same]

theorem closeWindow_arbitrate (s : State) (f : Flash) : s.arbitrate (s.closeWindow f) = s.closeWindow f := by
  rw [closeWindow_rest]
  exact arbitrate_same rfl rfl rfl

theorem closeWindow_none (h : f.marked .pending = []) :
    s.closeWindow f = { s with light := { s.light with flash := some f.closeWindow } } := by
  unfold State.closeWindow
  rw [h]
  rfl

end

end Sys2Proof.Machine
end

section
/-! SUPPORT. What the ends of both halves' captures keep: a capture followed to its end, the light unit, the doses. -/

namespace Sys2Proof.Machine

open Sys2Proof

/-! ### A capture followed to its end -/

/-- A half's capture `c` goes on since a state, or has ended. -/
def Followed (h : Half) (c : Ctx) (s t : State) : Prop := Aside h s t ∨ EndedAs h c s t

section
variable {s t u : State} {h : Half} {c : Ctx}

theorem Followed.after (hf : Followed h c s t) (ha : Aside h t u) : Followed h c s u :=
  hf.imp (·.trans ha) (·.after ha)

theorem Followed.ended (hf : Followed h c s t) (hc : s.ctx h = some c) (hn : t.ctx h = none) : EndedAs h c s t := by
  refine hf.resolve_left fun ha => ?_
  obtain ⟨d, hd, -⟩ := ha.ctx.2 c hc
  rw [hn] at hd
  cases hd

/-- A capture with a cause or an order keeps its end through whatever ends. -/
theorem followed_endKeeps (hc : s.ctx h = some c) (hcause : c.cause ≠ none ∨ c.order ≠ none) :
    EndKeeps (Followed h c s) where
  partner g hf := hf.after (.partnerEnded _ g)
  one {t} g hf := by
    by_cases hg : h = g
    · subst hg
      obtain ha | he := hf
      · exact .inr (.before ha hc hcause fun d hd _ => endOne_ended hd)
      · rw [endOne_none he.ctx]
        exact .inr he
    · exact hf.after (.endOne_other hg _)

/-- A half without a capture is left aside by the ends of both. -/
theorem aside_endKeeps (h : Half) (s : State) : EndKeeps fun t => Aside h s t ∧ t.ctx h = none where
  partner g hs := ⟨hs.1.trans (.partnerEnded _ g), (Aside.partnerEnded _ g).ctx.1 hs.2⟩
  one {t} g hs := by
    by_cases hg : h = g
    · subst hg
      rw [endOne_none hs.2]
      exact hs
    · exact ⟨hs.1.trans (.endOne_other hg t), (Aside.endOne_other hg t).ctx.1 hs.2⟩

/-- The end of a capture with a cause or an order, and of its partner's, as its half sees it (R63, R67). -/
theorem endCapture_ended (hc : s.ctx h = some c) (hcause : c.cause ≠ none ∨ c.order ≠ none) :
    EndedAs h c s (s.endCapture h) :=
  ((followed_endKeeps hc hcause).endCapture h (.inl (.refl s))).ended hc (endCapture_self s h)

end

namespace EndKeeps

variable {P : State → Prop} {s : State}

theorem endIfOrdered (hP : EndKeeps P) (h : Half) (hs : P s) : P (s.endIfOrdered h) := by
  unfold State.endIfOrdered
  split
  · exact hs
  · split
    · exact hP.endCapture h hs
    · exact hs

theorem endAllOrdered (hP : EndKeeps P) (hs : List Half) {s : State} (h : P s) : P (hs.foldl State.endIfOrdered s) := by
  induction hs generalizing s with
  | nil => exact h
  | cons g gs ih => exact ih (hP.endIfOrdered g h)

end EndKeeps

/-! ### The light unit -/

/-- Of the light unit, the requests held alone change. -/
def HeldOnly (s t : State) : Prop := t.light = { s.light with held := t.light.held }

section
variable {s t u : State}

theorem HeldOnly.of_eq (h : t.light = s.light) : HeldOnly s t := by rw [HeldOnly, h]

theorem HeldOnly.trans (h : HeldOnly s t) (h' : HeldOnly t u) : HeldOnly s u := by
  unfold HeldOnly at *
  rw [h', h]

theorem HeldOnly.placeRequest (s : State) (g : Half) : HeldOnly s (s.placeRequest g) := by
  unfold State.placeRequest
  (repeat' split) <;> rfl

theorem HeldOnly.offerOnce (s : State) : HeldOnly s s.offerOnce := by
  unfold State.offerOnce
  split
  · rfl
  · split
    · rfl
    · exact (of_eq (by simp)).trans (placeRequest _ _)

theorem HeldOnly.returnSlot (s : State) (x : Option (Fin 8)) : HeldOnly s (s.returnSlot x) := by
  unfold State.returnSlot
  split
  · rfl
  · split
    · exact ((of_eq (t := s.setSlot _ .free) rfl).trans (offerOnce _)).trans (offerOnce _)
    · rfl

theorem heldOnly_endKeeps (s0 : State) : EndKeeps (HeldOnly s0) where
  partner g hs := hs.trans (.of_eq (by simp))
  one {s} g hs := by
    refine hs.trans ?_
    cases hc : s.ctx g with
    | none => rw [endOne_none hc]; rfl
    | some c =>
      have haccount : (s.endAccount g c).light = s.light := by simp [State.endAccount]
      rw [endOne_some hc]
      have hcontext : HeldOnly (s.endAccount g c) ((s.endAccount g c).endContext g) := rfl
      exact (((HeldOnly.of_eq haccount).trans hcontext).trans (.returnSlot _ _)).trans (.of_eq (evaluate_frame _).2.2.1)

end

/-! ### The doses -/

/-- The leaves and the volumes keep their doses, and the volumes outside the cradle everything. -/
structure DosesKept (s t : State) : Prop where
  mounted : t.mounted = s.mounted
  leaves : ∀ j e, leafAt s.account.leaves j = some e → ∃ e', leafAt t.account.leaves j = some e' ∧ e'.dose = e.dose
  used : ∀ i, (t.volume i).doseUsed = (s.volume i).doseUsed
  others : ∀ i, s.mounted ≠ some i → t.volume i = s.volume i

/-- An exception handed on writes the volume in the cradle alone, and not its dose. -/
theorem addExceptionOf_volumes (s : State) (x : Option ExcRecord) :
    (s.addException? x).volume = s.volume ∨
      ∃ k v, s.mounted = some k ∧ (∀ i, (s.addException? x).volume i = if i = k then v else s.volume i) ∧
        v.doseUsed = (s.volume k).doseUsed := by
  cases x with
  | none => exact .inl rfl
  | some r =>
    unfold State.addException? State.addException
    cases hm : s.mounted with
    | none => exact .inl rfl
    | some k =>
      dsimp only
      split
      · exact .inr ⟨k, { s.volume k with excCount := satAdd Config.maxExceptionCount (s.volume k).excCount }, rfl,
          fun i => by rw [volume_congr (notify_frame ..).2.1, setVolume_volume]; rfl, rfl⟩
      · exact .inr ⟨k, _, rfl, fun i => setVolume_volume .., rfl⟩

namespace DosesKept

variable {s t u : State}

theorem of_eq (h : t.account = s.account) : DosesKept s t where
  mounted := mounted_congr (congrArg Account.volumes h)
  leaves j e he := ⟨e, by rw [h]; exact he, rfl⟩
  used i := by rw [volume_congr h]
  others i _ := by rw [volume_congr h]

theorem trans (h : DosesKept s t) (h' : DosesKept t u) : DosesKept s u where
  mounted := h'.mounted.trans h.mounted
  leaves j e he := by
    obtain ⟨e1, h1, hd⟩ := h.leaves j e he
    obtain ⟨e2, h2, hd'⟩ := h'.leaves j e1 h1
    exact ⟨e2, h2, hd'.trans hd⟩
  used i := (h'.used i).trans (h.used i)
  others i hi := (h'.others i (by rw [h.mounted]; exact hi)).trans (h.others i hi)

theorem changeSide (s : State) (f : Face) (j : Nat) (g : SideRec → SideRec) : DosesKept s (s.changeSide f j g) where
  mounted := changeSide_mounted s f j g
  leaves i e he := by
    cases hr : s.side f j with
    | none => rw [changeSide_none hr]; exact ⟨e, he, rfl⟩
    | some r =>
      rw [changeSide_leaves hr, leafAt_modifyLeaf, he]
      split
      · exact ⟨_, rfl, by cases f <;> rfl⟩
      · exact ⟨e, rfl, rfl⟩
  used i := by rw [changeSide_counts]
  others i hi := by
    unfold State.changeSide
    split
    · rfl
    · dsimp only
      split
      · rfl
      · next k hk =>
        rw [setVolume_volume, if_neg]
        · rfl
        · rintro rfl; exact hi hk

theorem addException? (s : State) (x : Option ExcRecord) : DosesKept s (s.addException? x) where
  mounted := (Steady.refl s).addException?.mounted
  leaves j e he := ⟨e, by rw [addExceptionOf_leaves]; exact he, rfl⟩
  used i := by
    obtain h | ⟨k, v, hk, hv, hd⟩ := addExceptionOf_volumes s x
    · rw [h]
    · rw [hv]
      split
      · next hi => rw [hi, hd]
      · rfl
  others i hi := by
    obtain h | ⟨k, v, hk, hv, -⟩ := addExceptionOf_volumes s x
    · rw [h]
    · rw [hv, if_neg]
      rintro rfl
      exact hi hk

end DosesKept

theorem dosesKept_endKeeps (s0 : State) : EndKeeps (DosesKept s0) where
  partner g hs := hs.trans (.of_eq (partnerEnded_frame _ g).2.1)
  one {s} g hs := by
    refine hs.trans ?_
    cases hc : s.ctx g with
    | none => rw [endOne_none hc]; exact .of_eq rfl
    | some c => exact ((DosesKept.changeSide s _ _ _).trans (.addException? _ _)).trans (.of_eq (endOne_account hc))

end Sys2Proof.Machine
end

section
/-! SUPPORT. The flash end in its stages (R58, R89, R90, R92, R103): lamps and charge, step results, ordered ends, notices,
the last flash and the gap. -/

namespace Sys2Proof.Machine

open Sys2Proof

/-! ### The arbiters with the light unit busy -/

theorem StepFrame.requests {s t : State} (h : StepFrame s t) (hd : t.drain = s.drain) : t.requests = s.requests := by
  have ho : t.memory.owed = s.memory.owed := by rw [h.memory]
  have he : t.memory.engine = s.memory.engine := by rw [h.memory]
  have hx : t.rx = s.rx := by funext g; exact congrArg (fun m => m.rx.get g) h.memory
  funext r
  cases r <;> simp only [State.requests, hx, ho, he, hd]

/-- Steps of captures begin nothing at the memory arbiter. -/
theorem StepFrame.decideIfBegan {s t : State} (h : StepFrame s t) (hd : t.drain = s.drain) : s.decideIfBegan t = t := by
  unfold State.decideIfBegan
  rw [if_neg]
  rw [h.requests hd]
  simp

theorem decideLight_busy {s : State} (h : s.lightFree = false) : s.decideLight = s := by
  simp [State.decideLight, lightDecisions, h]

theorem StepFrame.arbitrate_busy {s t : State} (h : StepFrame s t) (hd : t.drain = s.drain) (hb : t.lightFree = false) :
    s.arbitrate t = t := by
  have hp : s.decideIfPlaced t = t := by
    unfold State.decideIfPlaced
    rw [decideLight_busy hb, ite_self]
  unfold State.arbitrate
  rw [hp, h.decideIfBegan hd]

/-! ### The charge -/

/-- A dose added to a leaf, if there is one (R103). -/
def addDose (t : List LeafEntry) (j : Option Nat) (d : Nat) : List LeafEntry :=
  match j with
  | none => t
  | some j => modifyLeaf t j fun e => { e with dose := e.dose + d }

theorem leafAt_addDose (t : List LeafEntry) (j : Option Nat) (d i : Nat) :
    leafAt (addDose t j d) i = (leafAt t i).map fun e => { e with dose := e.dose + if j = some i then d else 0 } := by
  cases j with
  | none => cases h : leafAt t i <;> simp [addDose, h]
  | some j =>
    rw [addDose, leafAt_modifyLeaf]
    by_cases hj : i = j
    · subst hj; simp
    · cases h : leafAt t i <;> simp [hj, Ne.symm hj]

section
variable (s : State) (a b : Option Nat) (dl dr : Nat)

theorem charge_leaves : (s.charge a b dl dr).account.leaves = addDose (addDose s.account.leaves a dl) b dr := by
  unfold State.charge
  dsimp only
  split <;> rfl

theorem charge_volume (i : Fin 16) :
    (s.charge a b dl dr).volume i =
      if s.mounted = some i then { s.volume i with doseUsed := (s.volume i).doseUsed + (dl + dr) } else s.volume i := by
  unfold State.charge
  dsimp only
  rw [setLeaves_mounted]
  cases hm : s.mounted with
  | none => simp
  | some k =>
    by_cases hk : i = k
    · subst hk; simp
    · simp [hk, Ne.symm hk]

theorem charge_side : (s.charge a b dl dr).side = s.side := by
  funext f j
  simp only [State.side, charge_leaves, leafAt_addDose, Option.map_map]
  congr 1

end

/-! ### The step results -/

/-- A context with its step result: without an order it awaits its frame (R58). -/
def Ctx.flashed (c : Ctx) (r : StepResult) : Ctx :=
  if c.order.isSome then { c with results := c.results ++ [r] }
  else { c with results := c.results ++ [r], state := .awaitFrame, frameTimer := some 1000 }

theorem recordFlash_eq (s : State) (h : Half) (r : StepResult) :
    s.recordFlash h r = s.setCtx h ((s.ctx h).map (·.flashed r)) := by
  cases hc : s.ctx h with
  | none => simp only [State.recordFlash, hc]; rw [Option.map_none, ← hc, setCtx_same]
  | some c =>
    simp only [State.recordFlash, hc]
    rfl

theorem flashed_order (c : Ctx) (r : StepResult) : (c.flashed r).order = c.order := by
  unfold Ctx.flashed
  split <;> rfl

/-! ### The stages -/

section
variable (s : State) (f : Flash)

/-- The charge on a half (R103). -/
def Flash.chargeOn (f : Flash) : Half → Nat
  | .left => f.chargeLeft
  | .right => f.chargeRight

/-- The lamps let go and the doses charged (R89, R103). -/
def State.flashCharged : State :=
  (s.mapLamps Lamp.endFlash).charge f.leftLeaf f.rightLeaf f.chargeLeft f.chargeRight

/-- The step results recorded (R58). -/
def State.flashRecorded : State :=
  f.served.halves.foldl (fun a h => a.recordFlash h (f.result f.chargeLeft f.chargeRight)) (s.flashCharged f)

/-- The captures whose ends were ordered ended (R68). -/
def State.flashSettled : State := f.served.halves.foldl State.endIfOrdered (s.flashRecorded f)

/-- The camera of a half served is told (R90). -/
def State.tellFired (s0 : State) (h : Half) : State :=
  if f.served.serves h then s.notify (cameraLink h) (f.fired h (s0.frameWanted h) (f.chargeOn h)) else s

/-- The light unit after the flash (R89, R92). -/
def Light.dark (l : Light) : Light :=
  { l with
    flash := none, grant := none, gap := some 2000,
    lastFlash := some
      { served := f.served, level := f.levelUsed, duration := f.duration, confirmed := maskOf (f.marked .confirmed),
        unconfirmed := maskOf (f.marked .missed) } }

theorem endFlash_eq :
    s.endFlash f =
      let v := ((s.flashSettled f).tellFired f s .left).tellFired f s .right
      { v with light := v.light.dark f } := rfl

theorem tellFired_frame (s0 : State) (h : Half) :
    (s.tellFired f s0 h).opening = s.opening ∧ (s.tellFired f s0 h).account = s.account ∧
      (s.tellFired f s0 h).capture = s.capture ∧ (s.tellFired f s0 h).light = s.light ∧
      (s.tellFired f s0 h).memory = s.memory ∧ (s.tellFired f s0 h).mem = s.mem ∧
      (s.tellFired f s0 h).drain = s.drain ∧ (s.tellFired f s0 h).pending = s.pending := by
  unfold State.tellFired
  split <;> simp

theorem tellFired_link (s0 : State) (h : Half) (l : LinkId) :
    (s.tellFired f s0 h).link l =
      if f.served.serves h = true ∧ l = cameraLink h then
        (s.notify l (f.fired h (s0.frameWanted h) (f.chargeOn h))).link l
      else s.link l := by
  unfold State.tellFired
  by_cases hs : f.served.serves h = true
  · by_cases hl : l = cameraLink h
    · subst hl; simp [hs]
    · simp [hs, hl]
  · simp [hs]

/-- The parts of the state after the flash end. -/
theorem endFlash_parts :
    (s.endFlash f).opening = (s.flashSettled f).opening ∧ (s.endFlash f).account = (s.flashSettled f).account ∧
      (s.endFlash f).capture = (s.flashSettled f).capture ∧ (s.endFlash f).light = (s.flashSettled f).light.dark f ∧
      (s.endFlash f).memory = (s.flashSettled f).memory ∧ (s.endFlash f).mem = (s.flashSettled f).mem ∧
      (s.endFlash f).drain = (s.flashSettled f).drain ∧ (s.endFlash f).pending = (s.flashSettled f).pending := by
  rw [endFlash_eq]
  simp only [tellFired_frame, and_self]

theorem endFlash_link (l : LinkId) :
    (s.endFlash f).link l = (((s.flashSettled f).tellFired f s .left).tellFired f s .right).link l := rfl

theorem endFlash_cameraLink (h : Half) :
    (s.endFlash f).link (cameraLink h) =
      if f.served.serves h = true then
        ((s.flashSettled f).notify (cameraLink h) (f.fired h (s.frameWanted h) (f.chargeOn h))).link (cameraLink h)
      else (s.flashSettled f).link (cameraLink h) := by
  rw [endFlash_link, tellFired_link]
  cases h
  · rw [if_neg (by simp [cameraLink]), tellFired_link]
    simp
  · have hleft : ((s.flashSettled f).tellFired f s .left).link .R = (s.flashSettled f).link .R := by
      rw [tellFired_link, if_neg (by simp [cameraLink])]
    simp [cameraLink, hleft]

theorem endFlash_otherLink {l : LinkId} (hl : ∀ h, l ≠ cameraLink h) :
    (s.endFlash f).link l = (s.flashSettled f).link l := by
  rw [endFlash_link, tellFired_link, if_neg fun h => hl _ h.2, tellFired_link, if_neg fun h => hl _ h.2]

theorem flashRecorded_ctx (h : Half) :
    (s.flashRecorded f).ctx h =
      if f.served.serves h = true then (s.ctx h).map (·.flashed (f.result f.chargeLeft f.chargeRight)) else s.ctx h := by
  have hctx (g : Half) : (s.flashCharged f).ctx g = s.ctx g := by
    simp [State.flashCharged, State.ctx]
  unfold State.flashRecorded
  cases hs : f.served <;> cases h <;>
    simp [Served.halves, Served.serves, recordFlash_eq, hctx]

/-- Recording step results changes the contexts alone. -/
theorem flashRecorded_rest :
    s.flashRecorded f =
      { s.flashCharged f with
        capture := { (s.flashCharged f).capture with ctxs := (s.flashRecorded f).capture.ctxs } } := by
  unfold State.flashRecorded
  cases f.served <;> simp only [Served.halves, List.foldl_cons, List.foldl_nil, recordFlash_eq] <;> rfl

theorem flashCharged_frame :
    (s.flashCharged f).opening = s.opening ∧ (s.flashCharged f).capture = s.capture ∧
      (s.flashCharged f).memory = s.memory ∧ (s.flashCharged f).mem = s.mem ∧ (s.flashCharged f).drain = s.drain ∧
      (s.flashCharged f).links = s.links ∧ (s.flashCharged f).pending = s.pending ∧
      (s.flashCharged f).light = (s.mapLamps Lamp.endFlash).light := by
  simp [State.flashCharged]

end

end Sys2Proof.Machine
end

section
/-! PROOFS. The flash (R58, R88, R89, R90, R92, R103), settled: confirm inputs, the confirm window and the flash end. -/

namespace Sys2Proof.Machine

open Sys2Proof

/-! ### Ordered ends at the flash end -/

theorem endIfOrdered_ordered {s : State} {h : Half} {c : Ctx} (hc : s.ctx h = some c) (ho : c.order ≠ none) :
    s.endIfOrdered h = s.endCapture h := by
  simp [State.endIfOrdered, hc, Option.isSome_iff_ne_none, ho]

theorem endIfOrdered_none {s : State} {h : Half} (ho : ∀ c, s.ctx h = some c → c.order = none) :
    s.endIfOrdered h = s := by
  unfold State.endIfOrdered
  split
  · rfl
  · next c hc => simp [ho c hc]

/-- A capture ordered to end, followed so far, has ended after its own half. -/
theorem endIfOrdered_self {s t : State} {h : Half} {c : Ctx} (hf : Followed h c s t) (hc : s.ctx h = some c)
    (ho : c.order ≠ none) : (t.endIfOrdered h).ctx h = none := by
  obtain ha | he := hf
  · obtain ⟨d, hd, hgo⟩ := ha.ctx.2 c hc
    rw [endIfOrdered_ordered hd (by rw [hgo.order]; exact ho)]
    exact endCapture_self t h
  · rw [endIfOrdered_none (by simp [he.ctx])]
    exact he.ctx

theorem endAllOrdered_ends {s : State} {h : Half} {c : Ctx} {v : Served} (hs : v.serves h = true)
    (hc : s.ctx h = some c) (ho : c.order ≠ none) : EndedAs h c s (v.halves.foldl State.endIfOrdered s) := by
  have hkeeps := followed_endKeeps hc (.inr ho)
  refine (hkeeps.endAllOrdered v.halves (.inl (.refl s))).ended hc ?_
  have hself := endIfOrdered_self (.inl (.refl s)) hc ho
  cases v with
  | left => cases h <;> simp_all [Served.serves, Served.halves]
  | right => cases h <;> simp_all [Served.serves, Served.halves]
  | pair =>
    cases h with
    | left => exact ((aside_endKeeps .left _).endIfOrdered .right ⟨.refl _, hself⟩).2
    | right => exact endIfOrdered_self (hkeeps.endIfOrdered .left (.inl (.refl s))) hc ho

theorem endAllOrdered_none {s : State} (v : Served) (ho : ∀ h c, s.ctx h = some c → c.order = none) :
    v.halves.foldl State.endIfOrdered s = s := by
  have hone (h : Half) : s.endIfOrdered h = s := endIfOrdered_none (ho h)
  cases v <;> simp [Served.halves, hone]

/-- The partner of a capture ordered to end, with none ordered of its own, goes on (R67). -/
theorem endAllOrdered_partner {s : State} {h : Half} {c d : Ctx} (hc : s.ctx h = some c) (ho : c.order ≠ none)
    (hl : c.linked = true) (hd : s.ctx (otherHalf h) = some d) (hn : d.order = none) (hw : d.state.waits = false)
    (hnot : otherHalf h ∉ s.capture.waitOrder) :
    (Served.pair.halves.foldl State.endIfOrdered s).ctx (otherHalf h) = some d.alone := by
  have hend := endCapture_partner_goes_on hc hl hd hw hnot
  have hself := endIfOrdered_ordered hc ho
  have hother {t : State} {e : Ctx} (ht : t.ctx (otherHalf h) = some e) (he : e.order = none) :
      t.endIfOrdered (otherHalf h) = t :=
    endIfOrdered_none fun x hx => by rw [← Option.some.inj (ht.symm.trans hx), he]
  cases h with
  | left =>
    change ((s.endIfOrdered .left).endIfOrdered .right).ctx .right = _
    rw [hself]
    exact (congrArg (State.ctx · .right) (hother hend hn)).trans hend
  | right =>
    change ((s.endIfOrdered .left).endIfOrdered .right).ctx .left = _
    rw [show s.endIfOrdered .left = s from hother hd hn, hself]
    exact hend

/-! ### The stages of the flash end, as the statement reads them -/

theorem rest_endKeeps (s : State) : EndKeeps fun t => t.mem = s.mem ∧ t.drain = s.drain ∧ t.pending = s.pending where
  partner g hs := by simpa using hs
  one g hs := by simpa using hs

section
variable (s : State) (f : Flash)

theorem flashRecorded_links : (s.flashRecorded f).links = s.links := by
  obtain ⟨-, -, -, -, -, hlinks, -⟩ := flashCharged_frame s f
  rw [flashRecorded_rest]
  exact hlinks

theorem flashRecorded_memory : (s.flashRecorded f).memory = s.memory := by
  obtain ⟨-, -, hmemory, -⟩ := flashCharged_frame s f
  rw [flashRecorded_rest]
  exact hmemory

theorem flashRecorded_account : (s.flashRecorded f).account = (s.flashCharged f).account := by
  rw [flashRecorded_rest]

theorem flashRecorded_waitOrder : (s.flashRecorded f).capture.waitOrder = s.capture.waitOrder := by
  obtain ⟨-, hcapture, -⟩ := flashCharged_frame s f
  have hwait : (s.flashCharged f).capture.waitOrder = s.capture.waitOrder := by rw [hcapture]
  rw [flashRecorded_rest]
  exact hwait

theorem flashRecorded_frame : StepFrame s (s.flashRecorded f) := by
  obtain ⟨-, hcapture, hmemory, -⟩ := flashCharged_frame s f
  have hcharged : StepFrame s (s.flashCharged f) := .of_same hcapture hmemory
  rw [flashRecorded_rest]
  exact ⟨hcharged.claims, hcharged.idCounter, hcharged.memory⟩

theorem flashRecorded_side : (s.flashRecorded f).side = s.side := by
  rw [side_congr (congrArg Account.leaves (flashRecorded_account s f))]
  exact charge_side ..

theorem StepFrame.endFlash : StepFrame s (s.endFlash f) := by
  obtain ⟨-, -, hcapture, -, hmemory, -⟩ := endFlash_parts s f
  exact ((flashRecorded_frame s f).trans ((stepFrame_endKeeps _).endAllOrdered _ (.refl _))).trans
    (.of_same hcapture hmemory)

theorem endFlash_rest :
    (s.endFlash f).mem = s.mem ∧ (s.endFlash f).drain = s.drain ∧ (s.endFlash f).pending = s.pending := by
  obtain ⟨-, -, -, -, -, hmem, hdrain, hpending⟩ := endFlash_parts s f
  obtain ⟨h1, h2, h3⟩ := (rest_endKeeps (s.flashRecorded f)).endAllOrdered f.served.halves ⟨rfl, rfl, rfl⟩
  obtain ⟨-, -, -, h4, h5, -, h6, -⟩ := flashCharged_frame s f
  rw [hmem, hdrain, hpending, State.flashSettled, h1, h2, h3, flashRecorded_rest]
  exact ⟨h4, h5, h6⟩

/-- The light unit after the flash end. -/
theorem endFlash_light :
    (s.endFlash f).light = { (s.mapLamps Lamp.endFlash).light.dark f with held := (s.endFlash f).light.held } := by
  have hsettled : HeldOnly (s.flashRecorded f) (s.flashSettled f) := (heldOnly_endKeeps _).endAllOrdered _ rfl
  obtain ⟨-, -, -, -, -, -, -, hcharged⟩ := flashCharged_frame s f
  have hrecorded : (s.flashRecorded f).light = (s.mapLamps Lamp.endFlash).light := by
    rw [flashRecorded_rest]
    exact hcharged
  obtain ⟨-, -, -, hlight, -⟩ := endFlash_parts s f
  rw [hlight, hsettled, hrecorded]
  rfl

theorem endFlash_arbitrate : s.arbitrate (s.endFlash f) = s.endFlash f :=
  (StepFrame.endFlash s f).arbitrate_busy (endFlash_rest s f).2.1 (by
    rw [State.lightFree, endFlash_light]
    rfl)

theorem endFlash_doses : DosesKept (s.flashCharged f) (s.endFlash f) :=
  ((DosesKept.of_eq (flashRecorded_account s f)).trans ((dosesKept_endKeeps _).endAllOrdered _ (.of_eq rfl))).trans
    (.of_eq (endFlash_parts s f).2.1)

end

/-! ### The captures served -/

section
variable {s : State} {f : Flash} {h : Half} {c : Ctx}

theorem flashed_ordered {r : StepResult} (ho : c.order ≠ none) :
    c.flashed r = { c with results := c.results ++ [r] } := by
  simp [Ctx.flashed, Option.isSome_iff_ne_none, ho]

theorem flashed_unordered {r : StepResult} (ho : c.order = none) :
    c.flashed r = { c with results := c.results ++ [r], state := .awaitFrame, frameTimer := some 1000 } := by
  simp [Ctx.flashed, ho]

/-- An ended capture that was served: the end of its record with the step result (R58, R68). -/
theorem flashSettled_ended (hc : s.ctx h = some c) (hs : f.served.serves h = true) (ho : c.order ≠ none) :
    EndedAs h { c with results := c.results ++ [f.result f.chargeLeft f.chargeRight] } (s.flashRecorded f)
      (s.flashSettled f) := by
  refine endAllOrdered_ends hs ?_ ho
  rw [flashRecorded_ctx, if_pos hs, hc, Option.map_some, flashed_ordered ho]

theorem endFlash_ctx (h : Half) : (s.endFlash f).ctx h = (s.flashSettled f).ctx h := by
  obtain ⟨-, -, hcapture, -⟩ := endFlash_parts s f
  exact congrFun (ctx_congr hcapture) h

/-- The outcome an order gives (R62). -/
theorem outcome_ordered {o : EndOrder} (ho : c.order = some o) :
    c.outcome = if o = .aborted then .aborted else .cancelled := by
  cases o <;> simp [Ctx.outcome, ho]

theorem endNotice_ordered {o : EndOrder} (ho : c.order = some o) :
    s.endNotice h c =
      .captureDone c.id h c.leaf (if o = .aborted then .aborted else .cancelled) c.results.length c.anyDimmed none := by
  have hout := outcome_ordered ho
  have hexc : s.endException h c = none := by
    refine exception_none ?_ ?_ ?_ <;> rw [hout] <;> cases o <;> simp
  rw [State.endNotice, hexc, hout]
  rfl

/-- With no end ordered, the flash end records the step results alone. -/
theorem flashSettled_unordered (ho : ∀ h c, s.ctx h = some c → c.order = none) :
    s.flashSettled f = s.flashRecorded f := by
  refine endAllOrdered_none _ fun h c hc => ?_
  rw [flashRecorded_ctx] at hc
  split at hc
  · obtain ⟨d, hd, rfl⟩ := Option.map_eq_some_iff.1 hc
    rw [flashed_order, ho h d hd]
  · exact ho h c hc

theorem frameWanted_ordered (hc : s.ctx h = some c) (ho : c.order ≠ none) : s.frameWanted h = false := by
  simp [State.frameWanted, hc, Option.isSome_iff_ne_none, ho]

theorem frameWanted_unordered (ho : ∀ c, s.ctx h = some c → c.order = none) :
    s.frameWanted h = (s.ctx h).isSome := by
  unfold State.frameWanted
  split
  · next hn => rw [hn]; rfl
  · next c hc => rw [hc, ho c hc]; rfl

theorem flashTimerExpires_open (hf : s.light.flash = some f) (hw : f.window ≠ none) : s.flashTimerExpires = s := by
  simp [State.flashTimerExpires, hf, Option.isSome_iff_ne_none, hw]

theorem flashTimerExpires_closed (hf : s.light.flash = some f) (hw : f.window = none) :
    s.flashTimerExpires = s.endFlash f := by
  simp [State.flashTimerExpires, hf, hw]

end

section
variable (s : State) (f : Flash)

theorem endFlash_leaf {j : Nat} {e : LeafEntry} (he : leafAt s.account.leaves j = some e) :
    ∃ e', leafAt (s.endFlash f).account.leaves j = some e' ∧
      e'.dose = e.dose + (if f.leftLeaf = some j then f.chargeLeft else 0) +
        (if f.rightLeaf = some j then f.chargeRight else 0) :=
  (endFlash_doses s f).leaves j _ (by
    rw [State.flashCharged, charge_leaves, leafAt_addDose, leafAt_addDose, mapLamps_account, he]; rfl)

theorem endFlash_volume (i : Fin 16) :
    (s.mounted = some i →
      ((s.endFlash f).volume i).doseUsed = (s.volume i).doseUsed + (f.chargeLeft + f.chargeRight)) ∧
    (s.mounted ≠ some i → (s.endFlash f).volume i = s.volume i) := by
  have hcharged : (s.flashCharged f).volume i =
      if s.mounted = some i then
        { s.volume i with doseUsed := (s.volume i).doseUsed + (f.chargeLeft + f.chargeRight) }
      else s.volume i := charge_volume ..
  have hmounted : (s.flashCharged f).mounted = s.mounted := (Steady.refl s).mapLamps.charge.mounted
  refine ⟨fun hi => ?_, fun hi => ?_⟩
  · rw [(endFlash_doses s f).used, hcharged, if_pos hi]
  · rw [(endFlash_doses s f).others i (by rw [hmounted]; exact hi), hcharged, if_neg hi]

theorem flashRecorded_link (l : LinkId) : (s.flashRecorded f).link l = s.link l := by
  simp only [State.link, flashRecorded_links]

end

/-- The flash end without an end ordered (R58, R90). -/
theorem endFlash_unordered {s : State} {f : Flash} (ho : ∀ h c, s.ctx h = some c → c.order = none) :
    (∀ h c, s.ctx h = some c → (s.endFlash f).ctx h = some
      (if f.served.serves h then
        { c with
          results := c.results ++ [f.result f.chargeLeft f.chargeRight], state := .awaitFrame, frameTimer := some 1000 }
       else c)) ∧
    (∀ h, f.served.serves h = true → (s.endFlash f).link (cameraLink h) =
      (s.notify (cameraLink h) (f.fired h (s.ctx h).isSome (f.chargeOn h))).link (cameraLink h)) ∧
    (s.endFlash f).opening = s.opening ∧ (s.endFlash f).memory = s.memory ∧
    (s.endFlash f).light.held = s.light.held ∧ (∀ l, (∀ h, l ≠ cameraLink h) → (s.endFlash f).link l = s.link l) := by
  obtain ⟨hopening, -, -, hlight, hmemory, -⟩ := endFlash_parts s f
  obtain ⟨hcopening, -, -, -, -, -, -, hclight⟩ := flashCharged_frame s f
  have hsettled := flashSettled_unordered (f := f) ho
  refine ⟨fun h c hc => ?_, fun h hs => ?_, ?_, ?_, ?_, fun l hl => ?_⟩
  · rw [endFlash_ctx, hsettled, flashRecorded_ctx, hc]
    split
    · rw [Option.map_some, flashed_unordered (ho h c hc)]
    · rfl
  · rw [endFlash_cameraLink, if_pos hs, hsettled, frameWanted_unordered (ho h), notify_link, if_pos rfl, notify_link,
      if_pos rfl, flashRecorded_link]
  · rw [hopening, hsettled, flashRecorded_rest]; exact hcopening
  · rw [hmemory, hsettled, flashRecorded_memory]
  · have hheld : (s.flashCharged f).light.held = s.light.held := by rw [hclight]; rfl
    rw [hlight, hsettled, flashRecorded_rest]
    exact hheld
  · rw [endFlash_otherLink s f hl, hsettled, flashRecorded_link]

/-- A capture served whose end was ordered, at the flash end (R58, R68). -/
theorem endFlash_ordered {s : State} {f : Flash} {h : Half} {c : Ctx} {o : EndOrder} (hc : s.ctx h = some c)
    (hs : f.served.serves h = true) (ho : c.order = some o) :
    (s.endFlash f).ctx h = none ∧
    (s.endFlash f).link (cameraLink h) =
      ((s.notify (cameraLink h)
        (.captureDone c.id h c.leaf (if o = .aborted then .aborted else .cancelled) (c.results.length + 1)
          ((c.results.any (·.dimmed)) || f.dimmed) none)).notify (cameraLink h)
        (f.fired h false (f.chargeOn h))).link (cameraLink h) ∧
    (∀ i, c.slot = some i → (s.slot i).state = .open' → s.capture.waitOrder = [] →
      ((s.endFlash f).slot i).state = .free) ∧
    (∀ r, s.side (faceOf h) c.leaf = some r → ∃ r' m, (s.endFlash f).side (faceOf h) c.leaf = some r' ∧
      r'.state = c.prior.toSide ∧ r'.summary = some m ∧ m.captureId = c.id ∧
      m.outcome = (if o = .aborted then .aborted else .cancelled) ∧ m.steps.length = c.results.length + 1) := by
  have hne : c.order ≠ none := by rw [ho]; simp
  have he := flashSettled_ended (f := f) hc hs hne
  obtain ⟨-, haccount, -, -, hmemory, -⟩ := endFlash_parts s f
  let d : Ctx := { c with results := c.results ++ [f.result f.chargeLeft f.chargeRight] }
  have hd : d.order = some o := ho
  have hout := outcome_ordered hd
  refine ⟨(endFlash_ctx h).trans he.ctx, ?_, fun i hi hopen hw => ?_, fun r hr => ?_⟩
  · have hnotice : (s.flashRecorded f).endNotice h d = .captureDone c.id h c.leaf
        (if o = .aborted then .aborted else .cancelled) (c.results.length + 1)
        ((c.results.any (·.dimmed)) || f.dimmed) none := by
      rw [endNotice_ordered hd]
      simp [d, Ctx.anyDimmed, Flash.result]
    rw [endFlash_cameraLink, if_pos hs, frameWanted_ordered hc hne, notify_link, if_pos rfl, he.link, hnotice,
      notify_link, if_pos rfl, notify_link, if_pos rfl, notify_link, if_pos rfl, flashRecorded_link]
  · obtain ⟨-, hfree⟩ := he.slots ((flashRecorded_waitOrder s f).trans hw)
    rw [congrFun (slot_congr hmemory) i,
      hfree i hi (.inl (by rw [congrFun (slot_congr (flashRecorded_memory s f)) i]; exact hopen))]
    rfl
  · have hside := he.side (r := r) (by rw [flashRecorded_side]; exact hr)
    rw [← side_congr (congrArg Account.leaves haccount)] at hside
    refine ⟨_, _, hside, sideAfter_undone (c := d) ?_ _, rfl, rfl, hout, by simp [Ctx.summary]⟩
    rw [hout]
    cases o <;> simp

/-- Settles O38: each event is its model operation, and after the flash end the gap keeps the arbiter still. -/
theorem flashRuns : Obligations.FlashRuns := by
  refine ⟨⟨fun n s => ⟨fun h => congrArg _ (confirmRises_outside h), fun f hf hw =>
    congrArg _ (confirmRises_inside hf hw)⟩, fun s => ⟨fun h => ?_, fun f hf hw => ?_⟩⟩,
    fun s => ⟨fun hn => ?_, fun f hf => ?_⟩⟩
  · change Host.Outcome.next (s.arbitrate s.windowCloses) = _
    rw [windowCloses_closed h, arbitrate_same rfl rfl rfl]
  · have hexec : exec .confirmWindowClose s = .next (s.arbitrate s.windowCloses) := rfl
    dsimp only
    rw [hexec, windowCloses_open hf hw]
    refine ⟨fun hall => ?_, fun ⟨x, hx, hxp⟩ => ?_⟩
    · have hnil : f.marked .pending = [] := List.eq_nil_iff_forall_not_mem.2 fun n hn => by
        obtain ⟨x, hx, -, hp⟩ := mem_marked.1 hn
        exact hall x hx hp
      rw [if_pos hnil, closeWindow_arbitrate, closeWindow_none hnil]
      rfl
    · have hne : f.marked .pending ≠ [] := List.ne_nil_of_mem (mem_marked.2 ⟨x, hx, rfl, hxp⟩)
      have hopening : (s.closeWindow f).opening = s.opening := closeWindow_keeps s f .opening (by simp)
      rw [if_neg hne]
      refine ⟨s.closeWindow f, fun n => closeWindow_missed, congrArg State.light (closeWindow_rest s f),
        closeWindow_keeps s f, fun hs => ?_, fun h1 h2 h3 => ?_⟩
      · rw [takeCause_settled (by rw [hopening]; exact hs), closeWindow_arbitrate]
      · rw [takeCause_faults] <;> rwa [hopening]
  · change Host.Outcome.next (s.arbitrate s.flashTimerExpires) = _
    have hsame : s.flashTimerExpires = s := by simp only [State.flashTimerExpires, hn]
    rw [hsame, arbitrate_same rfl rfl rfl]
  · have hexec : exec .flashEnd s = .next (s.arbitrate s.flashTimerExpires) := rfl
    dsimp only
    rw [hexec]
    refine ⟨fun hw => ?_, fun hw => ⟨s.endFlash f, ?_, fun n => ?_, ?_, fun j e he => ?_, fun i hi => ?_, fun i hi => ?_,
      fun ho => ?_, fun h c o hc hs ho => ?_, ?_⟩⟩
    · rw [flashTimerExpires_open hf hw, arbitrate_same rfl rfl rfl]
    · rw [flashTimerExpires_closed hf hw, endFlash_arbitrate]
    · have hlamp : (s.endFlash f).lamp n = (s.mapLamps Lamp.endFlash).lamp n := by
        unfold State.lamp
        rw [endFlash_light]
        rfl
      rw [hlamp, mapLamps_lamp]
      rfl
    · rw [endFlash_light]
      exact ⟨rfl, rfl, rfl, rfl, rfl, rfl⟩
    · exact endFlash_leaf s f he
    · exact (endFlash_volume s f i).1 hi
    · exact (endFlash_volume s f i).2 hi
    · obtain ⟨hctx, hlink, hopening, hmemory, hheld, hothers⟩ := endFlash_unordered (f := f) ho
      exact ⟨hctx, fun h hs => (hlink h hs).trans (by cases h <;> rfl), hopening, hmemory, hheld,
        hothers .S (fun h => (cameraLink_ne_S h).symm), hothers .A (fun h => by cases h <;> simp [cameraLink])⟩
    · obtain ⟨hctx, hlink, hslot, hside⟩ := endFlash_ordered (f := f) hc hs ho
      refine ⟨hctx, hlink.trans (by cases h <;> rfl), hslot, hside, fun d hd hl hp hn hst hnot => ?_⟩
      have hrecorded {g : Half} {x : Ctx} (hx : s.ctx g = some x) :
          (s.flashRecorded f).ctx g = some (x.flashed (f.result f.chargeLeft f.chargeRight)) := by
        rw [flashRecorded_ctx, hp, hx]; rfl
      have hpartner := endAllOrdered_partner (hrecorded hc) (by rw [flashed_order, ho]; simp)
        (by rw [flashed_ordered (by rw [ho]; simp)]; exact hl) (hrecorded hd) (by rw [flashed_order, hn])
        (by rw [flashed_unordered hn]; rfl) (by rw [flashRecorded_waitOrder]; exact hnot)
      rw [endFlash_ctx, State.flashSettled, hp, hpartner, flashed_unordered hn]
      rfl
    · obtain ⟨hmem, hdrain, hpending⟩ := endFlash_rest s f
      simp [State.keeps, Part.same, hmem, hdrain, hpending]

end Sys2Proof.Machine
end

section
/-! SUPPORT. A grant that ends without a flash (R86), and what the light arbiter's further decisions leave of the captures
it has ended. -/

namespace Sys2Proof.Machine

open Sys2Proof

/-! ### The captures of a failed grant -/

/-- A capture whose grant failed, a partner no more (R57, R66). -/
def Ctx.failing (c : Ctx) (cause : EndCause) (cap : Option Cap) : Ctx :=
  { c with cause := some cause, heldCap := cap, linked := false }

/-- Both halves' captures with the cause of a failed grant for the pair (R66). -/
def State.bothFailing (s : State) (cause : EndCause) (cap : Option Cap) : State :=
  (s.setCtx .left ((s.ctx .left).map (·.failing cause cap))).setCtx .right ((s.ctx .right).map (·.failing cause cap))

theorem setCtx_none {s : State} {h : Half} (hn : s.ctx h = none) : s.setCtx h none = s := by
  rw [← hn, setCtx_same]

section
variable (s : State) (cause : EndCause) (cap : Option Cap)

theorem failGrant_pair :
    s.failGrant .pair cause cap = ((s.bothFailing cause cap).endOne .left).endOne .right := by
  have hleft (x : Option Ctx) : (s.setCtx .left x).ctx .right = s.ctx .right := by simp
  unfold State.bothFailing
  cases ha : s.ctx .left with
  | none =>
    rw [Option.map_none, setCtx_none ha]
    cases hb : s.ctx .right with
    | none => rw [Option.map_none, setCtx_none hb]; simp only [State.failGrant, State.setCause, ha, hb]
    | some b => simp only [State.failGrant, State.setCause, ha, hb, setCtx_ctx, setCtx_setCtx, if_true]; rfl
  | some a =>
    cases hb : s.ctx .right with
    | none =>
      rw [Option.map_none, setCtx_none ((hleft _).trans hb)]
      simp only [State.failGrant, State.setCause, ha, hb, hleft, setCtx_ctx, setCtx_setCtx, if_true]; rfl
    | some b =>
      simp only [State.failGrant, State.setCause, ha, hb, hleft, setCtx_ctx, setCtx_setCtx, if_true]; rfl

theorem bothFailing_ctx (g : Half) :
    (s.bothFailing cause cap).ctx g = (s.ctx g).map (·.failing cause cap) := by
  cases g <;> simp [State.bothFailing]

theorem failGrant_single {v : Served} {h : Half} {c : Ctx} (hv : v = servedOf h) (hc : s.ctx h = some c) :
    s.failGrant v cause cap = (s.setCtx h (some { c with cause := some cause, heldCap := cap })).endCapture h := by
  subst hv
  cases h <;> simp only [servedOf, State.failGrant, setCause_some hc]

end

/-! ### Its ends -/

section
variable {s s' t u : State} {h : Half} {c : Ctx}

/-- An end reads the account, the opening, the camera's link, the slots and the wait order of the state before, and not
its contexts or its light unit. -/
theorem EndedAs.of_base {l : Light} {q : Pair (Option Ctx)}
    (he : EndedAs h c { s with light := l, capture := { s.capture with ctxs := q } } t) : EndedAs h c s t where
  ctx := he.ctx
  link := he.link
  sides := he.sides
  slots := he.slots
  steady := (Steady.same (t := { s with light := l, capture := { s.capture with ctxs := q } }) (.refl s) rfl rfl rfl
    rfl).trans he.steady
  frame := (StepFrame.trans (t := { s with light := l, capture := { s.capture with ctxs := q } }) ⟨rfl, rfl, rfl⟩
    he.frame)

/-- The exception of a capture that ends is in the list, where it has room (R63, R178). -/
theorem endOne_adds {x : ExcRecord} (ha : Aside h s u) (hc : s.ctx h = some c)
    (hcause : c.cause ≠ none ∨ c.order ≠ none) (hm : s.mounted ≠ none) (hl : u.account.exceptions.length < 64)
    (hx : s.endException h c = some x) : x ∈ (u.endOne h).account.exceptions := by
  obtain ⟨d, hd, hgo⟩ := ha.ctx.2 c hc
  have hexc : u.endException h d = some x := by
    rw [← hx, State.endException, State.endException, EndedAs.discardedMark_aside ha hgo, hgo.exception hcause,
      ha.steady.opening_k]
  rw [endOne_exceptions hd, if_pos ⟨by rw [ha.steady.mounted]; exact hm, hl⟩, hexc]
  simp

theorem endOne_exceptions_length (s : State) (g : Half) :
    (s.endOne g).account.exceptions.length ≤ s.account.exceptions.length + 1 := by
  cases hc : s.ctx g with
  | none => rw [endOne_none hc]; omega
  | some c =>
    rw [endOne_exceptions hc]
    split
    · cases s.endException g c <;> simp
    · omega

theorem endCapture_adds {x : ExcRecord} (hc : s.ctx h = some c) (hcause : c.cause ≠ none ∨ c.order ≠ none)
    (hm : s.mounted ≠ none) (hl : s.account.exceptions.length < 64) (hx : s.endException h c = some x) :
    x ∈ (s.endCapture h).account.exceptions := by
  have hpair : x ∈ ((s.partnerEnded (otherHalf h)).endOne h).account.exceptions :=
    endOne_adds (.partnerEnded s _) hc hcause hm (by simpa using hl) hx
  have hkeep (v : State) : v.account.exceptions <+: (v.endOne (otherHalf h)).account.exceptions :=
    (Aside.endOne_other (ne_otherHalf h).symm v).exceptions
  unfold State.endCapture
  simp only [hc]
  split
  · split
    · exact hpair
    · split
      · exact (hkeep _).mem hpair
      · exact hpair
  · exact endOne_adds (.refl s) hc hcause hm hl hx

/-- A failed grant as a half served sees it: its capture ends with the cause and the cap (R57, R66, R86). -/
theorem failGrant_ended {v : Served} {cause : EndCause} {cap : Option Cap} (hs : v.serves h = true)
    (hc : s.ctx h = some c) :
    ∃ l, EndedAs h { c with cause := some cause, heldCap := cap, linked := l } s (s.failGrant v cause cap) ∧
      (s.mounted ≠ none → s.account.exceptions.length < 63 → ∀ x,
        s.endException h { c with cause := some cause, heldCap := cap, linked := l } = some x →
          x ∈ (s.failGrant v cause cap).account.exceptions) := by
  by_cases hv : v = servedOf h
  · have hctx : (s.setCtx h (some { c with cause := some cause, heldCap := cap })).ctx h =
        some { c with cause := some cause, heldCap := cap } := by simp
    rw [failGrant_single s cause cap hv hc]
    exact ⟨c.linked, (endCapture_ended hctx (.inl (by simp))).of_base, fun hm hl x hx =>
      endCapture_adds hctx (.inl (by simp)) hm (Nat.lt_succ_of_lt hl) hx⟩
  · obtain rfl : v = .pair := by cases v <;> cases h <;> simp_all [Served.serves, servedOf]
    have hctx : (s.bothFailing cause cap).ctx h = some (c.failing cause cap) := by
      rw [bothFailing_ctx, hc, Option.map_some]
    rw [failGrant_pair]
    refine ⟨false, EndedAs.of_base (s := s) (endBoth_ended .left hctx (.inl (by simp))), fun hm hl x hx => ?_⟩
    have hfirst : (s.bothFailing cause cap).account.exceptions.length < 63 := hl
    cases h with
    | left =>
      exact (Aside.endOne_other (h := .left) (g := .right) (by simp) _).exceptions.mem
        (endOne_adds (.refl _) hctx (.inl (by simp [Ctx.failing])) hm (Nat.lt_succ_of_lt hl) hx)
    | right =>
      have hlen := endOne_exceptions_length (s.bothFailing cause cap) .left
      exact endOne_adds (.endOne_other (by simp) _) hctx (.inl (by simp [Ctx.failing])) hm (by omega) hx

end

/-! ### Decisions of the light arbiter beside a half without a capture -/

/-- A half without a capture is left aside, and begins none. -/
def Idle (h : Half) (s t : State) : Prop := Aside h s t ∧ t.ctx h = none

namespace Idle

variable {h : Half} {s t : State}

theorem setCtx_map (g : Half) (f : Ctx → Ctx) (hs : Idle h s t) : Idle h s (t.setCtx g ((t.ctx g).map f)) := by
  by_cases hg : h = g
  · subst hg
    rw [hs.2, Option.map_none, setCtx_none hs.2]
    exact hs
  · exact ⟨hs.1.trans (.setCtx_other hg _), by rw [setCtx_ctx, if_neg hg]; exact hs.2⟩

theorem failGrant (hs : Idle h s t) (v : Served) (cause : EndCause) (cap : Option Cap) :
    Idle h s (t.failGrant v cause cap) := by
  have hkeeps := aside_endKeeps h s
  have hsingle (g : Half) : Idle h s ((t.setCause g cause cap).endCapture g) := by
    have hset : t.setCause g cause cap =
        t.setCtx g ((t.ctx g).map fun c => { c with cause := some cause, heldCap := cap }) := by
      cases hc : t.ctx g with
      | none => rw [Option.map_none, setCtx_none hc]; simp only [State.setCause, hc]
      | some c => rw [setCause_some hc]; rfl
    rw [hset]
    exact hkeeps.endCapture g (hs.setCtx_map g _)
  cases v with
  | left => exact hsingle .left
  | right => exact hsingle .right
  | pair =>
    rw [failGrant_pair]
    have hleft := hs.setCtx_map .left (·.failing cause cap)
    have hboth := hleft.setCtx_map .right (·.failing cause cap)
    rw [setCtx_ctx, if_neg (by simp)] at hboth
    exact hkeeps.one .right (hkeeps.one .left hboth)

theorem setLight (hs : Idle h s t) (l : Light) : Idle h s { t with light := l } :=
  ⟨hs.1.trans (.of_same (Steady.refl t).setLight rfl rfl rfl rfl), hs.2⟩

theorem fireCtx (hs : Idle h s t) (g : Half) : Idle h s (t.fireCtx g) := by
  have hfire : t.fireCtx g = t.setCtx g ((t.ctx g).map fun c => { c with state := .firing }) := by
    cases hc : t.ctx g with
    | none => rw [Option.map_none, setCtx_none hc]; simp only [State.fireCtx, hc]
    | some c => simp only [State.fireCtx, hc]; rfl
  rw [hfire]
  exact hs.setCtx_map g _

theorem fireAll (hs : Idle h s t) (gs : List Half) : Idle h s (gs.foldl State.fireCtx t) := by
  induction gs generalizing t with
  | nil => exact hs
  | cons g gs ih => exact ih (hs.fireCtx g)

theorem beginFlash (hs : Idle h s t) (r : LightRequest) (i : DoseInput) (used : Nat) (dimmed : Bool) :
    Idle h s (t.beginFlash r i used dimmed) := by
  unfold State.beginFlash
  dsimp only
  rw [foldl_setLamp_rest (f := Lamp.fire)]
  exact (hs.setLight _).fireAll _

theorem grantRequest (hs : Idle h s t) (r : LightRequest) : Idle h s (t.grantRequest r) := by
  have hheld := hs.setLight { t.light with held := t.light.held.filter fun x => decide (x ≠ r) }
  unfold State.grantRequest
  dsimp only
  split
  · exact hheld
  · split
    · exact hheld.failGrant _ _ _
    · split
      · exact hheld.beginFlash _ _ _ _
      · exact hheld.beginFlash _ _ _ _
      · exact hheld.failGrant _ _ _

theorem lightDecisions (n : Nat) (hs : Idle h s t) : Idle h s (lightDecisions n t) := by
  induction n generalizing t with
  | zero => exact hs
  | succ n ih =>
    unfold Machine.lightDecisions
    split
    · split
      · exact hs
      · exact ih (hs.grantRequest _)
    · exact hs

theorem decideIfPlaced (hs : Idle h s t) (u : State) : Idle h s (u.decideIfPlaced t) := by
  unfold State.decideIfPlaced
  split
  · exact hs.lightDecisions 4
  · exact hs

end Idle

/-! ### With no capture waiting and no request held -/

/-- Without a waiting capture and a held request, the ends of captures leave the light unit. -/
theorem still_endKeeps {l : Light} (hl : l.held = []) :
    EndKeeps fun t => t.capture.waitOrder = [] ∧ t.light = l where
  partner {s} g hs := by
    refine ⟨?_, by rw [← hs.2]; simp⟩
    unfold State.partnerEnded
    split
    · exact hs.1
    · dsimp only
      split
      · simp [hs.1]
      · exact hs.1
  one {s} g hs := by
    cases hc : s.ctx g with
    | none => rw [endOne_none hc]; exact hs
    | some c =>
      obtain ⟨-, hnil, hlight⟩ := endOne_alone hc (by rw [hs.1]; rfl)
      refine ⟨hnil, ?_⟩
      rw [hlight, hs.2, hl, List.filter_nil, ← hl]

theorem failGrant_still {s : State} {v : Served} {cause : EndCause} {cap : Option Cap} (hw : s.capture.waitOrder = [])
    (hh : s.light.held = []) :
    (s.failGrant v cause cap).capture.waitOrder = [] ∧ (s.failGrant v cause cap).light = s.light := by
  have hkeeps := still_endKeeps hh
  have hset (g : Half) : (s.setCause g cause cap).capture.waitOrder = [] ∧ (s.setCause g cause cap).light = s.light := by
    refine ⟨?_, by simp⟩
    unfold State.setCause
    split <;> exact hw
  cases v with
  | left => exact hkeeps.endCapture .left (hset .left)
  | right => exact hkeeps.endCapture .right (hset .right)
  | pair =>
    rw [failGrant_pair]
    exact hkeeps.one .right (hkeeps.one .left ⟨hw, rfl⟩)

theorem lightDecisions_still {s : State} (hh : s.light.held = []) (n : Nat) : lightDecisions n s = s := by
  cases n with
  | zero => rfl
  | succ n => simp [lightDecisions, State.chooseRequest, hh]

end Sys2Proof.Machine
end

section
/-! PROOFS. The inter-flash gap and the recharge timers (R76, R92), with the light arbiter's choice and grant (R83, R84,
R86, R87). -/

namespace Sys2Proof.Machine

open Sys2Proof

/-! ### The arbiter's choice (R83, R84) -/

section
variable {s : State} {r : LightRequest}

theorem lightFree_iff : s.lightFree = true ↔ s.light.flash = none ∧ s.light.gap = none := by
  simp [State.lightFree, Option.isNone_iff_eq_none]

theorem chooseRequest_none (h : s.light.held.filter s.eligible = []) : s.chooseRequest = none := by
  simp only [State.chooseRequest, h]

theorem chooseRequest_one (h : s.light.held.filter s.eligible = [r]) : s.chooseRequest = some r := by
  simp only [State.chooseRequest, h]

/-- A test that one member of a list alone passes finds it. -/
theorem find?_only {α : Type} {p : α → Bool} {x : α} {t : List α} (hx : x ∈ t) (hp : p x = true)
    (ho : ∀ y ∈ t, y ≠ x → p y = false) : t.find? p = some x := by
  cases hf : t.find? p with
  | none => exact absurd hp (by simpa using List.find?_eq_none.1 hf x hx)
  | some y =>
    by_cases hy : y = x
    · rw [hy]
    · have hpy := List.find?_some hf
      rw [ho y (List.mem_of_find?_eq_some hf) hy] at hpy
      cases hpy

/-- Of two eligible requests the arbiter chooses that of the half not last served. -/
theorem chooseRequest_turn (hr : r ∈ s.light.held.filter s.eligible)
    (hs : r.served = servedOf (otherHalf s.light.lastServed))
    (ho : ∀ x ∈ s.light.held.filter s.eligible, x ≠ r → x.served = servedOf s.light.lastServed) :
    s.chooseRequest = some r := by
  have hfind : (s.light.held.filter s.eligible).find?
      (fun x => decide (x.served = servedOf (otherHalf s.light.lastServed))) = some r := by
    refine find?_only hr (decide_eq_true hs) fun x hx hne => ?_
    rw [ho x hx hne]
    cases s.light.lastServed <;> rfl
  unfold State.chooseRequest
  split
  · next h => rw [h] at hr; cases hr
  · next x h => rw [h] at hr; rw [List.mem_singleton.1 hr]
  · next x xs _ h => rw [h] at hfind; rw [hfind]

theorem decideLight_unchosen (h : s.chooseRequest = none) : s.decideLight = s := by
  simp [State.decideLight, lightDecisions, h]

theorem decideLight_chosen (hf : s.lightFree = true) (h : s.chooseRequest = some r) :
    s.decideLight = lightDecisions 3 (s.grantRequest r) := by
  simp [State.decideLight, lightDecisions, hf, h]

theorem lightDecisions_busy (h : s.lightFree = false) (n : Nat) : lightDecisions n s = s := by
  cases n with
  | zero => rfl
  | succ n => simp [lightDecisions, h]

end

/-! ### The grant (R86) -/

section
variable {s : State} {r : LightRequest} {c : Ctx} {p : ProgStep}

/-- The request chosen is withdrawn from the requests held. -/
def State.take (s : State) (r : LightRequest) : State := s.setHeld (s.light.held.filter fun x => decide (x ≠ r))

theorem grantRequest_missing (hc : s.ctx r.served.leader = some c) (hp : c.copy.stepAt c.step = some p)
    (hl : ∃ n ∈ lampsOf r.mask, (s.lamp n).state = .absent ∨ (s.lamp n).state = .faulted) :
    s.grantRequest r = (s.take r).failGrant r.served .lampUnavailable none := by
  have hctx : (s.take r).ctx r.served.leader = some c := hc
  have hany : ((lampsOf r.mask).any fun i => decide (((s.take r).lamp i).state = .absent ∨
      ((s.take r).lamp i).state = .faulted)) = true := by
    obtain ⟨n, hn, hs⟩ := hl
    exact List.any_eq_true.2 ⟨n, hn, decide_eq_true hs⟩
  unfold State.take at hctx hany ⊢
  simp only [State.grantRequest, hctx, Option.bind_some, hp, hany, if_true]

/-- With its lamps CHARGED, the dose check decides. -/
theorem grantRequest_charged (hc : s.ctx r.served.leader = some c) (hp : c.copy.stepAt c.step = some p)
    (hl : ∀ n ∈ lampsOf r.mask, (s.lamp n).state = .charged) :
    s.grantRequest r =
      match (s.doseInput r.mask p.level p.duration).check with
      | .fits l => (s.take r).beginFlash r (s.doseInput r.mask p.level p.duration) l false
      | .dimmed l => (s.take r).beginFlash r (s.doseInput r.mask p.level p.duration) l true
      | .held cap => (s.take r).failGrant r.served .held cap := by
  have hctx : (s.take r).ctx r.served.leader = some c := hc
  have hany : ((lampsOf r.mask).any fun i => decide (((s.take r).lamp i).state = .absent ∨
      ((s.take r).lamp i).state = .faulted)) = false := by
    refine List.any_eq_false.2 fun n hn => ?_
    have hs : ((s.take r).lamp n).state = .charged := hl n hn
    rw [hs]
    simp
  unfold State.take at hctx hany ⊢
  simp only [State.grantRequest, hctx, Option.bind_some, hp, hany, Bool.false_eq_true, if_false]
  rfl

theorem grantRequest_fits {i : DoseInput} {used : Nat} {dimmed : Bool} (hc : s.ctx r.served.leader = some c)
    (hp : c.copy.stepAt c.step = some p) (hl : ∀ n ∈ lampsOf r.mask, (s.lamp n).state = .charged)
    (hi : i = s.doseInput r.mask p.level p.duration)
    (hfit : (i.check = .fits used ∧ dimmed = false) ∨ (i.check = .dimmed used ∧ dimmed = true)) :
    s.grantRequest r = (s.take r).beginFlash r i used dimmed := by
  rw [grantRequest_charged hc hp hl, ← hi]
  obtain ⟨hcheck, rfl⟩ | ⟨hcheck, rfl⟩ := hfit <;> rw [hcheck]

theorem grantRequest_held {i : DoseInput} {cap : Option Cap} (hc : s.ctx r.served.leader = some c)
    (hp : c.copy.stepAt c.step = some p) (hl : ∀ n ∈ lampsOf r.mask, (s.lamp n).state = .charged)
    (hi : i = s.doseInput r.mask p.level p.duration) (hcheck : i.check = .held cap) :
    s.grantRequest r = (s.take r).failGrant r.served .held cap := by
  rw [grantRequest_charged hc hp hl, ← hi, hcheck]

end

/-! ### The flash that begins (R87) -/

theorem fireCtx_eq (s : State) (h : Half) :
    s.fireCtx h = s.setCtx h ((s.ctx h).map fun c => { c with state := .firing }) := by
  cases hc : s.ctx h with
  | none => rw [Option.map_none, setCtx_none hc]; simp only [State.fireCtx, hc]
  | some c => simp only [State.fireCtx, hc]; rfl

/-- The contexts of the halves served fire, and nothing else changes. -/
theorem fireServed (s : State) (v : Served) :
    (∀ h, (v.halves.foldl State.fireCtx s).ctx h =
      if v.serves h = true then (s.ctx h).map fun c => { c with state := .firing } else s.ctx h) ∧
    (v.halves.foldl State.fireCtx s).light = s.light ∧ StepFrame s (v.halves.foldl State.fireCtx s) := by
  have hone (u : State) (g : Half) : StepFrame u (u.fireCtx g) := by
    rw [fireCtx_eq]; exact .setCtx _ _ _
  cases v with
  | left => exact ⟨fun h => by cases h <;> simp [Served.halves, Served.serves, fireCtx_eq], by simp [Served.halves],
      hone _ _⟩
  | right => exact ⟨fun h => by cases h <;> simp [Served.halves, Served.serves, fireCtx_eq], by simp [Served.halves],
      hone _ _⟩
  | pair => exact ⟨fun h => by cases h <;> simp [Served.halves, Served.serves, fireCtx_eq], by simp [Served.halves],
      (hone _ _).trans (hone _ _)⟩

section
variable (s : State) (r : LightRequest) (i : DoseInput) (used : Nat) (dimmed : Bool)

/-- The lamps of the mask fire. -/
def State.fireLamps (s : State) (r : LightRequest) : State :=
  (lampsOf r.mask).foldl (fun a x => a.setLamp x (a.lamp x).fire) s

theorem fireLamps_lamp (n : Fin 8) :
    (s.fireLamps r).lamp n = if n ∈ lampsOf r.mask then (s.lamp n).fire else s.lamp n :=
  foldl_setLamp_lamp fire_fire _ _ n

theorem fireLamps_rest :
    s.fireLamps r = { s with light := { s.light with lamps := (s.fireLamps r).light.lamps } } :=
  foldl_setLamp_rest (f := Lamp.fire) _ _

/-- The lamps fire and the flash's record stands; the contexts are still to follow. -/
def State.flashLit : State :=
  { s.fireLamps r with
    light :=
      { (s.fireLamps r).light with
        grant := some r, flash := some (s.flashRecord r i used dimmed),
        lastServed := lastServedAfter r.served (s.fireLamps r).light.lastServed } }

theorem beginFlash_eq :
    s.beginFlash r i used dimmed = r.served.halves.foldl State.fireCtx (s.flashLit r i used dimmed) := rfl

/-- The light unit as a flash begins (R84, R87). -/
theorem beginFlash_light :
    (s.beginFlash r i used dimmed).light =
      { s.light with
        lamps := (s.fireLamps r).light.lamps, grant := some r, flash := some (s.flashRecord r i used dimmed),
        lastServed := lastServedAfter r.served s.light.lastServed } := by
  obtain ⟨-, hlight, -⟩ := fireServed (s.flashLit r i used dimmed) r.served
  rw [beginFlash_eq, hlight, State.flashLit, fireLamps_rest]

theorem beginFlash_ctx (h : Half) :
    (s.beginFlash r i used dimmed).ctx h =
      if r.served.serves h = true then (s.ctx h).map fun c => { c with state := .firing } else s.ctx h := by
  have hctx : (s.flashLit r i used dimmed).ctx h = s.ctx h := by rw [State.flashLit, fireLamps_rest]; rfl
  obtain ⟨hfired, -⟩ := fireServed (s.flashLit r i used dimmed) r.served
  rw [beginFlash_eq, hfired, hctx]

theorem StepFrame.beginFlash : StepFrame s (s.beginFlash r i used dimmed) := by
  have hlit : StepFrame s (s.flashLit r i used dimmed) := by
    rw [State.flashLit, fireLamps_rest]
    exact ⟨rfl, rfl, rfl⟩
  obtain ⟨-, -, hfired⟩ := fireServed (s.flashLit r i used dimmed) r.served
  rw [beginFlash_eq]
  exact hlit.trans hfired

end

/-! ### The gap's expiry -/

section
variable {s : State} {r : LightRequest}

/-- The gap timer stopped (R92). -/
def State.gapOver (s : State) : State := { s with light := { s.light with gap := none } }

theorem gapExpires_stopped (h : s.light.gap = none) : s.gapExpires = s := by
  simp only [State.gapExpires, h]

theorem gapExpires_running (h : s.light.gap ≠ none) : s.gapExpires = s.gapOver.decideLight := by
  obtain ⟨n, hn⟩ := Option.ne_none_iff_exists'.1 h
  simp only [State.gapExpires, hn]
  rfl

theorem gapOver_unchosen (h : s.light.flash ≠ none ∨ s.light.held.filter s.eligible = []) :
    s.gapOver.decideLight = s.gapOver := by
  obtain h | h := h
  · refine decideLight_busy ?_
    rw [← Bool.not_eq_true, lightFree_iff]
    exact fun hn => h hn.1
  · exact decideLight_unchosen (chooseRequest_none h)

theorem gapOver_chosen (hf : s.light.flash = none)
    (hchosen : s.light.held.filter s.eligible = [r] ∨
      (r ∈ s.light.held.filter s.eligible ∧
        (∀ x ∈ (s.light.held.filter s.eligible).filter fun x => decide (x ≠ r),
          x.served = if s.light.lastServed = .left then .left else .right) ∧
        r.served = if s.light.lastServed = .left then .right else .left)) :
    s.gapOver.decideLight = lightDecisions 3 (s.gapOver.grantRequest r) := by
  refine decideLight_chosen (lightFree_iff.2 ⟨hf, rfl⟩) ?_
  obtain h | ⟨hmem, hothers, hserved⟩ := hchosen
  · exact chooseRequest_one h
  · refine chooseRequest_turn hmem ?_ fun x hx hne => ?_
    · rw [hserved]
      change _ = servedOf (otherHalf s.light.lastServed)
      cases s.light.lastServed <;> rfl
    · rw [hothers x (List.mem_filter.2 ⟨hx, decide_eq_true hne⟩)]
      change _ = servedOf s.light.lastServed
      cases s.light.lastServed <;> rfl

/-- A flash begun at the gap's expiry is the end of the decisions. -/
theorem gapExpiry_flash {t : State} (ht : s.gapOver.decideLight = lightDecisions 3 t) (hf : StepFrame s t)
    (hd : t.drain = s.drain) (hb : t.lightFree = false) (hg : s.light.gap ≠ none) :
    exec .interFlashGapExpiry s = .next t := by
  have hexec : exec .interFlashGapExpiry s = .next (s.arbitrate s.gapExpires) := rfl
  rw [hexec, gapExpires_running hg, ht, lightDecisions_busy hb, hf.arbitrate_busy hd hb]

end

/-! ### A grant that fails at the gap's expiry -/

section
variable {s : State} {r : LightRequest} {h : Half} {c : Ctx} {cause : EndCause} {cap : Option Cap}

/-- The state in which a failed grant leaves its captures ended, before the further decisions. -/
def State.grantFailed (s : State) (r : LightRequest) (cause : EndCause) (cap : Option Cap) : State :=
  (s.gapOver.take r).failGrant r.served cause cap

/-- The state after every decision of the gap's expiry whose grant failed. -/
def State.gapFailed (s : State) (r : LightRequest) (cause : EndCause) (cap : Option Cap) : State :=
  s.decideIfPlaced (lightDecisions 3 (s.grantFailed r cause cap))

theorem grantFailed_ended (hs : r.served.serves h = true) (hc : s.ctx h = some c) :
    ∃ l, EndedAs h { c with cause := some cause, heldCap := cap, linked := l } s (s.grantFailed r cause cap) ∧
      (s.mounted ≠ none → s.account.exceptions.length < 63 → ∀ x,
        s.endException h { c with cause := some cause, heldCap := cap, linked := l } = some x →
          x ∈ (s.grantFailed r cause cap).account.exceptions) := by
  obtain ⟨l, he, hx⟩ := failGrant_ended (s := s.gapOver.take r) (cause := cause) (cap := cap) hs hc
  exact ⟨l, EndedAs.of_base (s := s) he, hx⟩

/-- A half served has no capture after a failed grant, and the further decisions leave it aside. -/
theorem grantFailed_idle (hs : r.served.serves h = true) :
    Idle h (s.grantFailed r cause cap) (s.gapFailed r cause cap) := by
  have hnone : (s.grantFailed r cause cap).ctx h = none := by
    cases hc : s.ctx h with
    | none => exact (Idle.failGrant (s := s.gapOver.take r) ⟨.refl _, hc⟩ r.served cause cap).2
    | some c =>
      obtain ⟨l, he, -⟩ := grantFailed_ended (cause := cause) (cap := cap) hs hc
      exact he.ctx
  exact (Idle.lightDecisions 3 ⟨.refl _, hnone⟩).decideIfPlaced s

theorem gapFailed_keeps : s.keeps (s.gapFailed r cause cap) [.mem, .drain, .pending] := by
  unfold State.gapFailed State.decideIfPlaced
  split <;> simp [State.keeps, Part.same, lightDecisions_frame, State.grantFailed, State.take, State.gapOver]

/-- The expiry whose grant fails runs every further decision, and begins nothing at the memory arbiter. -/
theorem gapExpiry_fails (hg : s.light.gap ≠ none) (hs : r.served.serves h = true) (hc : s.ctx h = some c)
    (ht : s.gapOver.decideLight = lightDecisions 3 (s.grantFailed r cause cap)) :
    exec .interFlashGapExpiry s = .next (s.gapFailed r cause cap) := by
  have hexec : exec .interFlashGapExpiry s = .next (s.arbitrate s.gapExpires) := rfl
  obtain ⟨l, he, -⟩ := grantFailed_ended (cause := cause) (cap := cap) hs hc
  have hframe : StepFrame s (s.gapFailed r cause cap) := he.frame.trans (grantFailed_idle hs).1.frame
  have hdrain : (s.gapFailed r cause cap).drain = s.drain := gapFailed_keeps .drain (by simp)
  rw [hexec, gapExpires_running hg, ht]
  exact congrArg _ (hframe.decideIfBegan hdrain)

/-- With one request held and no capture waiting, a failed grant leaves the light unit dark (R86). -/
theorem gapFailed_light (hh : s.light.held = [r]) (hw : s.capture.waitOrder = []) :
    (s.gapFailed r cause cap).light = { s.light with held := [], gap := none } := by
  have hheld : (s.gapOver.take r).light = { s.light with held := [], gap := none } := by
    simp [State.take, State.gapOver, State.setHeld, hh]
  obtain ⟨-, hlight⟩ := failGrant_still (s := s.gapOver.take r) (v := r.served) (cause := cause) (cap := cap) hw
    (by rw [hheld])
  have hstill : (s.grantFailed r cause cap).light = { s.light with held := [], gap := none } := hlight.trans hheld
  rw [State.gapFailed, lightDecisions_still (by rw [hstill]), State.decideIfPlaced, if_neg (by simp [hstill]), hstill]

end

/-! ### What a half served reads after a failed grant -/

/-- The part of the statement on one capture of a failed grant: its notice, its exception, its side and its slot. -/
theorem gapFailed_capture {s : State} {r : LightRequest} {h : Half} {x : Ctx} {cause : EndCause} {cap : Option Cap}
    {outcome : CaptureOutcome} {kind : ExcKind} {extra : Nat} {after : Undone → SideState}
    (hs : r.served.serves h = true) (hc : s.ctx h = some x)
    (hend : ∀ y : Ctx, y.order = none → y.cause = some cause → y.heldCap = cap →
      y.outcome = outcome ∧ (∀ b, y.sideAfter b = after y.prior) ∧ ∀ b, y.exception h s.opening.k b =
        some { kind := kind, side := some (faceOf h, y.leaf), opening := s.opening.k, captureId := some y.id,
               slot := none, extra := extra }) :
    (x.order = none →
      (s.gapFailed r cause cap).link (cameraLink h) = (s.notify (cameraLink h)
        (.captureDone x.id h x.leaf outcome x.results.length (x.results.any (·.dimmed)) (some kind))).link
          (cameraLink h) ∧
      (s.mounted ≠ none → s.account.exceptions.length < 63 →
        ({ kind := kind, side := some (faceOf h, x.leaf), opening := s.opening.k, captureId := some x.id,
           slot := none, extra := extra } : ExcRecord) ∈ (s.gapFailed r cause cap).account.exceptions) ∧
      ∀ y, s.side (faceOf h) x.leaf = some y →
        ∃ y', (s.gapFailed r cause cap).side (faceOf h) x.leaf = some y' ∧ y'.state = after x.prior ∧
          y'.owner = none ∧ y'.prior = none ∧ y'.summary.map (·.captureId) = some x.id ∧
          y'.summary.map (·.outcome) = some outcome) ∧
    (s.capture.waitOrder = [] → ∀ n, x.slot = some n → (s.slot n).state = .open' →
      (s.gapFailed r cause cap).slot n = Slot.free) := by
  obtain ⟨l, hended, hexc⟩ := grantFailed_ended (cause := cause) (cap := cap) hs hc
  have hidle := (grantFailed_idle (s := s) (cause := cause) (cap := cap) hs).1
  have he := hended.after hidle
  let d : Ctx := { x with cause := some cause, heldCap := cap, linked := l }
  refine ⟨fun ho => ?_, fun hw n hn hopen => (he.slots hw).2 n hn (.inl hopen)⟩
  obtain ⟨hout, hafter, hrec⟩ := hend d ho rfl rfl
  have hexception : s.endException h d = some _ := hrec _
  refine ⟨?_, fun hm hl => hidle.exceptions.mem (hexc hm hl _ hexception), fun y hy =>
    ⟨_, he.side hy, hafter _, rfl, rfl, rfl, congrArg some hout⟩⟩
  have hnotice : s.endNotice h d =
      .captureDone x.id h x.leaf outcome x.results.length (x.results.any (·.dimmed)) (some kind) := by
    rw [State.endNotice, hexception, hout]
    rfl
  rw [he.link]
  exact congrArg (fun n => (s.notify (cameraLink h) n).link (cameraLink h)) hnotice

theorem lampUnavailable_end {y : Ctx} {h : Half} {k : Nat} (ho : y.order = none)
    (hc : y.cause = some .lampUnavailable) :
    y.outcome = .failed ∧ (∀ b, y.sideAfter b = y.prior.toSide) ∧ ∀ b, y.exception h k b =
      some { kind := .lampUnavailable, side := some (faceOf h, y.leaf), opening := k, captureId := some y.id,
             slot := none, extra := 0 } := by
  have hf : y.failure = some .lampUnavailable := by simp [Ctx.failure, hc, EndCause.failure]
  have hout : y.outcome = .failed := outcome_failed ho (by simp [hc]) (.inl (by simp [hf]))
  exact ⟨hout, sideAfter_undone (.inl hout), fun b => by rw [exception_failed hout, hf]; rfl⟩

theorem held_end {y : Ctx} {h : Half} {k : Nat} {cap : Option Cap} (ho : y.order = none) (hc : y.cause = some .held)
    (hcap : y.heldCap = cap) :
    y.outcome = .held ∧ (∀ b, y.sideAfter b = .held) ∧ ∀ b, y.exception h k b =
      some { kind := .doseHeld, side := some (faceOf h, y.leaf), opening := k, captureId := some y.id,
             slot := none, extra := capCode cap } := by
  have hout := outcome_held ho hc
  exact ⟨hout, sideAfter_held hout, fun b => by rw [exception_held hout, hcap]⟩

theorem serves_leader (v : Served) : v.serves v.leader = true := by cases v <;> rfl

/-! ### The recharge timers (R76) -/

theorem rechargeExpires_stopped {s : State} {n : Fin 8}
    (h : (s.lamp n).state ≠ .charging ∨ (s.lamp n).recharge = none) : s.rechargeExpires n = s := by
  unfold State.rechargeExpires
  split
  · next h1 h2 => simp [h1, h2] at h
  · rfl

theorem rechargeExpires_charging {s : State} {n : Fin 8} (h1 : (s.lamp n).state = .charging)
    (h2 : (s.lamp n).recharge ≠ none) :
    s.rechargeExpires n = (s.setLamp n { s.lamp n with state := .charged, recharge := none }).decideLight := by
  obtain ⟨k, hk⟩ := Option.ne_none_iff_exists'.1 h2
  simp only [State.rechargeExpires, h1, hk]

/-- Settles O37: the choice, then the grant by its lamps and its dose check; a failed grant ends the captures served,
and the further decisions leave those halves aside. -/
theorem lightGrant : Obligations.LightGrant := by
  refine ⟨fun s => ⟨fun hg => ?_, fun hg => ⟨fun hn => ?_, fun r _ => ?_⟩⟩, fun n s => ⟨fun h => ?_, fun h1 h2 => ?_⟩⟩
  · change Host.Outcome.next (s.arbitrate s.gapExpires) = _
    rw [gapExpires_stopped hg, arbitrate_same rfl rfl rfl]
  · change Host.Outcome.next (s.arbitrate s.gapExpires) = _
    rw [gapExpires_running hg, gapOver_unchosen hn]
    exact congrArg _ (arbitrate_same rfl rfl rfl)
  · intro eligible others chosen c p hflash hchosen hc hp i fails
    have hgrant := gapOver_chosen hflash hchosen
    have hleader := serves_leader r.served
    have hfails {cause : EndCause} {cap : Option Cap} {outcome : CaptureOutcome} {kind : ExcKind} {extra : Nat}
        {after : Undone → SideState} (ht : s.gapOver.grantRequest r = s.grantFailed r cause cap)
        (hend : ∀ (h : Half) (y : Ctx), y.order = none → y.cause = some cause → y.heldCap = cap →
          y.outcome = outcome ∧ (∀ b, y.sideAfter b = after y.prior) ∧ ∀ b, y.exception h s.opening.k b =
            some { kind := kind, side := some (faceOf h, y.leaf), opening := s.opening.k, captureId := some y.id,
                   slot := none, extra := extra }) : fails outcome kind extra after :=
      ⟨s.gapFailed r cause cap, gapExpiry_fails hg hleader hc (by rw [hgrant, ht]),
        fun h hs => ⟨(grantFailed_idle hs).2, fun x hx => gapFailed_capture hs hx (hend h)⟩, gapFailed_light,
        gapFailed_keeps⟩
    refine ⟨fun hl used dimmed hfit => ?_, fun hl cap hcheck =>
      hfails (outcome := .held) (after := fun _ => .held) (grantRequest_held (s := s.gapOver) hc hp hl rfl hcheck)
        fun h y => held_end,
      fun hl => hfails (outcome := .failed) (after := Undone.toSide) (grantRequest_missing (s := s.gapOver) hc hp hl)
        fun h y ho hy _ => lampUnavailable_end ho hy⟩
    · have hbegin : s.gapOver.grantRequest r = (s.gapOver.take r).beginFlash r i used dimmed :=
        grantRequest_fits (s := s.gapOver) hc hp hl rfl hfit
      have hlight := beginFlash_light (s.gapOver.take r) r i used dimmed
      have hframe : StepFrame s ((s.gapOver.take r).beginFlash r i used dimmed) :=
        StepFrame.trans (t := s.gapOver.take r) ⟨rfl, rfl, rfl⟩ (.beginFlash ..)
      have hlamp (n : Fin 8) : ((s.gapOver.take r).beginFlash r i used dimmed).lamp n =
          if n ∈ lampsOf r.mask then (s.lamp n).fire else s.lamp n := by
        rw [← show (s.gapOver.take r).lamp n = s.lamp n from rfl, ← fireLamps_lamp]
        unfold State.lamp
        rw [hlight]
      refine ⟨_, gapExpiry_flash (hgrant.trans (by rw [hbegin])) hframe (by simp [State.take, State.gapOver])
        (by rw [State.lightFree, hlight]; rfl) hg, by rw [hlight]; rfl, by rw [hlight], by rw [hlight]; rfl,
        by rw [hlight]; rfl, hlamp, fun n hn => ?_, fun h => ?_, ?_, fun h x hx => ?_, ?_⟩
      · rw [State.strobe, hlamp, if_pos hn]
        rfl
      · rw [State.trigger, hlight]
        rfl
      · rw [hlight]
        cases r.served <;> rfl
      · have hx' : (s.gapOver.take r).ctx h = some x := hx
        rw [beginFlash_ctx, hx']
        split <;> rfl
      · simp [State.keeps, Part.same, State.take, State.gapOver]
  · change Host.Outcome.next (s.arbitrate (s.rechargeExpires n)) = _
    rw [rechargeExpires_stopped h, arbitrate_same rfl rfl rfl]
  · have hexec : exec (.rechargeExpiry n) s = .next (s.arbitrate (s.rechargeExpires n)) := rfl
    intro t
    have hcharged : s.rechargeExpires n = t.decideLight := rechargeExpires_charging h1 h2
    rw [hexec, hcharged]
    refine ⟨rfl, fun hn => ?_⟩
    have hsame : t.decideLight = t := by
      obtain hn | hn | hn := hn
      · exact decideLight_busy (by rw [← Bool.not_eq_true, lightFree_iff]; exact fun h => hn h.1)
      · exact decideLight_busy (by rw [← Bool.not_eq_true, lightFree_iff]; exact fun h => hn h.2)
      · exact decideLight_unchosen (chooseRequest_none hn)
    rw [hsame]
    exact congrArg _ (arbitrate_same rfl rfl rfl)

end Sys2Proof.Machine
end

section
/-! PROOFS. The requests that read and change nothing (R74, R80, R114, R150, R174, R190). -/

namespace Sys2Proof.Machine

open Sys2Proof

/-! ### Requests that read, past the dispatcher -/

theorem Passes.poll (l : LinkId) : Passes (.poll l) l ⟨0x00, []⟩ := ⟨rfl, ⟨_, rfl, rfl⟩, rfl, by simp⟩

theorem Passes.ident (l : LinkId) : Passes (.ident l) l ⟨0x01, []⟩ := ⟨rfl, ⟨_, rfl, rfl⟩, rfl, by simp⟩

theorem Passes.readVolumeShelfMark (index : Byte) : Passes (.readVolumeShelfMark .S index) .S ⟨0x17, [index, 1]⟩ :=
  ⟨rfl, ⟨_, rfl, rfl⟩, rfl, by simp [Config.maxRequestBody]⟩

/-- READ_VOLUME has a body of one byte without a part selector, and of two with one (R195). -/
theorem Passes.readVolume (index : Byte) (part : Option Byte) :
    Passes (.readVolume .S index part) .S ⟨0x17, index :: part.toList⟩ := by
  refine ⟨rfl, ⟨_, rfl, rfl⟩, ?_, ?_⟩
  · cases part with
    | none => rfl
    | some p =>
      change (if p = 1 then some (Instr.readVolumeShelfMark .S index)
        else some (Instr.readVolume .S index (some p))).isSome = true
      split
      · rfl
      · rfl
  · cases part <;> simp [Config.maxRequestBody]

theorem Passes.slotStatus (slot : Byte) : Passes (.slotStatus .S slot) .S ⟨0x53, [slot]⟩ :=
  ⟨rfl, ⟨_, rfl, rfl⟩, rfl, by simp [Config.maxRequestBody]⟩

theorem Passes.lampSetRead (channel : Byte) : Passes (.lampSetRead .S channel) .S ⟨0x40, [channel]⟩ :=
  ⟨rfl, ⟨_, rfl, rfl⟩, rfl, by simp [Config.maxRequestBody]⟩

theorem Passes.lampSetStatus : Passes (.lampSetStatus .S) .S ⟨0x40, []⟩ := ⟨rfl, ⟨_, rfl, rfl⟩, rfl, by simp⟩

theorem Passes.programSetRead (program : Byte) : Passes (.programSetRead .S program) .S ⟨0x41, [program]⟩ :=
  ⟨rfl, ⟨_, rfl, rfl⟩, rfl, by simp [Config.maxRequestBody]⟩

theorem Passes.readLeaf (leaf : Word) (view : Byte) :
    Passes (.readLeaf .S leaf view) .S ⟨0x23, be 2 leaf.toNat ++ [view]⟩ :=
  ⟨rfl, ⟨_, rfl, rfl⟩, rfl, by simp [Config.maxRequestBody]⟩

/-! ### An entry read by its number -/

/-- A request that shows one entry of a bank of `n`: what `view` reads of it, which does not depend on the request being
taken, or RANGE for a number that names no entry. -/
theorem Passes.shows {c : Instr} {l : LinkId} {f : Frame} {s : State} {n v : Nat} {act : State → Reply}
    (view : State → Fin n → List Byte) (hc : Passes c l f) (h : s.portFree l)
    (hview : ∀ i, view (s.taken l f.kind) i = view s i) (hexec : exec c s = .next (s.ask c act))
    (hin : ∀ t i, finOf n v = some i → act t = ⟨t, .ok, view t i⟩)
    (hout : ∀ t, finOf n v = none → act t = t.refuse .range) :
    (∀ i : Fin n, v = i.val → exec c s = .next (s.answered l f.kind .ok (view s i))) ∧
    (n ≤ v → exec c s = .next (s.answered l f.kind .range [])) := by
  rw [hexec]
  refine ⟨fun i hi => congrArg _ (hc.pure h ?_), fun hv => congrArg _ (hc.pure h (hout _ (finOf_none hv)))⟩
  rw [hin _ i (finOf_eq hi), hview]

/-! ### READ_VOLUME (R150) -/

/-- What READ_VOLUME with part selector 1 shows (R150): index, state and shelf-mark. -/
def State.shelfMarkBody (s : State) (i : Fin 16) : List Byte :=
  [b1 i.val, b1 (s.volume i).state.code, b1 (s.volume i).mark.length] ++ (s.volume i).mark

section
variable {s : State} {index : Byte} {part : Option Byte} {i : Fin 16}

theorem readVolume_status (hi : finOf 16 index.toNat = some i) (hp : part = none ∨ part = some 0) :
    s.readVolume index part = ⟨s, .ok, s.volumeStatus i⟩ := by
  simp only [State.readVolume, hi, if_pos hp]

theorem readVolume_shelfMark (hi : finOf 16 index.toNat = some i) :
    s.readVolume index (some 1) = ⟨s, .ok, s.shelfMarkBody i⟩ := by
  simp [State.readVolume, hi, State.shelfMarkBody]

theorem readVolume_noEntry (hi : finOf 16 index.toNat = none) : s.readVolume index part = s.refuse .range := by
  simp only [State.readVolume, hi]

/-- A part selector that names no part is refused, whatever the index. -/
theorem readVolume_noPart {p : Byte} (h : 2 ≤ p.toNat) : s.readVolume index (some p) = s.refuse .range := by
  have h0 : p ≠ 0#8 := by rintro rfl; simp at h
  have h1 : p ≠ 1#8 := by rintro rfl; simp at h
  unfold State.readVolume
  split
  · rfl
  · simp [h0, h1]

end

/-- A byte that holds an entry's number is that number's code. -/
theorem b1_of_toNat_eq {b : Byte} {n : Nat} (h : b.toNat = n) : b1 n = b := by
  subst h
  simp [b1]

/-! ### READ_LEAF (R174) -/

/-- READ_LEAF by the MOUNTED entry, the leaf and the view. -/
theorem exec_readLeaf (leaf : Word) (view : Byte) (s : State) :
    ∃ act, exec (.readLeaf .S leaf view) s = .next (s.ask (.readLeaf .S leaf view) act) ∧
      ∀ t : State,
        (t.mounted = none → act t = t.refuse .noVolume) ∧
        (t.mounted ≠ none →
          (leafAt t.account.leaves leaf.toNat = none ∨ viewOfCode view = none → act t = t.refuse .range) ∧
          ∀ e v, leafAt t.account.leaves leaf.toNat = some e → viewOfCode view = some v →
            act t = ⟨t, .ok, t.readLeaf leaf.toNat e v⟩) := by
  refine ⟨_, rfl, fun t => ⟨fun hm => by simp [hm], fun hm => ⟨fun hn => ?_, fun e v he hv => ?_⟩⟩⟩
  · rw [if_neg (by simpa using hm)]
    split
    · next he hv => simp [he, hv] at hn
    · rfl
  · simp only [Option.isNone_iff_eq_none, hm, if_false, he, hv]

theorem viewOfCode_none {b : Byte} (h : 2 < b.toNat) : viewOfCode b = none := by
  unfold viewOfCode
  rw [if_neg (by rintro rfl; simp at h), if_neg (by rintro rfl; simp at h), if_neg (by rintro rfl; simp at h)]

/-- Settles O10: each request answers by what its block shows, and what is shown does not depend on the link that
took the request. -/
theorem readRequests : Obligations.ReadRequests := by
  refine ⟨fun l s h => ⟨congrArg _ ((Passes.poll l).pure h ?_), congrArg _ ((Passes.ident l).pure h rfl)⟩,
    fun s h => ⟨fun index part => ⟨fun i hi hp => ?_, fun p hp h2 => ?_, fun hi _ => ?_⟩, fun index => ?_,
      fun slot => ?_, fun channel => ?_, congrArg _ (Passes.lampSetStatus.pure h rfl), fun program => ?_,
      fun leaf view => ?_⟩⟩
  · simp [linkStatusBody, State.faultLine]
  · exact congrArg _ ((Passes.readVolume index part).pure h (readVolume_status (finOf_eq hi) hp))
  · subst hp
    exact congrArg _ ((Passes.readVolume index (some p)).pure h (readVolume_noPart h2))
  · exact congrArg _ ((Passes.readVolume index part).pure h (readVolume_noEntry (finOf_none hi)))
  · obtain ⟨hin, hout⟩ := (Passes.readVolumeShelfMark index).shows State.shelfMarkBody h (fun _ => rfl) rfl
      (fun _ _ => readVolume_shelfMark) fun _ => readVolume_noEntry
    refine ⟨fun i hi => ?_, hout⟩
    rw [hin i hi, State.shelfMarkBody, b1_of_toNat_eq hi]
  · exact (Passes.slotStatus slot).shows State.slotStatusBody h (fun _ => rfl) rfl
      (fun _ _ hi => by simp only [hi]) fun _ hi => by simp only [hi]
  · exact (Passes.lampSetRead channel).shows (fun t i => t.lampBody i false) h (fun _ => rfl) rfl
      (fun _ _ hi => by simp only [hi]) fun _ hi => by simp only [hi]
  · exact (Passes.programSetRead program).shows State.programBody h (fun _ => rfl) rfl
      (fun _ _ hi => by simp only [hi]) fun _ hi => by simp only [hi]
  · obtain ⟨act, hexec, hact⟩ := exec_readLeaf leaf view s
    obtain ⟨hnone, hmounted⟩ := hact (s.taken .S 0x23)
    have hc := Passes.readLeaf leaf view
    rw [hexec]
    refine ⟨fun hm => congrArg _ (hc.pure h (hnone hm)), fun hm => ?_⟩
    obtain ⟨hrange, hshow⟩ := hmounted hm
    have hview {e : LeafEntry} {v : LeafView} (he : leafAt s.account.leaves leaf.toNat = some e)
        (hv : viewOfCode view = some v) := hc.pure h (hshow e v he hv)
    refine ⟨fun hn => congrArg _ (hc.pure h (hrange (hn.imp_right viewOfCode_none))), fun e he => ⟨?_, ?_, ?_⟩⟩
    · rintro rfl; exact congrArg _ (hview he rfl)
    · rintro rfl; exact congrArg _ (hview he rfl)
    · rintro rfl; exact congrArg _ (hview he rfl)

end Sys2Proof.Machine
end

section
/-! PROOFS. LAMP_SET write (R72, R73, R83) and PROGRAM_SET write (R79): the checks, and the entry or the program
stored. -/

namespace Sys2Proof.Machine

open Sys2Proof

/-! ### The write forms past the dispatcher -/

theorem Passes.lampSetWrite (channel present side band : Byte) (eFull gDirect gSpill : Word) (lMin : Byte)
    (maxDuration : BitVec 24) (recharge : Word) :
    Passes (.lampSetWrite .S channel present side band eFull gDirect gSpill lMin maxDuration recharge) .S
      ⟨0x40, [channel, present, side, band] ++ (be 2 eFull.toNat ++ (be 2 gDirect.toNat ++
        (be 2 gSpill.toNat ++ (lMin :: (be 3 maxDuration.toNat ++ be 2 recharge.toNat)))))⟩ :=
  ⟨rfl, ⟨_, rfl, rfl⟩, rfl, by simp [Config.maxRequestBody]⟩

/-- The kind of PROGRAM_SET accepts a body of the length that its step count asks for (R195). -/
theorem parseBody_programSet {b : List Byte} (h : b.length = 4 + 5 * stepsCarried (byteAt b 3)) :
    (parseBody .S 0x41 b).isSome = true := by
  change (if b.length = 1 then some (Instr.programSetRead .S (byteAt b 0))
    else if 4 ≤ b.length ∧ b.length = 4 + 5 * stepsCarried (byteAt b 3) then _ else none).isSome = true
  rw [if_neg (by omega), if_pos ⟨by omega, h⟩]
  rfl

/-- A PROGRAM_SET write that carries the steps of its step count has a body the kind accepts (R195). -/
theorem Passes.programSetWrite {program mode stop count : Byte} {steps : List StepArg}
    (hw : (Instr.programSetWrite .S program mode stop count steps).wellFormed = true) :
    Passes (.programSetWrite .S program mode stop count steps) .S
      ⟨0x41, [program, mode, stop, count] ++ steps.flatMap stepArgBytes⟩ := by
  refine ⟨rfl, ⟨_, rfl, rfl⟩, parseBody_programSet ?_, frameOf_fits hw rfl⟩
  rw [List.length_append, length_flatMap_stepArgBytes, of_decide_eq_true hw]
  rfl

/-! ### Codes of a request (R193) -/

section
variable {b : Byte}

theorem eq_zero_or_one (h : b.toNat < 2) : b = 0 ∨ b = 1 := by bv_omega

theorem flagCode_eq (h : b.toNat < 2) : flagCode b = some (decide (b = 1)) := by
  obtain rfl | rfl := eq_zero_or_one h <;> rfl

/-- A yes/no byte that is not 1 is 0. -/
theorem decide_eq_one_eq_false (h : b.toNat < 2) : decide (b = 1) = false ↔ b = 0 := by
  obtain rfl | rfl := eq_zero_or_one h <;> decide

theorem flagCode_none (h : 2 ≤ b.toNat) : flagCode b = none := by
  unfold flagCode
  rw [if_neg (by rintro rfl; simp at h), if_neg (by rintro rfl; simp at h)]

theorem sideOfCode_eq (h : b.toNat < 2) : sideOfCode b = some (if b = 1 then .right else .left) := by
  obtain rfl | rfl := eq_zero_or_one h <;> rfl

theorem sideOfCode_none (h : 2 ≤ b.toNat) : sideOfCode b = none := by
  unfold sideOfCode
  rw [if_neg (by rintro rfl; simp at h), if_neg (by rintro rfl; simp at h)]

theorem modeOfCode_none (h : 2 ≤ b.toNat) : modeOfCode b = none := by
  unfold modeOfCode
  rw [if_neg (by rintro rfl; simp at h), if_neg (by rintro rfl; simp at h)]

theorem stopOfCode_none (h : 4 ≤ b.toNat) : stopOfCode b = none := by
  unfold stopOfCode
  rw [if_neg (by rintro rfl; simp at h), if_neg (by rintro rfl; simp at h), if_neg (by rintro rfl; simp at h),
    if_neg (by rintro rfl; simp at h)]

end

theorem modeOfCode_code (m : Mode) : modeOfCode (b1 m.code) = some m := by cases m <;> rfl

theorem stopOfCode_code (r : StopRule) : stopOfCode (b1 r.code) = some r := by cases r <;> rfl

/-! ### The lamp written (R72, R73) -/

/-- A value clamped into a range, and whether it lay outside (R72). -/
theorem clampInto_eq {low high : Nat} (h : low ≤ high) (v : Nat) :
    clampInto low high v = (max low (min v high), decide (v < low ∨ high < v)) := by
  unfold clampInto
  split
  · rw [max_eq_left (by omega)]; simp [*]
  · split
    · rw [min_eq_right (by omega), max_eq_right h]; simp [*]
    · rw [min_eq_left (by omega), max_eq_right (by omega)]; simp [*]

/-- The entry that a LAMP_SET write stores, with its clamped fields, and its CLAMPED flag (R72). -/
theorem lampEntryOf_eq (present : Bool) (side : Half) (band : Byte) (eFull gDirect gSpill : Word) (lMin : Byte)
    (maxDuration : BitVec 24) (recharge : Word) :
    lampEntryOf present side band eFull gDirect gSpill lMin maxDuration recharge =
      ({ present := present, side := side, band := band.toNat, eFull := eFull.toNat,
         gDirect := min gDirect.toNat 1024, gSpill := min gSpill.toNat 1024, lMin := lMin.toNat,
         maxDuration := max 100 (min maxDuration.toNat 200000), recharge := max 1 (min recharge.toNat 2000) },
       decide (1024 < gDirect.toNat ∨ 1024 < gSpill.toNat ∨ maxDuration.toNat < 100 ∨ 200000 < maxDuration.toNat ∨
         recharge = 0 ∨ 2000 < recharge.toNat)) := by
  have h0 : recharge.toNat < 1 ↔ recharge = 0 := by bv_omega
  simp [lampEntryOf, clampInto_eq, h0, Bool.or_assoc]

/-- A lamp after a write (R73): a FIRING lamp stays so; any other takes the state of its entry and of the cradle. -/
theorem lampWrite_eq (x : Lamp) (e : LampEntry) (parked : Bool) :
    x.write e parked =
      if x.state = .firing then { x with entry := e }
      else if e.present = false then { entry := e, state := .absent, recharge := none }
      else if parked = true then { entry := e, state := .discharged, recharge := none }
      else { entry := e, state := .charging, recharge := some e.recharge } := by
  unfold Lamp.write
  split
  · next h => rw [if_pos h]
  · next h => simp [show x.state ≠ .firing from h]

/-- With no light request held the arbiter has nothing to grant (R83). -/
theorem decideLight_unheld {s : State} (h : s.light.held = []) : s.decideLight = s :=
  decideLight_unchosen (chooseRequest_none (by rw [h]; rfl))

/-- LAMP_SET in its write form by its checks (R72). -/
theorem exec_lampSetWrite (channel present side band : Byte) (eFull gDirect gSpill : Word) (lMin : Byte)
    (maxDuration : BitVec 24) (recharge : Word) (s : State) :
    let c := Instr.lampSetWrite .S channel present side band eFull gDirect gSpill lMin maxDuration recharge
    ∃ act, exec c s = .next (s.ask c act) ∧ ∀ t : State,
      (finOf 8 channel.toNat = none ∨ flagCode present = none ∨ sideOfCode side = none ∨ 7 < band.toNat ∨ eFull = 0 ∨
        lMin = 0 → act t = t.refuse .range) ∧
      ∀ i p h, finOf 8 channel.toNat = some i → flagCode present = some p → sideOfCode side = some h →
        ¬(7 < band.toNat ∨ eFull = 0 ∨ lMin = 0) →
        let e := lampEntryOf p h band eFull gDirect gSpill lMin maxDuration recharge
        let u := t.setLamp i ((t.lamp i).write e.1 (decide (t.opening.state = .parked)))
        act t = ⟨u.decideLight, .ok, u.lampBody i e.2⟩ := by
  refine ⟨_, rfl, fun t => ⟨fun hbad => ?_, fun i p h hi hp hh hok => ?_⟩⟩
  · split
    · next hi hp hh => rw [if_pos (by simpa [hi, hp, hh] using hbad)]
    · rfl
  · simp only [hi, hp, hh, if_neg hok]

/-! ### The program written (R79) -/

/-- PROGRAM_SET in its write form by its checks (R79). -/
theorem exec_programSetWrite (program mode stop count : Byte) (steps : List StepArg) (s : State) :
    let c := Instr.programSetWrite .S program mode stop count steps
    ∃ act, exec c s = .next (s.ask c act) ∧ ∀ t : State,
      (finOf 16 program.toNat = none ∨ modeOfCode mode = none ∨ stopOfCode stop = none ∨ 8 < count.toNat →
        act t = t.refuse .range) ∧
      ∀ i m r, finOf 16 program.toNat = some i → modeOfCode mode = some m → stopOfCode stop = some r →
        count.toNat ≤ 8 →
        let u := t.setProgram i { mode := m, stop := r, steps := steps.map StepArg.toStep }
        act t = ⟨u, .ok, u.programBody i⟩ := by
  refine ⟨_, rfl, fun t => ⟨fun hbad => ?_, fun i m r hi hm hr hok => ?_⟩⟩
  · split
    · next hi hm hr => rw [if_pos (by simpa [hi, hm, hr] using hbad)]
    · rfl
  · simp only [hi, hm, hr, if_neg (Nat.not_lt.2 hok)]

/-- Settles O33: the first check that fails refuses with RANGE; otherwise what is stored is the entry of `lampEntryOf_eq`
in the lamp of `lampWrite_eq`, or the program as written. -/
theorem lightWrites : Obligations.LightWrites := by
  refine ⟨fun channel present side band eFull gDirect gSpill lMin maxDuration recharge s h => ?_,
    fun program mode stop count steps s h => ?_⟩
  · intro c
    have hc := Passes.lampSetWrite channel present side band eFull gDirect gSpill lMin maxDuration recharge
    obtain ⟨act, hexec, hact⟩ :=
      exec_lampSetWrite channel present side band eFull gDirect gSpill lMin maxDuration recharge s
    obtain ⟨hrange, hwrite⟩ := hact (s.taken .S 0x40)
    refine ⟨fun hbad => hexec.trans (congrArg _ (hc.pure h (hrange ?_))), fun i hi hp hs hb he hl => ?_⟩
    · exact hbad.imp finOf_none (.imp flagCode_none (.imp sideOfCode_none (.imp_left (by omega))))
    · intro e clamped lamp t
      have hlamp : ((s.taken .S 0x40).lamp i).write e (decide ((s.taken .S 0x40).opening.state = .parked)) = lamp := by
        have hpresent : e.present = false ↔ present = 0 := decide_eq_one_eq_false hp
        rw [lampWrite_eq]
        simp only [hpresent, decide_eq_true_eq]
        rfl
      have hdo : act (s.taken .S 0x40) = ⟨t.decideLight, .ok, t.lampBody i clamped⟩ := by
        rw [hwrite i _ _ (finOf_eq hi) (flagCode_eq hp) (sideOfCode_eq hs)
          (not_or.2 ⟨by omega, not_or.2 ⟨he, hl⟩⟩)]
        simp only [lampEntryOf_eq]
        rw [hlamp]
      have hdrop : (t.decideLight.link .S).dropAnswer = (s.link .S).dropAnswer :=
        ((Steady.refl t).decideLight.ports .S).dropAnswer
      refine ⟨hexec.trans (congrArg _ (hc.reply h hdo hdrop)), fun hheld => hexec.trans (congrArg _ ?_)⟩
      have hsame : t.decideLight = t := decideLight_unheld hheld
      rw [hsame] at hdo
      exact (hc.quiet h hdo rfl rfl rfl rfl).trans (answered_taken (s := s.setLamp i lamp) h _ _ _)
  · intro c hw
    have hc := Passes.programSetWrite hw
    obtain ⟨act, hexec, hact⟩ := exec_programSetWrite program mode stop count steps s
    obtain ⟨hrange, hwrite⟩ := hact (s.taken .S 0x41)
    refine ⟨fun hbad => hexec.trans (congrArg _ (hc.pure h (hrange ?_))), fun i m r hi hm hr hn => ?_⟩
    · exact hbad.imp finOf_none (.imp modeOfCode_none (.imp_left stopOfCode_none))
    · intro t
      subst hm hr
      have hdo := hwrite i m r (finOf_eq hi) (modeOfCode_code m) (stopOfCode_code r) hn
      exact hexec.trans (congrArg _ ((hc.quiet h hdo rfl rfl rfl rfl).trans (answered_taken (s := t) h _ _ _)))

end Sys2Proof.Machine
end

section
/-! PROOFS. DOSE_QUERY (R108), SET_TIMING (R152) and SET_BUDGET (R106). -/

namespace Sys2Proof.Machine

open Sys2Proof

/-! ### DOSE_QUERY -/

theorem Passes.doseQuery (program step : Byte) : Passes (.doseQuery .S program step) .S ⟨0x42, [program, step]⟩ :=
  ⟨rfl, ⟨_, rfl, rfl⟩, rfl, by simp [Config.maxRequestBody]⟩

/-- DOSE_QUERY by opening state (R108 checks 1 and 2). -/
theorem exec_doseQuery (program step : Byte) (s : State) :
    ∃ act, exec (.doseQuery .S program step) s = .next (s.ask (.doseQuery .S program step) act) ∧ ∀ t : State,
      (t.opening.state = .idle → act t = t.refuse .noVolume) ∧ (t.opening.state = .parked → act t = t.refuse .state) ∧
      (t.opening.state ≠ .idle → t.opening.state ≠ .parked → act t = t.doseQuery program.toNat step.toNat) := by
  refine ⟨_, rfl, fun t => ?_⟩
  cases h : t.opening.state <;> simp

section
variable {s : State} {program step : Nat} {i : Fin 16}

/-- Checks 3 and 4 of R108: the program number and the step number. -/
theorem doseQuery_range (h : finOf 16 program = none ∨ step < 1 ∨ 8 < step) :
    s.doseQuery program step = s.refuse .range := by
  unfold State.doseQuery
  split
  · rfl
  · next hi => rw [if_pos (by simpa [hi] using h)]

/-- Checks 5 to 7 of R108: the program's step count, the step named, its mask and its lamps. -/
theorem doseQuery_inRange (hi : finOf 16 program = some i) (hstep : ¬(step < 1 ∨ 8 < step)) :
    let p := s.program i
    let badCount := p.steps = [] ∨ 8 < p.steps.length
    (badCount → s.doseQuery program step = s.refuse .badProgram) ∧
    (¬badCount →
      (p.stepAt step = none → s.doseQuery program step = s.refuse .range) ∧
      ∀ x, p.stepAt step = some x →
        let missing := ∃ n ∈ lampsOf x.mask, (s.lamp n).state = .absent ∨ (s.lamp n).state = .faulted
        (lampsOf x.mask = [] → s.doseQuery program step = s.refuse .badProgram) ∧
        (lampsOf x.mask ≠ [] →
          (missing → s.doseQuery program step = s.refuse .lampUnavailable) ∧
          (¬missing → s.doseQuery program step =
            ⟨s, .ok, s.doseBody program step (s.doseInput x.mask x.level x.duration)⟩))) := by
  simp only [State.doseQuery, hi, if_neg hstep]
  simp only [Nat.lt_one_iff, List.length_eq_zero_iff]
  refine ⟨fun hp => if_pos hp, fun hp => ⟨fun hx => ?_, fun x hx => ⟨fun hl => ?_, fun hl => ?_⟩⟩⟩
  · simp only [if_neg hp, hx]
  · simp only [if_neg hp, hx, hl, List.isEmpty_nil, if_true]
  · simp only [if_neg hp, hx, List.isEmpty_iff, if_neg hl]
    simp only [List.any_eq_true, decide_eq_true_eq]
    exact ⟨fun hm => if_pos hm, fun hm => if_neg hm⟩

end

/-- A step number beyond a program's steps names none. -/
theorem stepAt_none {p : Program} {n : Nat} (h : p.steps.length < n) : p.stepAt n = none := by
  rw [Program.stepAt, if_neg (by omega)]
  exact List.getElem?_eq_none (by omega)

/-- Settles O34: the checks in order, each answered on the state as it stands. -/
theorem doseQuery : Obligations.DoseQuery := by
  intro program step s h answers
  obtain ⟨act, hexec, hact⟩ := exec_doseQuery program step s
  obtain ⟨hidle, hparked, hopen⟩ := hact (s.taken .S 0x42)
  have reply {st : Status} {body : List Byte} (hr : act (s.taken .S 0x42) = ⟨s.taken .S 0x42, st, body⟩) :
      answers st body := hexec.trans (congrArg _ ((Passes.doseQuery program step).pure h hr))
  refine ⟨fun hi => reply (hidle hi), fun hp => reply (hparked hp), fun hi hp => ?_⟩
  have hquery := hopen hi hp
  refine ⟨fun hbad => reply (hquery.trans (doseQuery_range (hbad.imp finOf_none (.imp_left (by bv_omega))))),
    fun i hprog h1 h8 => ?_⟩
  obtain ⟨hcount, hsteps⟩ := doseQuery_inRange (s := s.taken .S 0x42) (finOf_eq hprog)
    (show ¬(step.toNat < 1 ∨ 8 < step.toNat) by bv_omega)
  refine ⟨fun hbad => reply (hquery.trans (hcount hbad)), fun hne hle => ?_⟩
  obtain ⟨hnone, hstep⟩ := hsteps (not_or.2 ⟨hne, Nat.not_lt.2 hle⟩)
  refine ⟨fun hlt => reply (hquery.trans (hnone (stepAt_none hlt))), fun x hx => ?_⟩
  obtain ⟨hempty, hlamps⟩ := hstep x hx
  refine ⟨fun hm => reply (hquery.trans (hempty hm)), fun hm => ?_, fun hm hready => ?_⟩
  · obtain ⟨n, hn, -⟩ := id hm
    exact reply (hquery.trans ((hlamps (List.ne_nil_of_mem hn)).1 hm))
  · refine reply (hquery.trans ((hlamps hm).2 ?_))
    rintro ⟨n, hn, hx⟩
    exact hx.elim (hready n hn).1 (hready n hn).2

/-! ### SET_TIMING and SET_BUDGET -/

theorem Passes.setTiming (index : Byte) (settle : Word) (turn : Byte) (life : Word) :
    Passes (.setTiming .S index settle turn life) .S
      ⟨0x16, index :: (be 2 settle.toNat ++ (turn :: be 2 life.toNat))⟩ :=
  ⟨rfl, ⟨_, rfl, rfl⟩, rfl, by simp [Config.maxRequestBody]⟩

theorem Passes.setBudget (index : Byte) (leafCap : BitVec 32) (volumeCap : BitVec 48) :
    Passes (.setBudget .S index leafCap volumeCap) .S
      ⟨0x15, index :: (be 4 leafCap.toNat ++ be 6 volumeCap.toNat)⟩ :=
  ⟨rfl, ⟨_, rfl, rfl⟩, rfl, by simp [Config.maxRequestBody]⟩

theorem settable_iff (x : VolumeState) : x.settable = true ↔ x ≠ .empty ∧ x ≠ .closed := by cases x <;> decide

/-- The entry with new timings (R152). -/
def Volume.withTimings (v : Volume) (t : Timings) : Volume := { v with settle := t.settle, turn := t.turn, life := t.life }

/-- The entry with new caps (R106). -/
def Volume.withCaps (v : Volume) (leafCap volumeCap : Nat) : Volume :=
  { v with leafCap := leafCap, volumeCap := volumeCap }

/-- A request that changes one entry by its number (R106, R152): RANGE for no entry, STATE for one that is EMPTY or
CLOSED, and otherwise the entry stored and shown. -/
structure ChangesEntry (act : State → Reply) (index : Byte) (change : Volume → Volume)
    (body : State → Fin 16 → Volume → List Byte) : Prop where
  noEntry : ∀ t : State, finOf 16 index.toNat = none → act t = t.refuse .range
  unsettable : ∀ (t : State) i, finOf 16 index.toNat = some i → (t.volume i).state.settable = false →
    act t = t.refuse .state
  settable : ∀ (t : State) i, finOf 16 index.toNat = some i → (t.volume i).state.settable = true →
    act t = ⟨t.setVolume i (change (t.volume i)), .ok, body (t.setVolume i (change (t.volume i))) i (t.volume i)⟩

theorem exec_setTiming (index : Byte) (settle : Word) (turn : Byte) (life : Word) (s : State) :
    ∃ act, exec (.setTiming .S index settle turn life) s = .next (s.ask (.setTiming .S index settle turn life) act) ∧
      ChangesEntry act index (fun v => v.withTimings (settleTimings settle turn life v.settle v.turn v.life))
        fun u i v => u.volumeStatusClamped i (settleTimings settle turn life v.settle v.turn v.life).clamped :=
  ⟨_, rfl, ⟨fun t h => by simp only [h], fun t i hi hs => by simp [hi, hs], fun t i hi hs => by
    simp only [hi, hs, Bool.not_true, Bool.false_eq_true, if_false]; rfl⟩⟩

theorem exec_setBudget (index : Byte) (leafCap : BitVec 32) (volumeCap : BitVec 48) (s : State) :
    ∃ act, exec (.setBudget .S index leafCap volumeCap) s =
        .next (s.ask (.setBudget .S index leafCap volumeCap) act) ∧
      ChangesEntry act index (fun v => v.withCaps leafCap.toNat volumeCap.toNat) fun u i _ => u.budgetBody i :=
  ⟨_, rfl, ⟨fun t h => by simp only [h], fun t i hi hs => by simp [hi, hs], fun t i hi hs => by
    simp only [hi, hs, Bool.not_true, Bool.false_eq_true, if_false]; rfl⟩⟩

/-- An entry changed, answered on link S. -/
theorem Passes.changes {c : Instr} {f : Frame} {s : State} {act : State → Reply} {index : Byte}
    {change : Volume → Volume} {body : State → Fin 16 → Volume → List Byte} (hc : Passes c .S f) (h : s.portFree .S)
    (ha : ChangesEntry act index change body)
    (hbody : ∀ (t : State) i v, body (t.taken .S f.kind) i v = body t i v) :
    (16 ≤ index.toNat → s.ask c act = s.answered .S f.kind .range []) ∧
    ∀ i : Fin 16, index.toNat = i.val →
      ((s.volume i).state = .empty ∨ (s.volume i).state = .closed → s.ask c act = s.answered .S f.kind .state []) ∧
      ((s.volume i).state ≠ .empty → (s.volume i).state ≠ .closed →
        let t := s.setVolume i (change (s.volume i))
        s.ask c act = t.answered .S f.kind .ok (body t i (s.volume i))) := by
  refine ⟨fun hi => hc.pure h (ha.noEntry _ (finOf_none hi)), fun i hi => ⟨fun hv => ?_, fun h1 h2 => ?_⟩⟩
  · have hs : (s.volume i).state.settable = false := by obtain e | e := hv <;> rw [e] <;> rfl
    exact hc.pure h (ha.unsettable _ i (finOf_eq hi) hs)
  · have hdo := ha.settable (s.taken .S f.kind) i (finOf_eq hi) ((settable_iff _).2 ⟨h1, h2⟩)
    rw [hc.quiet h hdo rfl rfl rfl rfl]
    exact (answered_taken (s := s.setVolume i (change (s.volume i))) h _ _ _).trans 
      (congrArg _ (hbody (s.setVolume i (change (s.volume i))) i _))

/-- The timings of R152, each written out, and whether one was clamped. -/
theorem settleTimings_eq (settle : Word) (turn : Byte) (life : Word) (x y z : Nat) :
    settleTimings settle turn life x y z =
      { settle := if settle = 0xFFFF then x else if 2000 < settle.toNat then 2000 else settle.toNat / 10 * 10,
        turn := if turn = 0xFF then y else if turn = 0 then 1 else if 30 < turn.toNat then 30 else turn.toNat,
        life :=
          if life = 0xFFFF then z else if life.toNat < 500 then 500 else if 10000 < life.toNat then 10000
          else life.toNat,
        clamped := decide ((settle ≠ 0xFFFF ∧ 2000 < settle.toNat) ∨ (turn ≠ 0xFF ∧ (turn = 0 ∨ 30 < turn.toNat)) ∨
          (life ≠ 0xFFFF ∧ (life.toNat < 500 ∨ 10000 < life.toNat))) } := by
  have hs : settleSettle settle x =
      (if settle = 0xFFFF then x else if 2000 < settle.toNat then 2000 else settle.toNat / 10 * 10,
        decide (settle ≠ 0xFFFF ∧ 2000 < settle.toNat)) := by
    unfold settleSettle
    (repeat' split) <;> simp_all
  have ht : settleTurn turn y =
      (if turn = 0xFF then y else if turn = 0 then 1 else if 30 < turn.toNat then 30 else turn.toNat,
        decide (turn ≠ 0xFF ∧ (turn = 0 ∨ 30 < turn.toNat))) := by
    unfold settleTurn
    (repeat' split) <;> simp_all
  have hl : settleLife life z =
      (if life = 0xFFFF then z else if life.toNat < 500 then 500 else if 10000 < life.toNat then 10000
        else life.toNat, decide (life ≠ 0xFFFF ∧ (life.toNat < 500 ∨ 10000 < life.toNat))) := by
    unfold settleLife
    (repeat' split) <;> simp_all
  simp only [settleTimings, hs, ht, hl, Bool.decide_or, Bool.or_assoc]

/-- Settles O52: each request refuses or changes one entry, and what it stores is that of `settleTimings_eq`. -/
theorem timingBudget : Obligations.TimingBudget := by
  intro index settle turn life leafCap volumeCap s h timing budget refused
  obtain ⟨setTiming, htiming, hst⟩ := exec_setTiming index settle turn life s
  obtain ⟨setBudget, hbudget, hsb⟩ := exec_setBudget index leafCap volumeCap s
  obtain ⟨trange, tentry⟩ := (Passes.setTiming index settle turn life).changes h hst fun _ _ _ => rfl
  obtain ⟨brange, bentry⟩ := (Passes.setBudget index leafCap volumeCap).changes h hsb fun _ _ _ => rfl
  refine ⟨fun hi => ⟨htiming.trans (congrArg _ (trange hi)), hbudget.trans (congrArg _ (brange hi))⟩, fun i hi => ?_⟩
  obtain ⟨tstate, tset⟩ := tentry i hi
  obtain ⟨bstate, bset⟩ := bentry i hi
  refine ⟨fun hv => ⟨htiming.trans (congrArg _ (tstate hv)), hbudget.trans (congrArg _ (bstate hv))⟩,
    fun h1 h2 => ⟨htiming.trans (congrArg _ ((tset h1 h2).trans ?_)), hbudget.trans (congrArg _ (bset h1 h2))⟩⟩
  have hflag (b : Bool) : bitsByte [b] = if b then 1 else 0 := by cases b <;> rfl
  simp only [settleTimings_eq, State.volumeStatusClamped, hflag]
  rfl

end Sys2Proof.Machine
end

section
/-! PROOFS. The dose check (R95 to R101), and the charge of a flash against it (R102 to R104). -/

namespace Sys2Proof.Machine

open Sys2Proof

/-! ### Quotients rounded up -/

theorem ceilDiv_mono {a b : Nat} (h : a ≤ b) (c : Nat) : ceilDiv a c ≤ ceilDiv b c :=
  Nat.div_le_div_right (Nat.add_le_add_right h _)

theorem doseOf_mono {a b : Nat} (h : a ≤ b) (t : Nat) : doseOf a t ≤ doseOf b t :=
  ceilDiv_mono (Nat.mul_le_mul_right t h) 1000

theorem doseOf_zero (t : Nat) : doseOf 0 t = 0 := by simp [doseOf, ceilDiv]

/-! ### The light of the lamps (R97, R98) -/

/-- The light of a lamp on a half, by its factor for that half (R97). -/
theorem LampEntry.on_eq (e : LampEntry) (h : Half) (level : Nat) :
    e.on h level = ceilDiv (e.eFull * (if e.side = h then e.gDirect else e.gSpill) * level) Config.irradianceDivisor := by
  unfold LampEntry.on LampEntry.direct LampEntry.spill
  split <;> rfl

theorem LampEntry.on_mono (e : LampEntry) (h : Half) {a b : Nat} (hab : a ≤ b) : e.on h a ≤ e.on h b := by
  rw [on_eq, on_eq]
  exact ceilDiv_mono (Nat.mul_le_mul_left _ hab) _

theorem LampEntry.on_zero (e : LampEntry) (h : Half) : e.on h 0 = 0 := by
  simp [on_eq, ceilDiv, Config.irradianceDivisor]

theorem irradiance_mono (lamps : List LampEntry) (h : Half) {a b : Nat} (hab : a ≤ b) :
    irradiance lamps h a ≤ irradiance lamps h b :=
  List.sum_le_sum fun e _ => e.on_mono h hab

theorem irradiance_zero (lamps : List LampEntry) (h : Half) : irradiance lamps h 0 = 0 := by
  simp [irradiance, LampEntry.on_zero]

/-! ### The lamps' bound and floor (R96, R99) -/

/-- The least of a start and the values of a list. -/
theorem foldl_min_spec {α : Type} (f : α → Nat) (xs : List α) (a : Nat) :
    let m := xs.foldl (fun a x => min a (f x)) a
    m ≤ a ∧ (∀ x ∈ xs, m ≤ f x) ∧ (m = a ∨ ∃ x ∈ xs, m = f x) := by
  induction xs generalizing a with
  | nil => simp
  | cons x xs ih =>
    obtain ⟨hle, hall, hmem⟩ := ih (min a (f x))
    simp only [List.foldl_cons, List.forall_mem_cons, List.exists_mem_cons_iff]
    refine ⟨by omega, ⟨by omega, hall⟩, ?_⟩
    obtain h | h := hmem
    · rw [h]; omega
    · exact .inr (.inr h)

/-- The greatest of a start and the values of a list. -/
theorem foldl_max_spec {α : Type} (f : α → Nat) (xs : List α) (a : Nat) :
    let m := xs.foldl (fun a x => max a (f x)) a
    a ≤ m ∧ (∀ x ∈ xs, f x ≤ m) ∧ (m = a ∨ ∃ x ∈ xs, m = f x) := by
  induction xs generalizing a with
  | nil => simp
  | cons x xs ih =>
    obtain ⟨hle, hall, hmem⟩ := ih (max a (f x))
    simp only [List.foldl_cons, List.forall_mem_cons, List.exists_mem_cons_iff]
    refine ⟨by omega, ⟨by omega, hall⟩, ?_⟩
    obtain h | h := hmem
    · rw [h]; omega
    · exact .inr (.inr h)

namespace DoseInput

variable {i : DoseInput}

theorem lamp_limits (i : DoseInput) : ∀ e ∈ i.lamps, i.bound ≤ e.maxDuration ∧ e.lMin ≤ i.floor := fun e he =>
  ⟨(foldl_min_spec LampEntry.maxDuration i.lamps 200000).2.1 e he,
    (foldl_max_spec LampEntry.lMin i.lamps 0).2.1 e he⟩

/-- The floor is that of some lamp. -/
theorem exists_floor (h : i.lamps ≠ []) : ∃ e ∈ i.lamps, i.floor = e.lMin := by
  obtain ⟨-, hall, hzero | hmem⟩ := foldl_max_spec LampEntry.lMin i.lamps 0
  · obtain ⟨e, he⟩ := List.exists_mem_of_ne_nil _ h
    have hfloor : i.floor = 0 := hzero
    have hle : e.lMin ≤ i.floor := hall e he
    exact ⟨e, he, by omega⟩
  · exact hmem

/-- The bound is that of some lamp, of lamps whose entries are within the range of R72. -/
theorem exists_bound (h : i.lamps ≠ []) (hmax : ∀ e ∈ i.lamps, e.maxDuration ≤ 200000) :
    ∃ e ∈ i.lamps, i.bound = e.maxDuration := by
  obtain ⟨-, hall, htop | hmem⟩ := foldl_min_spec LampEntry.maxDuration i.lamps 200000
  · obtain ⟨e, he⟩ := List.exists_mem_of_ne_nil _ h
    have hbound : i.bound = 200000 := htop
    have hle : i.bound ≤ e.maxDuration := hall e he
    exact ⟨e, he, by have := hmax e he; omega⟩
  · exact hmem

/-- The duration used and CLAMPED (R96). -/
theorem duration_cases (i : DoseInput) :
    (i.stored < 100 → i.duration = 100 ∧ i.clamped = true) ∧
    (100 ≤ i.stored → i.stored ≤ i.bound → i.duration = i.stored ∧ i.clamped = false) ∧
    (100 ≤ i.stored → i.bound < i.stored → i.duration = i.bound ∧ i.clamped = true) := by
  unfold duration clamped
  refine ⟨fun h => ?_, fun h h' => ?_, fun h h' => ?_⟩
  · simp [h]
  · rw [if_neg (by omega), if_pos h']; simp [h, h']
  · rw [if_neg (by omega), if_neg (by omega)]; simp [h']

/-! ### The side doses (R98) -/

theorem dLeft_mono (i : DoseInput) {a b : Nat} (hab : a ≤ b) : i.dLeft a ≤ i.dLeft b := by
  unfold dLeft
  split
  · exact doseOf_mono (irradiance_mono _ _ hab) _
  · exact le_rfl

theorem dRight_mono (i : DoseInput) {a b : Nat} (hab : a ≤ b) : i.dRight a ≤ i.dRight b := by
  unfold dRight
  split
  · exact doseOf_mono (irradiance_mono _ _ hab) _
  · exact le_rfl

theorem dLeft_zero (i : DoseInput) : i.dLeft 0 = 0 := by simp [dLeft, irradiance_zero, doseOf_zero]

theorem dRight_zero (i : DoseInput) : i.dRight 0 = 0 := by simp [dRight, irradiance_zero, doseOf_zero]

/-- The side doses written out: 0 for an absent side, and otherwise the lamps' light, each rounded up, times the
duration over 1000, rounded up. -/
theorem doses_eq (i : DoseInput) (l : Nat) :
    let light (h : Half) := (i.lamps.map fun e =>
      (e.eFull * (if e.side = h then e.gDirect else e.gSpill) * l + 261119) / 261120).sum
    (i.left = none → i.dLeft l = 0) ∧ (i.right = none → i.dRight l = 0) ∧
    (i.left ≠ none → i.dLeft l = (light .left * i.duration + 999) / 1000) ∧
    (i.right ≠ none → i.dRight l = (light .right * i.duration + 999) / 1000) := by
  have hlight (h : Half) : irradiance i.lamps h l = (i.lamps.map fun e =>
      (e.eFull * (if e.side = h then e.gDirect else e.gSpill) * l + 261119) / 261120).sum :=
    congrArg List.sum (List.map_congr_left fun e _ => e.on_eq h l)
  simp only [← hlight, ← Option.isSome_iff_ne_none, dLeft, dRight]
  refine ⟨fun h => by simp [h], fun h => by simp [h], fun h => ?_, fun h => ?_⟩ <;> rw [if_pos h] <;> rfl

/-! ### The three tests (R99) -/

theorem within_iff {d : Nat} {x : Option Nat} : within d x = true ↔ ∀ h, x = some h → d ≤ h := by
  cases x <;> simp [within]

/-- The cap named is that of the first test that fails (R101). -/
theorem failing_cases (i : DoseInput) (l : Nat) :
    ((∃ x, i.left = some x ∧ x < i.dLeft l) → i.failing l = some .leafLeft) ∧
    ((∀ x, i.left = some x → i.dLeft l ≤ x) → (∃ x, i.right = some x ∧ x < i.dRight l) →
      i.failing l = some .leafRight) ∧
    ((∀ x, i.left = some x → i.dLeft l ≤ x) → (∀ x, i.right = some x → i.dRight l ≤ x) →
      i.failing l = if i.dLeft l + i.dRight l ≤ i.volume then none else some .volume) := by
  have exceeds {d : Nat} {x : Option Nat} (h : ∃ y, x = some y ∧ y < d) : (!within d x) = true := by
    obtain ⟨y, rfl, hy⟩ := h
    simpa [within] using hy
  have passes {d : Nat} {x : Option Nat} (h : ∀ y, x = some y → d ≤ y) : ¬(!within d x) = true := by
    simpa using within_iff.2 h
  unfold failing
  refine ⟨fun h => if_pos (exceeds h), fun hl h => ?_, fun hl hr => ?_⟩
  · rw [if_neg (passes hl), if_pos (exceeds h)]
  · rw [if_neg (passes hl), if_neg (passes hr)]

/-- A level fits when the three tests hold. -/
theorem fits_iff (i : DoseInput) (l : Nat) :
    i.fits l = true ↔
      (∀ x, i.left = some x → i.dLeft l ≤ x) ∧ (∀ x, i.right = some x → i.dRight l ≤ x) ∧
        i.dLeft l + i.dRight l ≤ i.volume := by
  simp only [fits, failing, ← within_iff, Option.isNone_iff_eq_none]
  cases within (i.dLeft l) i.left <;> cases within (i.dRight l) i.right <;> simp

theorem fits_mono {a b : Nat} (hab : a ≤ b) (h : i.fits b = true) : i.fits a = true := by
  have hl := i.dLeft_mono hab
  have hr := i.dRight_mono hab
  obtain ⟨left, right, volume⟩ := (i.fits_iff b).1 h
  exact (i.fits_iff a).2
    ⟨fun x hx => hl.trans (left x hx), fun x hx => hr.trans (right x hx), (Nat.add_le_add hl hr).trans volume⟩

theorem fits_zero (i : DoseInput) : i.fits 0 = true :=
  (i.fits_iff 0).2 ⟨by simp [dLeft_zero], by simp [dRight_zero], by simp [dLeft_zero, dRight_zero]⟩

end DoseInput

/-! ### The level chosen (R100, R101) -/

/-- The search finds the largest level below its start that fits, from the floor on. -/
theorem largestFitting_some {fits : Nat → Bool} {floor n l : Nat} (hf : floor ≤ l) (hn : l < n) (hl : fits l = true)
    (hm : ∀ m, l < m → m < n → fits m = false) : largestFitting fits floor n = some l := by
  induction n with
  | zero => omega
  | succ n ih =>
    rw [largestFitting, if_neg (by omega)]
    by_cases h : l = n
    · rw [← h, if_pos hl]
    · rw [hm n (by omega) (by omega)]
      exact ih (by omega) fun m h1 h2 => hm m h1 (by omega)

theorem largestFitting_none {fits : Nat → Bool} {floor n : Nat} (hm : ∀ m, floor ≤ m → m < n → fits m = false) :
    largestFitting fits floor n = none := by
  induction n with
  | zero => rfl
  | succ n ih =>
    rw [largestFitting]
    split
    · rfl
    · rw [hm n (by omega) (by omega)]
      exact ih fun m h1 h2 => hm m h1 (by omega)

namespace DoseInput

variable {i : DoseInput}

/-- The dose check's decision: the requested level, the largest fitting one below it from the floor, or HELD with the
cap that fails at the lowest level tested. -/
theorem check_cases (i : DoseInput) :
    (i.fits i.level = true → i.check = .fits i.level) ∧
    (∀ l, i.fits i.level = false → i.floor ≤ l → l < i.level → i.fits l = true →
      (∀ m, l < m → m < i.level → i.fits m = false) → i.check = .dimmed l) ∧
    (i.fits i.level = false → (∀ m, i.floor ≤ m → m < i.level → i.fits m = false) →
      i.check = .held (i.failing (if i.floor < i.level then i.floor else i.level))) := by
  unfold check
  refine ⟨fun h => if_pos h, fun l h hf hl hfit hm => ?_, fun h hm => ?_⟩
  · simp [h, largestFitting_some hf hl hfit hm]
  · simp [h, largestFitting_none hm, lowestTested]

end DoseInput

/-! ### What a dose check reads (R94, R95) -/

theorem volumeHeadroom_mounted {s : State} {v : Fin 16} (h : s.mounted = some v) :
    s.volumeHeadroom = (s.volume v).volumeCap - (s.volume v).doseUsed := by
  simp only [State.volumeHeadroom, h, Volume.headroom]

theorem leafHeadroom_mounted {s : State} {v : Fin 16} {j : Nat} {e : LeafEntry} (h : s.mounted = some v)
    (he : leafAt s.account.leaves j = some e) : s.leafHeadroom j = (s.volume v).leafCap - e.dose := by
  simp only [State.leafHeadroom, h, he]

/-- Settles O35: what the check reads, and its parts in the order of the statement. -/
theorem doseCheck : Obligations.DoseCheck := by
  refine ⟨fun mask level stored s => ⟨rfl, rfl, rfl, fun h => by simp [State.doseInput, h],
    fun h => by simp [State.doseInput, h], fun v hv => ⟨volumeHeadroom_mounted hv, fun j e hj he => ?_,
      fun j e hj he => ?_⟩⟩, fun i => ?_⟩
  · simp [State.doseInput, hj, leafHeadroom_mounted hv he]
  · simp [State.doseInput, hj, leafHeadroom_mounted hv he]
  · obtain ⟨hfits, hdimmed, hheld⟩ := i.check_cases
    exact ⟨⟨i.lamp_limits, fun h => ⟨DoseInput.exists_floor h, DoseInput.exists_bound h⟩⟩, i.doses_eq,
      i.duration_cases, fun a b hab => ⟨i.dLeft_mono hab, i.dRight_mono hab, DoseInput.fits_mono hab⟩, i.fits_zero,
      hfits, hdimmed, hheld, fun l => ⟨i.fits_iff l, i.failing_cases l⟩⟩

/-! ### The charge of a flash (R102, R103) -/

/-- The recorded irradiance of a lamp is that of its entry at the level used. -/
theorem flashRecord_on (s : State) (r : LightRequest) (i : DoseInput) (used : Nat) (dimmed : Bool) (h : Half) :
    (s.flashRecord r i used dimmed).lamps.map (·.on h) =
      (lampsOf r.mask).map fun n => (s.lamp n).entry.on h used := by
  simp only [State.flashRecord, List.map_map]
  rfl

/-- The lamps confirmed light a half by no more than all lamps of the record do. -/
theorem irradiance_le (f : Flash) (h : Half) : f.irradiance h ≤ (f.lamps.map (·.on h)).sum :=
  (List.filter_sublist.map _).sum_le_sum fun _ _ => Nat.zero_le _

/-- Whatever lamps of a record were confirmed, a half's light is within that of the dose check. -/
theorem irradiance_confirmed_le {s : State} {r : LightRequest} {level stored used : Nat} {dimmed : Bool}
    {lamps : List FlashLamp} {g : Flash}
    (hg : lamps.map (fun x => { x with confirm := .pending }) =
      (s.flashRecord r (s.doseInput r.mask level stored) used dimmed).lamps) (hlamps : g.lamps = lamps) (h : Half) :
    g.irradiance h ≤ irradiance (s.doseInput r.mask level stored).lamps h used := by
  have hon : lamps.map (·.on h) = (lampsOf r.mask).map fun n => (s.lamp n).entry.on h used := by
    rw [← flashRecord_on s r (s.doseInput r.mask level stored) used dimmed, ← hg, List.map_map]
    rfl
  calc g.irradiance h ≤ (lamps.map (·.on h)).sum := hlamps ▸ irradiance_le g h
    _ = irradiance (s.doseInput r.mask level stored).lamps h used := by
      rw [hon, irradiance, State.doseInput, List.map_map]
      rfl

/-- Settles O36: the charge of each side is within the dose that the check tested for it. -/
theorem chargeWithinFit : Obligations.ChargeWithinFit := by
  intro s r level stored used dimmed lamps i f hfit hlamps g
  have hlight (h : Half) : g.irradiance h ≤ irradiance i.lamps h used := irradiance_confirmed_le hlamps rfl h
  have hside (h : Half) (x : Option Nat) : (if x.isSome then doseOf (g.irradiance h) i.duration else 0) ≤
      if (x.map s.leafHeadroom).isSome then doseOf (irradiance i.lamps h used) i.duration else 0 := by
    cases x with
    | none => exact le_rfl
    | some j => exact doseOf_mono (hlight h) _
  have hleft : g.chargeLeft ≤ i.dLeft used := hside .left (s.presentLeaf .left)
  have hright : g.chargeRight ≤ i.dRight used := hside .right (s.presentLeaf .right)
  obtain ⟨left, right, volume⟩ := (i.fits_iff used).1 hfit
  refine ⟨fun j hj => hleft.trans (left _ (congrArg (Option.map s.leafHeadroom) hj)),
    fun j hj => hright.trans (right _ (congrArg (Option.map s.leafHeadroom) hj)),
    (Nat.add_le_add hleft hright).trans volume, fun hn => ?_, fun hn => ?_, fun v hv => volumeHeadroom_mounted hv⟩
  · rw [Flash.chargeLeft, hn]; rfl
  · rw [Flash.chargeRight, hn]; rfl

end Sys2Proof.Machine
end

section
/-! SUPPORT. The figures of the MOUNTED entry against its leaf table (R103, R104, R175): what the agreement rests on,
and the side changes, charges and exceptions that keep it. -/

namespace Sys2Proof.Machine

open Sys2Proof

/-! ### What the agreement rests on -/

/-- The figures of an entry that its leaf table counts (R104, R175). -/
structure Volume.SameFigures (v w : Volume) : Prop where
  n : w.n = v.n
  doseUsed : w.doseUsed = v.doseUsed
  counts : w.counts = v.counts

theorem Volume.SameFigures.agrees {v w : Volume} (h : v.SameFigures w) {t : List LeafEntry} (ha : v.agrees t) :
    w.agrees t := by
  rwa [Volume.agrees, h.n, h.doseUsed, h.counts]

/-- The agreement depends on the MOUNTED entry's figures and on the leaf table alone. -/
theorem State.Accounted.of_figures {s t : State} (h : s.Accounted) (hm : t.mounted = s.mounted)
    (hl : t.account.leaves = s.account.leaves)
    (hv : ∀ i, s.mounted = some i → (s.volume i).SameFigures (t.volume i)) : t.Accounted := fun i hi => by
  rw [hm] at hi
  rw [hl]
  exact (hv i hi).agrees (h i hi)

theorem State.Accounted.of_account {s t : State} (h : s.Accounted) (ha : t.account = s.account) : t.Accounted :=
  h.of_figures (mounted_congr (congrArg _ ha)) (congrArg _ ha) fun i _ => by
    rw [volume_congr ha]; exact ⟨rfl, rfl, rfl⟩

/-- An entry that is MOUNTED before exactly when it is after leaves the search for the MOUNTED entry as it was. -/
theorem mounted_setVolume_same {s : State} {i : Fin 16} {v : Volume}
    (hv : v.state = .mounted ↔ (s.volume i).state = .mounted) : (s.setVolume i v).mounted = s.mounted := by
  have h (j : Fin 16) : ((s.setVolume i v).volume j).state = .mounted ↔ (s.volume j).state = .mounted := by
    rw [setVolume_volume]
    split
    · next e => rw [e, hv]
    · rfl
  simp only [State.mounted, h]

/-- An entry changes that is MOUNTED neither before nor after. -/
theorem State.Accounted.setVolume {s : State} (h : s.Accounted) {i : Fin 16} {v : Volume}
    (hi : (s.volume i).state ≠ .mounted) (hv : v.state ≠ .mounted) : (s.setVolume i v).Accounted :=
  h.of_figures (mounted_setVolume_same (by simp [hi, hv])) rfl fun j hj => by
    have hne : j ≠ i := by rintro rfl; exact hi (State.Positioned.mounted_state hj)
    rw [setVolume_volume, if_neg hne]
    exact ⟨rfl, rfl, rfl⟩

/-- An entry changes and keeps its state and its figures. -/
theorem State.Accounted.setVolume_figures {s : State} (h : s.Accounted) {i : Fin 16} {v : Volume}
    (hs : v.state = (s.volume i).state) (hv : (s.volume i).SameFigures v) : (s.setVolume i v).Accounted :=
  h.of_figures (mounted_setVolume_same (by rw [hs])) rfl fun j _ => by
    rw [setVolume_volume]
    split
    · next e => rw [e]; exact hv
    · exact ⟨rfl, rfl, rfl⟩

/-- With no entry MOUNTED there is nothing to agree. -/
theorem accounted_of_unmounted {s : State} (h : ∀ i, (s.volume i).state ≠ .mounted) : s.Accounted := fun i hi =>
  absurd (State.Positioned.mounted_state hi) (h i)

/-- The one MOUNTED entry is the one that the search finds. -/
theorem mounted_eq_some {s : State} {i : Fin 16} (hi : (s.volume i).state = .mounted)
    (hu : ∀ j, (s.volume j).state = .mounted → j = i) : s.mounted = some i := by
  refine find_allVolumes (by simpa using hi) fun j hj => ?_
  simp only [decide_eq_false_iff_not]
  intro hm
  exact absurd (hu j hm) (ne_of_lt hj)

/-! ### Sums over the leaf table -/

theorem sum_map_modify {α : Type} (F : α → Nat) (f : α → α) {t : List α} {k : Nat} {e : α} (he : t[k]? = some e) :
    ((t.modify k f).map F).sum + F e = (t.map F).sum + F (f e) := by
  induction t generalizing k with
  | nil => simp at he
  | cons x xs ih =>
    cases k with
    | zero =>
      obtain rfl : x = e := by simpa using he
      simp only [List.modify_zero_cons, List.map_cons, List.sum_cons]
      omega
    | succ k =>
      have := ih (k := k) (by simpa using he)
      simp only [List.modify_succ_cons, List.map_cons, List.sum_cons]
      omega

/-- A leaf entry changed: its share of a sum over the table is exchanged for the new one. -/
theorem sum_map_modifyLeaf (F : LeafEntry → Nat) (f : LeafEntry → LeafEntry) {t : List LeafEntry} {j : Nat}
    {e : LeafEntry} (he : leafAt t j = some e) :
    ((modifyLeaf t j f).map F).sum + F e = (t.map F).sum + F (f e) := by
  unfold leafAt at he
  unfold modifyLeaf
  split at he
  · cases he
  · next hj => rw [if_neg hj]; exact sum_map_modify F f he

theorem length_modifyLeaf (t : List LeafEntry) (j : Nat) (f : LeafEntry → LeafEntry) :
    (modifyLeaf t j f).length = t.length := by
  unfold modifyLeaf
  split
  · rfl
  · exact List.length_modify ..

/-- The sides of a leaf that are in a state. -/
def LeafEntry.tally (x : SideState) (e : LeafEntry) : Nat :=
  (if e.recto.state = x then 1 else 0) + if e.verso.state = x then 1 else 0

/-- The number of sides of a table in a state, leaf by leaf. -/
theorem sum_tally (x : SideState) (t : List LeafEntry) :
    (t.map (·.tally x)).sum =
      t.countP (fun e => decide (e.recto.state = x)) + t.countP (fun e => decide (e.verso.state = x)) := by
  induction t with
  | nil => rfl
  | cons e t ih =>
    simp only [List.map_cons, List.sum_cons, List.countP_cons, ih, decide_eq_true_eq]
    dsimp only [LeafEntry.tally]
    omega

/-- The agreement of an entry's figures, as sums over the table. -/
theorem agrees_iff {v : Volume} {t : List LeafEntry} :
    v.agrees t ↔ t.length = v.n ∧ v.doseUsed = (t.map (·.dose)).sum ∧ ∀ x, v.counts.get x = (t.map (·.tally x)).sum := by
  simp only [sum_tally]

/-! ### A side changed (R168, R175) -/

theorem SideCounts.get_set (c : SideCounts) (a x : SideState) (n : Nat) :
    (c.set a n).get x = if x = a then n else c.get x := by
  cases a <;> cases x <;> rfl

/-- A side that leaves one state for another takes its one with it. -/
theorem SideCounts.get_move {c : SideCounts} {a : SideState} (ha : 1 ≤ c.get a) (b x : SideState) :
    (c.move a b).get x + (if a = x then 1 else 0) = c.get x + if b = x then 1 else 0 := by
  unfold SideCounts.move
  split
  · next h => rw [h]
  · next h =>
    simp only [SideCounts.get_set]
    by_cases hb : x = b
    · subst hb; simp [h, Ne.symm h]
    · by_cases hx : x = a
      · subst hx; simp [hb, Ne.symm hb]; omega
      · simp [hx, hb, Ne.symm hx, Ne.symm hb]

theorem LeafEntry.tally_setSide (e : LeafEntry) (f : Face) (r : SideRec) (x : SideState) :
    (e.setSide f r).tally x + (if (e.side f).state = x then 1 else 0) =
      e.tally x + if r.state = x then 1 else 0 := by
  have exchange (a b c : Nat) : a + b + c = c + b + a := by omega
  cases f with
  | verso => exact Nat.add_right_comm ..
  | recto => exact exchange ..

theorem LeafEntry.dose_setSide (e : LeafEntry) (f : Face) (r : SideRec) : (e.setSide f r).dose = e.dose := by
  cases f <;> rfl

/-- A side of the table is one of those counted in its state. -/
theorem one_le_sum_tally {t : List LeafEntry} {j : Nat} {e : LeafEntry} (he : leafAt t j = some e) (f : Face) :
    1 ≤ (t.map (·.tally (e.side f).state)).sum := by
  have hone : 1 ≤ e.tally (e.side f).state := by cases f <;> simp [LeafEntry.tally, LeafEntry.side]
  have hmem : e ∈ t := by
    unfold leafAt at he
    split at he
    · cases he
    · exact List.mem_of_getElem? he
  exact hone.trans (List.le_sum_of_mem (List.mem_map_of_mem hmem))

/-- An entry in agreement stays so when a side changes and its count moves. -/
theorem agrees_changeSide {v : Volume} {t : List LeafEntry} (h : v.agrees t) {j : Nat} {e : LeafEntry}
    (he : leafAt t j = some e) (f : Face) (r : SideRec) :
    ({ v with counts := v.counts.move (e.side f).state r.state } : Volume).agrees
      (modifyLeaf t j fun e => e.setSide f r) := by
  obtain ⟨hn, hdose, hcounts⟩ := agrees_iff.1 h
  refine agrees_iff.2 ⟨(length_modifyLeaf ..).trans hn, ?_, fun x => ?_⟩
  · have hsum := sum_map_modifyLeaf (·.dose) (fun e => e.setSide f r) he
    simp only [LeafEntry.dose_setSide] at hsum
    exact hdose.trans (Nat.add_right_cancel hsum).symm
  · have hsum := sum_map_modifyLeaf (·.tally x) (fun e => e.setSide f r) he
    have htally := e.tally_setSide f r x
    have hmove := SideCounts.get_move (hcounts (e.side f).state ▸ one_le_sum_tally he f) r.state x
    have hx := hcounts x
    dsimp only at hsum ⊢
    omega

theorem State.Accounted.changeSide {s : State} (h : s.Accounted) (f : Face) (j : Nat) (g : SideRec → SideRec) :
    (s.changeSide f j g).Accounted := fun i hi => by
  rw [changeSide_mounted] at hi
  cases hr : s.side f j with
  | none => rw [changeSide_none hr]; exact h i hi
  | some r =>
    obtain ⟨e, he, rfl⟩ := Option.map_eq_some_iff.1 hr
    rw [changeSide_leaves hr, changeSide_volume hr hi, if_pos rfl]
    exact agrees_changeSide (h i hi) he f _

/-! ### A charge (R103) -/

theorem leafAt_addDose_isSome (t : List LeafEntry) (j : Option Nat) (d i : Nat) :
    (leafAt (addDose t j d) i).isSome = (leafAt t i).isSome := by
  rw [leafAt_addDose, Option.isSome_map]

/-- A dose added to a leaf of the table, or none to no leaf. -/
theorem addDose_sums {t : List LeafEntry} {j : Option Nat} {d : Nat} (hd : j = none → d = 0)
    (hj : ∀ i, j = some i → (leafAt t i).isSome = true) :
    (addDose t j d).length = t.length ∧ ((addDose t j d).map (·.dose)).sum = (t.map (·.dose)).sum + d ∧
      ∀ x, ((addDose t j d).map (·.tally x)).sum = (t.map (·.tally x)).sum := by
  cases j with
  | none => simp [addDose, hd]
  | some i =>
    obtain ⟨e, he⟩ := Option.isSome_iff_exists.1 (hj i rfl)
    have hdose := sum_map_modifyLeaf (·.dose) (fun e => { e with dose := e.dose + d }) he
    refine ⟨length_modifyLeaf .., ?_, fun x => ?_⟩
    · dsimp only [addDose] at hdose ⊢
      omega
    · exact Nat.add_right_cancel (sum_map_modifyLeaf (·.tally x) (fun e => { e with dose := e.dose + d }) he)

theorem State.Accounted.charge {s : State} (h : s.Accounted) {a b : Option Nat} {dl dr : Nat}
    (ha : a = none → dl = 0) (hb : b = none → dr = 0)
    (hleaf : ∀ j, a = some j ∨ b = some j → (leafAt s.account.leaves j).isSome = true) :
    (s.charge a b dl dr).Accounted := fun i hi => by
  rw [(Steady.refl s).charge.mounted] at hi
  obtain ⟨hn, hdose, hcounts⟩ := agrees_iff.1 (h i hi)
  obtain ⟨len1, dose1, tally1⟩ := addDose_sums ha fun j hj => hleaf j (.inl hj)
  obtain ⟨len2, dose2, tally2⟩ := addDose_sums (t := addDose s.account.leaves a dl) hb fun j hj => by
    rw [leafAt_addDose_isSome]; exact hleaf j (.inr hj)
  rw [charge_leaves, charge_volume, if_pos hi]
  refine agrees_iff.2 ⟨len2.trans (len1.trans hn), ?_, fun x => (hcounts x).trans ?_⟩
  · dsimp only
    omega
  · rw [tally2, tally1]

/-! ### An exception handed on (R178) -/

theorem State.Accounted.addException? {s : State} (h : s.Accounted) (x : Option ExcRecord) :
    (s.addException? x).Accounted := by
  refine h.of_figures (Steady.refl s).addException?.mounted (addExceptionOf_leaves s x) fun i hi => ?_
  cases x with
  | none => exact ⟨rfl, rfl, rfl⟩
  | some r =>
    simp only [State.addException?, State.addException, hi]
    split
    · rw [volume_congr (notify_frame ..).2.1, setVolume_volume, if_pos rfl]; exact ⟨rfl, rfl, rfl⟩
    · rw [setVolume_volume, if_pos rfl]; exact ⟨rfl, rfl, rfl⟩

/-! ### A MOUNT of a PENDING entry (R154) -/

/-- The figures of REGISTER agree with the leaf table of a MOUNT: no dose, every side WANTED. -/
theorem agrees_fresh {v : Volume} (hc : v.counts = ⟨2 * v.n, 0, 0, 0, 0, 0, 0⟩) (hd : v.doseUsed = 0) :
    v.agrees (freshLeaves v.n) := by
  refine agrees_iff.2 ⟨List.length_replicate, ?_, fun x => ?_⟩
  · simp [freshLeaves, LeafEntry.fresh, hd]
  · simp only [freshLeaves, List.map_replicate, List.sum_replicate, hc]
    cases x <;> simp [LeafEntry.tally, LeafEntry.fresh, SideRec.fresh, SideCounts.get, Nat.mul_comm]

/-- An entry becomes MOUNTED while no other is: the agreement is its own. -/
theorem accounted_mounted {s : State} {i : Fin 16} {v : Volume} {k : Nat}
    (hu : ∀ j, (s.volume j).state = .mounted → j = i) (hv : v.state = .mounted) (ha : v.agrees s.account.leaves) :
    ((s.setVolume i v).enterCradle i k).mounted = some i ∧ ((s.setVolume i v).enterCradle i k).Accounted := by
  have hvol (j : Fin 16) :
      ((s.setVolume i v).enterCradle i k).volume j = if j = i then v else s.volume j := by
    rw [volume_congr (enterCradle_frame _ i k).1, setVolume_volume]
  have hm : ((s.setVolume i v).enterCradle i k).mounted = some i := by
    refine mounted_eq_some (by rw [hvol, if_pos rfl, hv]) fun j hj => ?_
    rw [hvol] at hj
    split at hj
    · assumption
    · exact hu j hj
  refine ⟨hm, fun j hj => ?_⟩
  obtain rfl := Option.some.inj (hm.symm.trans hj)
  rw [hvol, if_pos rfl, (enterCradle_frame _ i k).1]
  exact ha

theorem mountPending_accounted {s : State} {i : Fin 16} (k : Nat) (hm : ∀ j, (s.volume j).state ≠ .mounted)
    (hc : (s.volume i).counts = ⟨2 * (s.volume i).n, 0, 0, 0, 0, 0, 0⟩) (hd : (s.volume i).doseUsed = 0) :
    (s.mountPending i k).mounted = some i ∧ (s.mountPending i k).Accounted :=
  accounted_mounted (s := (s.setLeaves (freshLeaves (s.volume i).n)).setExceptions [])
    (v := { s.volume i with state := .mounted }) (fun j hj => absurd hj (hm j)) rfl
    (agrees_fresh (v := { s.volume i with state := .mounted }) hc hd)

end Sys2Proof.Machine
end

section
/-! SUPPORT. The operations inside an opening keep the MOUNTED entry's figures and its leaf table in agreement: each
changes them by side changes, exceptions and, at a flash end, by the charge. -/

namespace Sys2Proof.Machine

open Sys2Proof

namespace State.Accounted

variable {s : State}

/-! ### What leaves the account unit as it is -/

theorem setCtx (hs : s.Accounted) {h c} : (s.setCtx h c).Accounted := hs

theorem setClaim (hs : s.Accounted) {h c} : (s.setClaim h c).Accounted := hs

theorem setWaitOrder (hs : s.Accounted) {w} : (s.setWaitOrder w).Accounted := hs

theorem setLamp (hs : s.Accounted) {i x} : (s.setLamp i x).Accounted := hs

theorem setActive (hs : s.Accounted) {a} : (s.setActive a).Accounted := hs

theorem setRx (hs : s.Accounted) {h r} : (s.setRx h r).Accounted := hs

theorem setSlot (hs : s.Accounted) {i x} : (s.setSlot i x).Accounted := hs

theorem setLight (hs : s.Accounted) {x : Light} : ({ s with light := x } : State).Accounted := hs

theorem setDrain (hs : s.Accounted) {x : Drain} : ({ s with drain := x } : State).Accounted := hs

theorem setCapture (hs : s.Accounted) {x : Capture} : ({ s with capture := x } : State).Accounted := hs

theorem setCause (hs : s.Accounted) {h c x} : (s.setCause h c x).Accounted := hs.of_account (by simp)

theorem startStep (hs : s.Accounted) {h} : (s.startStep h).Accounted := hs.of_account (by simp)

theorem startPair (hs : s.Accounted) : s.startPair.Accounted := hs.of_account (by simp)

theorem activateDrain (hs : s.Accounted) : s.activateDrain.Accounted := hs.of_account (by simp)

theorem evaluateSide (hs : s.Accounted) {f j} : (s.evaluateSide f j).Accounted := hs.of_account (by simp)

theorem notify (hs : s.Accounted) {l n} : (s.notify l n).Accounted := hs.of_account (by simp)

theorem evaluate (hs : s.Accounted) : s.evaluate.Accounted := hs.of_account (by simp)

theorem freeSlot (hs : s.Accounted) {i} : (s.freeSlot i).Accounted := hs.of_account (by simp)

/-! ### Claims and ends (R48 to R50, R62 to R69) -/

/-- An operation carried out or not. -/
theorem ite {t u : State} (c : Prop) [Decidable c] (ht : t.Accounted) (hu : u.Accounted) :
    (if c then t else u).Accounted := by
  split
  · exact ht
  · exact hu

theorem endClaim (hs : s.Accounted) {h e} : (s.endClaim h e).Accounted := by
  cases hc : s.claimOf h with
  | none => rw [endClaim_none hc]; exact hs
  | some c =>
    have hu : (s.unclaimSide h c).Accounted :=
      (hs.changeSide (faceOf h) c.leaf (SideRec.unclaimed c.prior)).of_account rfl
    rw [endClaim_some hc]
    exact ite _ hu.notify hu

theorem endClaims (hs : s.Accounted) {e} : (s.endClaims e).Accounted := hs.endClaim.endClaim

theorem endOne (hs : s.Accounted) {h} : (s.endOne h).Accounted := by
  cases hc : s.ctx h with
  | none => rw [endOne_none hc]; exact hs
  | some c => exact ((hs.changeSide _ _ _).addException? _).of_account (endOne_account hc)

theorem endKeeps : EndKeeps State.Accounted where
  partner _ hs := hs.of_account (by simp)
  one _ hs := hs.endOne

theorem endCapture (hs : s.Accounted) {h} : (s.endCapture h).Accounted := endKeeps.endCapture h hs

/-- An end with its cause (R45). -/
theorem causedEnd (hs : s.Accounted) {h c x} : ((s.setCause h c x).endCapture h).Accounted :=
  hs.setCause.endCapture

theorem causedEndOne (hs : s.Accounted) {h c x} : ((s.setCause h c x).endOne h).Accounted :=
  hs.setCause.endOne

theorem endIfNow (hs : s.Accounted) {h} : (s.endIfNow h).Accounted := endKeeps.endIfNow h hs

theorem cancelCtx (hs : s.Accounted) {h} : (s.cancelCtx h).Accounted := endIfNow (hs.of_account (by simp))

theorem cancelBoth (hs : s.Accounted) : s.cancelBoth.Accounted := (endIfNow (hs.of_account (by simp))).endIfNow

theorem abortBoth (hs : s.Accounted) : s.abortBoth.Accounted := (endIfNow (hs.of_account (by simp))).endIfNow

theorem abortOpening (hs : s.Accounted) : s.abortOpening.Accounted := hs.cancelBoth.endClaims.evaluate

/-! ### The light unit (R83 to R92) -/

theorem failGrant (hs : s.Accounted) {v c x} : (s.failGrant v c x).Accounted := by
  have unlinked {h : Half} {r : State} (hr : r.Accounted) :
      (match r.ctx h with
       | none => r
       | some c => r.setCtx h (some { c with linked := false })).Accounted := by
    split
    · exact hr
    · exact hr.setCtx
  unfold State.failGrant
  split
  · exact hs.causedEnd
  · exact hs.causedEnd
  · exact (unlinked (unlinked hs.setCause).setCause).endOne.endOne

theorem grantRequest (hs : s.Accounted) {r} : (s.grantRequest r).Accounted := by
  have held : (s.setHeld (s.light.held.filter fun x => decide (x ≠ r))).Accounted := hs
  unfold State.grantRequest
  dsimp only
  split
  · exact held
  · split
    · exact held.failGrant
    · split
      · exact held.of_account (by simp)
      · exact held.of_account (by simp)
      · exact held.failGrant

theorem lightDecisions (n : Nat) (hs : s.Accounted) : (lightDecisions n s).Accounted := by
  induction n generalizing s with
  | zero => exact hs
  | succ n ih =>
    unfold Machine.lightDecisions
    split
    · split
      · exact hs
      · exact ih hs.grantRequest
    · exact hs

theorem decideLight (hs : s.Accounted) : s.decideLight.Accounted := hs.lightDecisions 4

theorem decideMemory (hs : s.Accounted) : s.decideMemory.Accounted := hs.of_account (by simp)

/-- Both arbiters at the end of an event (R83, R126). -/
theorem arbitrate (hs : s.Accounted) (r : State) : (r.arbitrate s).Accounted :=
  have h1 : (r.decideIfPlaced s).Accounted := ite _ hs.decideLight hs
  ite _ h1.decideMemory h1

theorem gapExpires (hs : s.Accounted) : s.gapExpires.Accounted := by
  unfold State.gapExpires
  split
  · exact hs
  · exact hs.setLight.decideLight

theorem rechargeExpires (hs : s.Accounted) {i} : (s.rechargeExpires i).Accounted := by
  unfold State.rechargeExpires
  split
  · exact hs.setLamp.decideLight
  · exact hs

/-- Lamps that missed the confirmation window (R92). -/
theorem missLamps (xs : List (Fin 8)) (hs : s.Accounted) :
    (xs.foldl (fun a i => a.setLamp i (a.lamp i).miss) s).Accounted := by
  induction xs generalizing s with
  | nil => exact hs
  | cons x xs ih => exact ih hs.setLamp

theorem recordFlash (hs : s.Accounted) {h x} : (s.recordFlash h x).Accounted := by
  unfold State.recordFlash
  split
  · exact hs
  · exact hs.setCtx

/-- The flash end (R89), with the charge to leaves of the table (R103). -/
theorem endFlash (hs : s.Accounted) {f : Flash}
    (hleaf : ∀ j, f.leftLeaf = some j ∨ f.rightLeaf = some j → (leafAt s.account.leaves j).isSome = true) :
    (s.endFlash f).Accounted := by
  have recorded (hs : List Half) (x : StepResult) {r : State} (hr : r.Accounted) :
      (hs.foldl (fun a h => a.recordFlash h x) r).Accounted := by
    induction hs generalizing r with
    | nil => exact hr
    | cons g gs ih => exact ih (recordFlash hr)
  have hlamps : (s.mapLamps Lamp.endFlash).Accounted := hs
  have hcharge : ((s.mapLamps Lamp.endFlash).charge f.leftLeaf f.rightLeaf f.chargeLeft f.chargeRight).Accounted :=
    hlamps.charge (fun h => by rw [Flash.chargeLeft, h]; rfl) (fun h => by rw [Flash.chargeRight, h]; rfl) hleaf
  have hends := endKeeps.endAllOrdered f.served.halves
    (recorded f.served.halves (f.result f.chargeLeft f.chargeRight) hcharge)
  unfold State.endFlash
  extract_lets dl dr wantL wantR s1 s2 s3 s4 s5
  have h4 : s4.Accounted := ite _ (notify (s := s3) hends) hends
  have h5 : s5.Accounted := ite _ h4.notify h4
  exact h5.of_account rfl

theorem flashTimerExpires (hs : s.Accounted)
    (hleaf : ∀ f, s.light.flash = some f → ∀ j, f.leftLeaf = some j ∨ f.rightLeaf = some j →
      (leafAt s.account.leaves j).isSome = true) : s.flashTimerExpires.Accounted := by
  unfold State.flashTimerExpires
  split
  · exact hs
  · next f hf => exact ite _ hs (hs.endFlash (hleaf f hf))

/-! ### The drain unit (R135 to R144) -/

theorem discardSide (hs : s.Accounted) {x} : (s.discardSide x).Accounted := by
  unfold State.discardSide
  split
  · exact hs
  · split
    · exact hs
    · exact hs.changeSide _ _ _
    · exact (hs.changeSide _ _ _).evaluateSide

theorem releaseNow (hs : s.Accounted) {i d} : (s.releaseNow i d).state.Accounted := by
  unfold State.releaseNow
  dsimp only
  repeat' split
  · exact hs.freeSlot
  · exact hs
  · exact hs.freeSlot
  · exact hs
  · exact hs.discardSide.freeSlot

theorem evaluateDeferred (hs : s.Accounted) {i d} : (s.evaluateDeferred i d).state.Accounted := by
  unfold State.evaluateDeferred
  dsimp only
  split
  · exact hs.releaseNow
  · exact hs.releaseNow.setSlot

theorem notifyDropped (hs : s.Accounted) {i x d r} : (s.notifyDropped i x d r).Accounted := hs.of_account (by simp)

theorem runDeferred (hs : s.Accounted) {i} : (s.runDeferred i).Accounted := by
  unfold State.runDeferred
  dsimp only
  split
  · exact hs
  · exact ite _ (hs.evaluateDeferred.addException? _).notifyDropped hs

theorem drainReleases (hs : s.Accounted) {j x} : (s.drainReleases j x).state.Accounted := by
  unfold State.drainReleases
  dsimp only
  split
  · exact hs.freeSlot
  · split
    · exact hs
    · split
      · exact hs
      · split
        · exact hs.evaluateDeferred
        · exact hs

theorem drainEnd (hs : s.Accounted) {x} : (s.drainEnd x).Accounted := by
  unfold State.drainEnd
  split
  · exact hs
  · extract_lets job idle s1 y o s2
    have hset : (s1.setSlot job.slot y).Accounted := hs
    have ho : o.state.Accounted := hset.drainReleases
    have h2 : s2.Accounted := ite _ ho ho.notify
    exact (h2.addException? o.exception).notifyDropped.activateDrain

theorem orderDrain (hs : s.Accounted) {x} : (s.orderDrain x).Accounted := by
  unfold State.orderDrain
  split
  · exact hs
  · next a _ =>
    have h1 : (s.setActive (some { a with stall := none, ordered := some x })).Accounted := hs
    exact ite _ h1 h1.drainEnd

theorem resetDrain (hs : s.Accounted) : s.resetDrain.Accounted := orderDrain (s := s.drainCleared) hs

theorem drainBurstDone (hs : s.Accounted) {n} : (s.drainBurstDone n).Accounted := by
  unfold State.drainBurstDone
  split
  · exact hs
  · dsimp only
    split
    · exact hs.setDrain
    · exact hs.setDrain.drainEnd

theorem removeQueued (hs : s.Accounted) {i j} : (s.removeQueued i j).Accounted := by
  unfold State.removeQueued
  extract_lets x rest s1 done
  have h1 : s1.Accounted := hs
  split
  · exact h1.notify
  · exact ite _ (h1.evaluateDeferred.notify.addException? _).notifyDropped h1.notify

theorem drainStop (hs : s.Accounted) {i} : (s.drainStop i).Accounted := by
  have queued : State.Accounted
      (match s.drain.queue.find? fun j => decide (j.slot = i) with
       | some j => s.removeQueued i j
       | none => s) := by
    split
    · exact hs.removeQueued
    · exact hs
  unfold State.drainStop
  split
  · exact ite _ (ite _ hs hs.orderDrain) queued
  · exact queued

theorem release (hs : s.Accounted) {i d} : (s.release i d).state.Accounted := by
  unfold State.release
  dsimp only
  split
  · exact hs
  · exact hs
  · exact hs
  · exact hs.setSlot
  · split
    · exact hs.setSlot
    · split
      · exact hs.releaseNow.addException? _
      · exact hs.releaseNow.addException? _

theorem takeDrainWord (hs : s.Accounted) : s.takeDrainWord.Accounted := by
  unfold State.takeDrainWord
  split
  · exact hs
  · exact ite _ (ite _ hs.setDrain.drainEnd hs.setDrain) hs

theorem setStall (hs : s.Accounted) {x} : (s.setStall x).Accounted := by
  unfold State.setStall
  split
  · exact hs
  · exact ite _ hs hs.setActive

theorem stallExpires (hs : s.Accounted) : s.stallExpires.Accounted := by
  unfold State.stallExpires
  split
  · exact hs
  · exact ite _ hs.orderDrain hs

/-! ### The capture unit (R46 to R68) -/

theorem takeClaim (hs : s.Accounted) {h j p} : (s.takeClaim h j p).Accounted :=
  evaluate (hs.changeSide _ _ _).setClaim

theorem testAndSet (hs : s.Accounted) {h} : (s.testAndSet h).state.Accounted := by
  unfold State.testAndSet
  split
  · dsimp only
    split
    · exact hs.takeClaim
    · split
      · exact hs.setClaim
      · exact hs
  · exact hs

theorem unclaim (hs : s.Accounted) {h} : (s.unclaim h).state.Accounted := by
  unfold State.unclaim
  split
  · exact hs.endClaim.evaluate
  · exact hs

theorem claimExpires (hs : s.Accounted) {h} : (s.claimExpires h).Accounted := by
  unfold State.claimExpires
  split
  · exact hs
  · exact hs.endClaim.evaluate

theorem beginCapture (hs : s.Accounted) {h c p} : (s.beginCapture h c p).Accounted := by
  unfold State.beginCapture
  dsimp only
  split
  · split
    · exact hs.setCtx.setCtx
    · exact startPair hs.setCtx.setCtx
  · split
    · exact hs.setCtx
    · split
      · exact hs.setCtx
      · exact hs.setCtx.startStep

theorem tryCapture (hs : s.Accounted) {h i} : (s.tryCapture h i).state.Accounted := by
  unfold State.tryCapture
  dsimp only
  split
  · repeat' split
    all_goals first | exact hs | exact ((hs.changeSide _ _ _).setClaim.setCapture.beginCapture).evaluate
  · exact hs

theorem cancel (hs : s.Accounted) {h n} : (s.cancel h n).state.Accounted := by
  unfold State.cancel
  split
  · split
    · exact hs
    · exact hs
  · split
    · exact hs
    · exact hs.cancelCtx

theorem commitStep (hs : s.Accounted) {h c i x} : (s.commitStep h c i x).Accounted := by
  exact (hs.setCtx.changeSide _ _ _).setSlot.runDeferred

theorem advance (hs : s.Accounted) {h} : (s.advance h).Accounted := by
  unfold State.advance
  split
  · exact hs
  · exact hs.setCtx

theorem jointDecision (hs : s.Accounted) : s.jointDecision.Accounted := by
  unfold State.jointDecision
  split
  · exact ite _ hs.setCtx.setCtx.endOne.endOne hs.advance.advance.startPair
  · exact hs

theorem afterCommit (hs : s.Accounted) {h} : (s.afterCommit h).Accounted := by
  unfold State.afterCommit
  split
  · exact hs
  · exact ite _ hs.endCapture <| ite _ hs.endOne <| ite _ (ite _ hs.jointDecision hs.setCtx) <|
      ite _ hs.causedEndOne hs.advance.startStep

theorem commit (hs : s.Accounted) {h} : (s.commit h).Accounted := by
  unfold State.commit
  split
  · exact hs
  · split
    · exact hs.commitStep.afterCommit
    · exact hs

theorem frameMissing (hs : s.Accounted) {h} : (s.frameMissing h).Accounted := by
  unfold State.frameMissing
  split
  · exact hs
  · exact ite _ hs.causedEnd hs

theorem partnerLate (hs : s.Accounted) {h} : (s.partnerLate h).Accounted := by
  unfold State.partnerLate
  split
  · exact hs
  · exact ite _ hs.causedEnd hs

theorem pairSlotWait (hs : s.Accounted) : s.pairSlotWait.Accounted := by
  unfold State.pairSlotWait
  split
  · have h1 {a b} : (((s.setCtx .left a).setCtx .right b).setWaitOrder []).Accounted :=
      hs.setCtx.setCtx.setWaitOrder
    exact ite _ h1.endOne.endOne h1.endOne.endOne
  · exact hs

theorem slotWaitEnds (hs : s.Accounted) {h} : (s.slotWaitEnds h).Accounted := by
  unfold State.slotWaitEnds
  split
  · exact hs
  · exact ite _ hs <| ite _ hs.pairSlotWait <| ite _ hs.causedEndOne hs

/-! ### The station marks and the pixel links -/

theorem mark (hs : s.Accounted) {leaf face rule} : (s.mark leaf face rule).state.Accounted := by
  unfold State.mark
  repeat' split
  all_goals
    first
    | exact hs
    | exact ite _ (hs.changeSide _ _ _) (hs.changeSide _ _ _).evaluateSide

theorem pixelBurstDone (hs : s.Accounted) {h ws} : (s.pixelBurstDone h ws).Accounted := by
  refine hs.of_account ?_
  unfold State.pixelBurstDone
  split <;> simp

theorem acceptHeader (hs : s.Accounted) {h c x} : (s.acceptHeader h c x).Accounted := by
  unfold State.acceptHeader
  dsimp only
  split
  · exact hs.setRx.setCtx
  · exact hs.setSlot.setRx.setCtx

theorem headerComplete (hs : s.Accounted) {h x} : (s.headerComplete h x).Accounted := by
  unfold State.headerComplete
  split
  · exact hs.setRx.causedEnd
  · exact hs.setRx
  · split
    · exact hs
    · exact hs.acceptHeader

theorem sealIfReady (hs : s.Accounted) {h} : (s.sealIfReady h).Accounted := hs.of_account (by simp)

theorem takePayload (hs : s.Accounted) {h w} : (s.takePayload h w).Accounted := by
  unfold State.takePayload
  dsimp only
  split
  · split
    · split
      · exact hs.setRx
      · exact hs.setRx.setSlot
    · exact hs
  · exact hs

theorem takeTrailer (hs : s.Accounted) {h w} : (s.takeTrailer h w).Accounted := by
  unfold State.takeTrailer
  split
  · exact hs.setRx.sealIfReady
  · exact hs

theorem frameLate (hs : s.Accounted) {h} : (s.frameLate h).Accounted := by
  unfold State.frameLate
  split
  · exact hs
  · exact hs.setRx.sealIfReady

/-! ### The confirmation inputs and the refresh -/

theorem confirmRises (hs : s.Accounted) {i} : (s.confirmRises i).Accounted := by
  unfold State.confirmRises
  split
  · exact hs
  · exact ite _ hs.setLight hs

theorem refreshDone (hs : s.Accounted) : s.refreshDone.Accounted := by
  unfold State.refreshDone
  split
  · exact decideMemory (s := s.setBurst none) hs
  · exact hs

end State.Accounted

end Sys2Proof.Machine
end

section
/-! SUPPORT. The operations outside an opening's inside that no transfer and no account sees: the turn, the seek, the
standby, the faults and the timers. -/

namespace Sys2Proof.Machine

open Sys2Proof

/-- The entries' states and save slots and the engine stay as they are, and the MOUNTED figures agree as before. -/
structure Undisturbed (s t : State) : Prop where
  states : ∀ i, (t.volume i).state = (s.volume i).state
  slots : ∀ i, (t.volume i).saveSlot = (s.volume i).saveSlot
  engine : t.memory.engine = s.memory.engine
  accounted : s.Accounted → t.Accounted

namespace Undisturbed

variable {s s0 t : State}

theorem refl (s : State) : Undisturbed s s := ⟨fun _ => rfl, fun _ => rfl, rfl, id⟩

/-- A steady operation that keeps the MOUNTED figures in agreement. -/
theorem steady (hs : Undisturbed s0 s) (h : Steady s t) (ha : s.Accounted → t.Accounted) : Undisturbed s0 t where
  states i := (h.volumes i).state.trans (hs.states i)
  slots i := (h.volumes i).saveSlot.trans (hs.slots i)
  engine := h.memory.engine.trans hs.engine
  accounted h0 := ha (hs.accounted h0)

/-- An operation that leaves the account unit and the engine as they are. -/
theorem frame (hs : Undisturbed s0 s) (ha : t.account = s.account) (he : t.memory.engine = s.memory.engine) :
    Undisturbed s0 t where
  states i := by rw [volume_congr ha]; exact hs.states i
  slots i := by rw [volume_congr ha]; exact hs.slots i
  engine := he.trans hs.engine
  accounted h0 := (hs.accounted h0).of_account ha

theorem setOpening (hs : Undisturbed s0 s) {o} : Undisturbed s0 (s.setOpening o) := hs.frame rfl rfl

theorem mapLamps (hs : Undisturbed s0 s) {f} : Undisturbed s0 (s.mapLamps f) := hs.frame rfl rfl

theorem takeEvaluated (hs : Undisturbed s0 s) : Undisturbed s0 s.takeEvaluated := hs.frame (by simp) (by simp)

theorem enterSettling (hs : Undisturbed s0 s) : Undisturbed s0 s.enterSettling := hs.frame (by simp) (by simp)

theorem addException (hs : Undisturbed s0 s) {x} : Undisturbed s0 (s.addException x) :=
  hs.steady (Steady.refl s).addException fun h => h.addException? (some x)

theorem endClaims (hs : Undisturbed s0 s) {e} : Undisturbed s0 (s.endClaims e) :=
  hs.steady (Steady.refl s).endClaims fun h => h.endClaims

theorem decideMemory (hs : Undisturbed s0 s) : Undisturbed s0 s.decideMemory :=
  hs.steady (Steady.refl s).decideMemory fun h => h.decideMemory

theorem notifyFault (hs : Undisturbed s0 s) {c d} : Undisturbed s0 (s.notifyFault c d) :=
  hs.frame (by simp) (by simp)

theorem abortBoth (hs : Undisturbed s0 s) : Undisturbed s0 s.abortBoth :=
  hs.steady (Steady.refl s).abortBoth fun h => h.abortBoth

theorem evaluate (hs : Undisturbed s0 s) : Undisturbed s0 s.evaluate := hs.frame (by simp) (by simp)

/-- Entry to FAULT: the record, then the notices, the ends of the captures and of the claims (R16 to R18). -/
theorem enterFault (hs : Undisturbed s0 s) {c} : Undisturbed s0 (s.enterFault c) :=
  hs.setOpening.notifyFault.abortBoth.endClaims

theorem takeCause (hs : Undisturbed s0 s) {c} : Undisturbed s0 (s.takeCause c) := by
  unfold State.takeCause
  split
  · exact hs
  · exact hs
  · exact hs
  · exact hs.enterFault

theorem ite (c : Prop) [Decidable c] {u : State} (ht : Undisturbed s0 t) (hu : Undisturbed s0 u) :
    Undisturbed s0 (if c then t else u) := by
  split
  · exact ht
  · exact hu

/-! ### The opening (R20 to R24, R34 to R41) -/

theorem tick (s : State) : Undisturbed s s.tick := (refl s).frame rfl rfl

theorem seekTo (s : State) (k : Nat) : Undisturbed s (s.seekTo k).state := by
  unfold State.seekTo
  dsimp only
  split
  · exact refl s
  · exact ite _ (refl s).setOpening (refl s).setOpening.evaluate

theorem resyncTo (s : State) (k : Nat) : Undisturbed s (s.resyncTo k).state := by
  unfold State.resyncTo
  split
  · exact refl s
  · exact (refl s).setOpening.enterSettling

theorem parkMemory (hs : Undisturbed s0 s) : Undisturbed s0 s.parkMemory := by
  unfold State.parkMemory
  exact ite _ (hs.frame rfl rfl) (hs.frame rfl rfl)

theorem parkCradle (s : State) : Undisturbed s s.parkCradle :=
  (refl s).endClaims.setOpening.mapLamps.parkMemory

theorem wakeCradle (s : State) : Undisturbed s s.wakeCradle := by
  unfold State.wakeCradle
  extract_lets o s1 _ s2 s3
  have h2 : Undisturbed s s2 := by
    dsimp only [s2]
    split
    · exact (refl s).setOpening.enterSettling
    · exact (refl s).setOpening.setOpening
  have hwoken : Undisturbed s (s2.mapLamps Lamp.wake).wakeMemory := h2.mapLamps.frame rfl rfl
  have h3 : Undisturbed s s3 := hwoken.steady (Steady.refl _).activateDrain fun h => h.activateDrain
  exact ite _ h3.decideMemory h3

theorem resetOpening (hs : Undisturbed s0 s) : Undisturbed s0 s.resetOpening := by
  unfold State.resetOpening
  split
  · exact hs
  · exact ite _ hs.enterFault hs
  · exact hs.enterFault

theorem grantTurn (s : State) : Undisturbed s s.grantTurn := (refl s).setOpening

theorem applyCount (hs : Undisturbed s0 s) (d : Direction) (n : Nat) : Undisturbed s0 (s.applyCount d n) := by
  have double (j k : Nat) : Undisturbed s0 ((s.addDoubleTurn j).moveTo k) :=
    hs.addException.addException.setOpening.enterSettling
  unfold State.applyCount
  dsimp only
  split
  · exact hs.addException.enterSettling
  · exact hs.setOpening.enterSettling
  · exact hs.setOpening.enterSettling
  · exact ite _ (double ..) hs.enterFault
  · exact ite _ (double ..) hs.enterFault
  · exact hs.enterFault

theorem endTurn (s : State) (n : Nat) : Undisturbed s (s.endTurn n) := (refl s).setOpening.applyCount _ n

/-! ### The timers and the memory -/

theorem settleExpires (s : State) : Undisturbed s s.settleExpires := by
  unfold State.settleExpires
  split
  · exact (refl s).setOpening.takeEvaluated.steady (Steady.refl _).startWaiting fun h => h.of_account (by simp)
  · exact refl s

theorem turnExpires (s : State) : Undisturbed s s.turnExpires := by
  unfold State.turnExpires
  split
  · exact (refl s).enterFault
  · exact refl s

theorem windowCloses (s : State) : Undisturbed s s.windowCloses := by
  unfold State.windowCloses
  split
  · exact refl s
  · split
    · exact refl s
    · extract_lets misses _ s1 s2
      have h2 : Undisturbed s s2 :=
        (refl s).steady (Steady.foldl (fun _ _ hr => hr.setLamp) _ (Steady.refl s).setLight) fun h =>
          (State.Accounted.setLight h).missLamps misses
      exact ite _ h2 h2.takeCause

theorem refreshExpires (s : State) : Undisturbed s s.refreshExpires := by
  unfold State.refreshExpires
  split
  · exact refl s
  · refine ite _ ?_ (refl s)
    exact Undisturbed.decideMemory ((refl s).frame rfl rfl)

end Undisturbed

end Sys2Proof.Machine
end

section
/-! SUPPORT. The operations that a command outside an opening's inside comes to, each with the checks its command has
made: a predicate after a step follows from one before it when it follows across each of them. -/

namespace Sys2Proof.Machine

open Sys2Proof

/-- What a command outside an opening's inside does, past its request. -/
inductive CradleMove (s : State) : State → Prop
  | undisturbed {t : State} (h : Undisturbed s t) : CradleMove s t
  | reset (d : Drain) : CradleMove s { State.reset with pending := s.pending, drain := d }
  | register {i : Fin 16} (mark : List Byte) (n leafCap volumeCap : Nat) (x : Timings)
      (hi : (s.volume i).state = .empty) : CradleMove s (s.setVolume i (registered mark n leafCap volumeCap x))
  | mountPending {i : Fin 16} (k : Nat) (hm : s.mounted = none) (hv : s.moving = none)
      (hi : (s.volume i).state = .pending) : CradleMove s (s.mountPending i k)
  | resume {i : Fin 16} (x : Word) (hm : s.mounted = none) (hv : s.moving = none)
      (hi : (s.volume i).state = .suspended) : CradleMove s (s.resume i x)
  | suspend {i : Fin 16} (x : Fin 8) (hi : (s.volume i).state = .mounted) : CradleMove s (s.suspend i x)
  | closeMounted {i : Fin 16} (hi : (s.volume i).state = .mounted) : CradleMove s (s.closeMounted i)
  | closeSuspended {i : Fin 16} (hi : (s.volume i).state = .suspended) : CradleMove s (s.closeSuspended i)
  | clear {i : Fin 16} (hi : (s.volume i).state = .pending ∨ (s.volume i).state = .closed) :
      CradleMove s (s.clearEntry i)
  | clearSuspended {i : Fin 16} (hi : (s.volume i).state = .suspended) :
      CradleMove s ((s.dropImage i).clearEntry i)
  | cradleReset : CradleMove s s.emptyAllNotices.resetOpening.resetVolumes.resetDrain
  | staleBurst : CradleMove s (s.setBurst none).staleBurst.decideMemory
  | engineBurst {n : Nat} (hb : s.memory.burst = some (.engine n false)) :
      CradleMove s ((s.setBurst none).engineBurst n).decideMemory

/-- A predicate after a command that follows from one before it, whatever the command does to the links and the
arbiters. -/
structure Carries (Q P : State → Prop) : Prop where
  link : ∀ {s : State} (l : LinkId) (k : Link), Q s → Q (s.setLink l k)
  weaken : ∀ {s : State}, Q s → P s
  linked : ∀ {s : State} (l : LinkId) (k : Link), P s → P (s.setLink l k)
  arbitrate : ∀ {s : State} (r : State), P s → P (r.arbitrate s)

namespace Carries

variable {Q P : State → Prop} {s t : State}

theorem placeResponse (hP : Carries Q P) (h : P s) (l : LinkId) (r : Response) : P (s.placeResponse l r) := by
  unfold State.placeResponse
  dsimp only
  split
  · exact hP.linked _ _ h
  · exact hP.linked _ _ h

/-- A request carries the predicate when the block that owns it does. -/
theorem ask (hP : Carries Q P) {c : Instr} {act : State → Reply} (h : Q s) (hact : ∀ r, Q r → P (act r).state) :
    P (s.ask c act) := by
  have taken (l : LinkId) (f : Frame) : P (s.takeRequest l f act) := by
    refine hP.placeResponse ?_ _ _
    unfold State.dispatch State.turnAway
    repeat' split
    · exact hP.weaken (hP.link _ _ h)
    · exact hP.weaken (hP.link _ _ h)
    · exact hP.weaken (hP.link _ _ h)
    · exact hact _ (hP.link _ _ h)
  unfold State.ask
  split
  · exact hP.weaken h
  · refine hP.arbitrate _ ?_
    unfold State.request
    dsimp only
    repeat' split
    · exact hP.weaken (hP.link _ _ h)
    · exact hP.weaken (hP.link _ _ h)
    · exact taken _ _
    · exact hP.weaken (hP.link _ _ h)

theorem portReset (hP : Carries Q P) (h : P s) (l : LinkId) : P (s.portReset l) := by
  unfold State.portReset
  dsimp only
  split
  · exact hP.linked _ _ h
  · exact hP.placeResponse (hP.linked _ _ h) _ _

theorem selectRises (hP : Carries Q P) (h : P s) (l : LinkId) : P (s.selectRises l) := by
  unfold State.selectRises
  dsimp only
  repeat' split
  · exact h
  · exact hP.linked _ _ h
  · exact hP.linked _ _ h
  · exact hP.linked _ _ h
  · exact hP.linked _ _ h
  · exact hP.portReset (hP.linked _ _ h) l
  · exact hP.linked _ _ h

end Carries

/-! ### The commands come to these operations -/

/-- A predicate that no operation of `CradleMove` loses. -/
structure MoveCarries (Q P : State → Prop) : Prop extends Carries Q P where
  move : ∀ {s t : State}, Q s → CradleMove s t → P t

namespace MoveCarries

variable {Q P : State → Prop} {s t : State}

theorem undisturbed (hP : MoveCarries Q P) (h : Q s) (hu : Undisturbed s t) : P t := hP.move h (.undisturbed hu)

theorem mount (hP : MoveCarries Q P) (h : Q s) (i : Fin 16) (x : Word) : P (s.mount i x).state := by
  unfold State.mount
  dsimp only
  split
  · exact hP.weaken h
  · split
    · exact hP.weaken h
    · next hb =>
      simp only [Bool.or_eq_true, not_or, Bool.not_eq_true, Option.isSome_eq_false_iff, Option.isNone_iff_eq_none]
        at hb
      obtain ⟨hm, hv⟩ := hb
      split
      · next hi =>
        split
        · exact hP.weaken h
        · exact hP.move h (.mountPending _ hm hv hi)
      · next hi =>
        split
        · exact hP.weaken h
        · exact hP.move h (.resume _ hm hv hi)
      · exact hP.weaken h

theorem close (hP : MoveCarries Q P) (h : Q s) (i : Fin 16) : P (s.close i).state := by
  unfold State.close
  repeat' split
  · exact hP.weaken h
  · exact hP.weaken h
  · exact hP.weaken h
  · next hi _ => exact hP.move h (.closeMounted hi)
  · next hi => exact hP.move h (.closeSuspended hi)
  · exact hP.weaken h

theorem clear (hP : MoveCarries Q P) (h : Q s) (i : Fin 16) : P (s.clear i).state := by
  unfold State.clear
  dsimp only
  split
  · exact hP.weaken h
  · next hst =>
    split
    · exact hP.weaken h
    · split
      · next hi => exact hP.move h (.clearSuspended hi)
      · next hi => exact hP.move h (.clear (by by_contra hn; rw [not_or] at hn; exact hst ⟨hn.1, hi, hn.2⟩))

theorem burstDone (hP : MoveCarries Q P) (h : Q s) : P s.burstDone := by
  unfold State.burstDone
  split
  · exact hP.weaken h
  · exact hP.weaken h
  · exact hP.undisturbed h <|
      (Undisturbed.refl s).steady (Steady.refl s).setBurst.pixelBurstDone.decideMemory fun ha =>
        State.Accounted.decideMemory (State.Accounted.pixelBurstDone (s := s.setBurst none) ha)
  · next n stale hb =>
    cases stale with
    | true => exact hP.move h .staleBurst
    | false => exact hP.move h (.engineBurst hb)
  · exact hP.undisturbed h <|
      (Undisturbed.refl s).steady (Steady.refl s).setBurst.drainBurstDone.decideMemory fun ha =>
        State.Accounted.decideMemory (State.Accounted.drainBurstDone (s := s.setBurst none) ha)

/-- The commands outside an opening's inside. -/
theorem exec (hP : MoveCarries Q P) {c : Instr} (hc : c.inside = false) (h : Q s) (he : exec c s = .next t) : P t := by
  cases c with
  | powerOnReset => cases he; exact hP.move h (.reset _)
  | register =>
    cases he
    refine hP.ask h fun r hr => ?_
    split
    · exact hP.weaken hr
    · split
      · exact hP.weaken hr
      · exact hP.weaken hr
      · next hl => exact hP.move hr (.register _ _ _ _ _ (by simpa [State.lowestEmpty] using List.find?_some hl))
  | mount =>
    cases he
    refine hP.ask h fun r hr => ?_
    split
    · exact hP.weaken hr
    · exact hP.mount hr _ _
  | suspend =>
    cases he
    refine hP.ask h fun r hr => ?_
    repeat' split
    · exact hP.weaken hr
    · exact hP.weaken hr
    · exact hP.weaken hr
    · exact hP.weaken hr
    · exact hP.weaken hr
    · exact hP.weaken hr
    · next hm _ _ _ _ => exact hP.move hr (.suspend _ (State.Positioned.mounted_state hm))
  | close =>
    cases he
    refine hP.ask h fun r hr => ?_
    split
    · exact hP.weaken hr
    · exact hP.close hr _
  | clear =>
    cases he
    refine hP.ask h fun r hr => ?_
    split
    · exact hP.weaken hr
    · exact hP.clear hr _
  | seek =>
    cases he
    refine hP.ask h fun r hr => ?_
    split
    · exact hP.weaken hr
    · exact hP.weaken hr
    · exact hP.weaken hr
    · exact hP.undisturbed hr (.seekTo r _)
  | resync =>
    cases he
    refine hP.ask h fun r hr => ?_
    repeat' split
    · exact hP.weaken hr
    · exact hP.undisturbed hr (.resyncTo r _)
    · exact hP.undisturbed hr (.resyncTo r _)
    · exact hP.weaken hr
    · exact hP.weaken hr
  | park =>
    cases he
    refine hP.ask h fun r hr => ?_
    repeat' split
    · exact hP.weaken hr
    · exact hP.weaken hr
    · exact hP.weaken hr
    · exact hP.weaken hr
    · exact hP.undisturbed hr (.parkCradle r)
  | wake =>
    cases he
    refine hP.ask h fun r hr => ?_
    split
    · exact hP.undisturbed hr (.wakeCradle r)
    · exact hP.weaken hr
  | cradleReset => cases he; exact hP.ask h fun r hr => hP.move hr .cradleReset
  | turnAsk =>
    cases he
    refine hP.ask h fun r hr => ?_
    split
    · exact hP.undisturbed hr (.grantTurn r)
    all_goals exact hP.weaken hr
  | turnBegin =>
    cases he
    refine hP.ask h fun r hr => ?_
    split
    · exact hP.weaken hr
    · exact hP.undisturbed hr (Undisturbed.refl r).takeCause
  | turnEnd =>
    cases he
    refine hP.ask h fun r hr => ?_
    repeat' split
    · exact hP.weaken hr
    · exact hP.undisturbed hr (.endTurn r _)
    · exact hP.weaken hr
    · exact hP.weaken hr
  | armFault => cases he; exact hP.ask h fun r hr => hP.undisturbed hr (Undisturbed.refl r).setOpening.takeCause
  | settleExpiry => cases he; exact hP.arbitrate _ (hP.undisturbed h (.settleExpires s))
  | turnTimerExpiry => cases he; exact hP.arbitrate _ (hP.undisturbed h (.turnExpires s))
  | confirmWindowClose => cases he; exact hP.arbitrate _ (hP.undisturbed h (.windowCloses s))
  | burstCompletion => cases he; exact hP.arbitrate _ (hP.burstDone h)
  | refreshTimerExpiry => cases he; exact hP.undisturbed h (.refreshExpires s)
  | _ => simp [Instr.inside] at hc

end MoveCarries

end Sys2Proof.Machine
end

section
/-! PROOFS. The engine's transfer agrees with the volume table after every step (R129 to R131, R149, R156 to R159). -/

namespace Sys2Proof.Machine

open Sys2Proof

/-- An entry whose image moves: SUSPENDING or RESUMING (R149). -/
abbrev VolumeState.transfers (x : VolumeState) : Prop := x = .suspending ∨ x = .resuming

namespace State.Transferring

variable {s t : State} {i : Fin 16}

/-- The agreement rests on the entries' states and save slots and on the engine. -/
theorem congr (h : s.Transferring) (hst : ∀ i, (t.volume i).state = (s.volume i).state)
    (hsl : ∀ i, (t.volume i).saveSlot = (s.volume i).saveSlot) (he : t.memory.engine = s.memory.engine) :
    t.Transferring where
  suspending := by simpa only [hst, hsl, he] using h.suspending
  resuming := by simpa only [hst, hsl, he] using h.resuming
  saving := by simpa only [hst, he] using h.saving
  restoring := by simpa only [hst, he] using h.restoring
  suspended := by simpa only [hst, hsl] using h.suspended

theorem undisturbed (h : s.Transferring) (hu : Undisturbed s t) : t.Transferring := h.congr hu.states hu.slots hu.engine

theorem steady (h : s.Transferring) (hs : Steady s t) : t.Transferring :=
  h.congr (fun i => (hs.volumes i).state) (fun i => (hs.volumes i).saveSlot) hs.memory.engine

theorem account (h : s.Transferring) (ha : t.account = s.account) (he : t.memory.engine = s.memory.engine) :
    t.Transferring :=
  h.undisturbed ((Undisturbed.refl s).frame ha he)

/-- An entry changes that no transfer moves before or after. -/
theorem entry (h : s.Transferring) {v : Volume} (hvol : ∀ j, t.volume j = if j = i then v else s.volume j)
    (he : t.memory.engine = s.memory.engine) (hi : ¬(s.volume i).state.transfers) (hv : ¬v.state.transfers)
    (hsus : v.state = .suspended → v.saveSlot.isSome = true) : t.Transferring where
  suspending j hj := by
    rw [hvol] at hj ⊢
    split at hj
    · exact absurd (.inl hj) hv
    · next hne => rw [if_neg hne, he]; exact h.suspending j hj
  resuming j hj := by
    rw [hvol] at hj ⊢
    split at hj
    · exact absurd (.inr hj) hv
    · next hne => rw [if_neg hne, he]; exact h.resuming j hj
  saving hst ha := by
    obtain ⟨j, hj⟩ := h.saving (he ▸ hst) (he ▸ ha)
    exact ⟨j, by rw [hvol, if_neg (by rintro rfl; exact hi (.inl hj)), hj]⟩
  restoring hst ha := by
    obtain ⟨j, hj⟩ := h.restoring (he ▸ hst) (he ▸ ha)
    exact ⟨j, by rw [hvol, if_neg (by rintro rfl; exact hi (.inr hj)), hj]⟩
  suspended j hj := by
    rw [hvol] at hj ⊢
    split at hj
    · next e => rw [if_pos e]; exact hsus hj
    · next e => rw [if_neg e]; exact h.suspended j hj

theorem setVolume (h : s.Transferring) {v : Volume} (hi : ¬(s.volume i).state.transfers) (hv : ¬v.state.transfers)
    (hsus : v.state = .suspended → v.saveSlot.isSome = true) : (s.setVolume i v).Transferring :=
  h.entry (fun j => setVolume_volume s i j v) rfl hi hv hsus

/-- No entry's image moves, and the engine is IDLE or its transfer abandoned. -/
theorem of_still (hn : ∀ j, ¬(t.volume j).state.transfers)
    (he : t.memory.engine.state = .idle ∨ t.memory.engine.abandoned = true)
    (hsus : ∀ j, (t.volume j).state = .suspended → (t.volume j).saveSlot.isSome = true) : t.Transferring where
  suspending j hj := absurd (.inl hj) (hn j)
  resuming j hj := absurd (.inr hj) (hn j)
  saving hst ha := by simp [hst, ha] at he
  restoring hst ha := by simp [hst, ha] at he
  suspended := hsus

/-- The engine saves the one entry that is SUSPENDING. -/
theorem of_saving {x : Fin 8} (hi : (t.volume i).state = .suspending) (hx : (t.volume i).saveSlot = some x)
    (he : t.memory.engine.moves .saving x) (hone : ∀ j, (t.volume j).state.transfers → j = i)
    (hsus : ∀ j, (t.volume j).state = .suspended → (t.volume j).saveSlot.isSome = true) : t.Transferring where
  suspending j hj := by rw [hone j (.inl hj)]; exact ⟨x, hx, he⟩
  resuming j hj := by rw [hone j (.inr hj), hi] at hj; cases hj
  saving _ _ := ⟨i, hi⟩
  restoring hst _ := by rw [he.1] at hst; cases hst
  suspended := hsus

/-- The engine restores the one entry that is RESUMING. -/
theorem of_restoring {x : Fin 8} (hi : (t.volume i).state = .resuming) (hx : (t.volume i).saveSlot = some x)
    (he : t.memory.engine.moves .restoring x) (hone : ∀ j, (t.volume j).state.transfers → j = i)
    (hsus : ∀ j, (t.volume j).state = .suspended → (t.volume j).saveSlot.isSome = true) : t.Transferring where
  suspending j hj := by rw [hone j (.inl hj), hi] at hj; cases hj
  resuming j hj := by rw [hone j (.inr hj)]; exact ⟨x, hx, he⟩
  saving hst _ := by rw [he.1] at hst; cases hst
  restoring _ _ := ⟨i, hi⟩
  suspended := hsus

/-! ### The entry whose image moves -/

/-- The entry that the search finds is SUSPENDING with the engine saving it, or RESUMING with the engine restoring it. -/
theorem moving (h : s.Transferring) (hm : s.moving = some i) :
    ((s.volume i).state = .suspending ∧ ∃ x, (s.volume i).saveSlot = some x ∧ s.memory.engine.moves .saving x) ∨
      ((s.volume i).state = .resuming ∧ ∃ x, (s.volume i).saveSlot = some x ∧ s.memory.engine.moves .restoring x) :=
  (State.Positioned.moving_state hm).imp (fun e => ⟨e, h.suspending i e⟩) fun e => ⟨e, h.resuming i e⟩

/-- While a transfer is abandoned no entry's image moves. -/
theorem still (h : s.Transferring) (ha : s.memory.engine.abandoned = true) (j : Fin 16) :
    ¬(s.volume j).state.transfers := by
  rintro (hj | hj)
  · obtain ⟨x, -, -, -, hna⟩ := h.suspending j hj
    simp [ha] at hna
  · obtain ⟨x, -, -, -, hna⟩ := h.resuming j hj
    simp [ha] at hna

end State.Transferring

namespace State.Positioned

variable {s t : State} {i : Fin 16}

/-- Beside a held entry no other's image moves. -/
theorem no_other_transfers (h : s.Positioned) (hi : (s.volume i).state.held) {j : Fin 16} (hj : j ≠ i) :
    ¬(s.volume j).state.transfers := fun ht => hj (h.oneHeld j i (.inr ht) hi)

end State.Positioned

theorem moving_none {s : State} (hm : s.moving = none) (j : Fin 16) : ¬(s.volume j).state.transfers := by
  simpa using find_allVolumes_none.1 hm j

/-! ### The volume requests -/

namespace State.Transferring

variable {s t : State} {i : Fin 16}

/-- An entry that leaves the cradle or comes to stand: every other stays as it is, and none transfers after. -/
theorem of_stopped {v : Volume} (h : s.Transferring) (hvol : ∀ j, t.volume j = if j = i then v else s.volume j)
    (hothers : ∀ j, j ≠ i → ¬(s.volume j).state.transfers) (hv : ¬v.state.transfers)
    (hsus : v.state = .suspended → v.saveSlot.isSome = true)
    (he : t.memory.engine.state = .idle ∨ t.memory.engine.abandoned = true) : t.Transferring := by
  refine of_still (fun j => ?_) he fun j hj => ?_
  · rw [hvol]
    split
    · exact hv
    · next hne => exact hothers j hne
  · rw [hvol] at hj ⊢
    split at hj
    · next e => rw [if_pos e]; exact hsus hj
    · next e => rw [if_neg e]; exact h.suspended j hj

theorem mountPending (h : s.Transferring) (k : Nat) (hi : (s.volume i).state = .pending) :
    (s.mountPending i k).Transferring :=
  h.entry (mountPending_account s i k).2.2 (by simp [State.mountPending]) (by simp [hi]) (by simp) (by simp)

theorem resume (h : s.Transferring) (x : Word) (hv : s.moving = none) (hi : (s.volume i).state = .suspended) :
    (s.resume i x).Transferring := by
  obtain ⟨n, hn⟩ := Option.isSome_iff_exists.1 (h.suspended i hi)
  have hvol := resume_volume s i x
  refine of_restoring (i := i) (x := n) ?_ ?_ ?_ (fun j hj => ?_) fun j hj => ?_
  · rw [hvol, if_pos rfl]
  · rw [hvol, if_pos rfl]; exact hn
  · rw [resume_engine hn]; exact ⟨rfl, rfl, rfl⟩
  · by_contra hne
    rw [hvol, if_neg hne] at hj
    exact moving_none hv j hj
  · rw [hvol] at hj ⊢
    split at hj
    · cases hj
    · next hne => rw [if_neg hne]; exact h.suspended j hj

theorem suspend (h : s.Transferring) (hp : s.Positioned) (x : Fin 8) (hi : (s.volume i).state = .mounted) :
    (s.suspend i x).Transferring := by
  obtain ⟨-, -, -, -, hvol, -, hengine⟩ := suspend_frame s i x
  refine of_saving (i := i) (x := x) ?_ ?_ ?_ (fun j hj => ?_) fun j hj => ?_
  · rw [hvol, if_pos rfl]
  · rw [hvol, if_pos rfl]
  · rw [hengine]; exact ⟨rfl, rfl, rfl⟩
  · by_contra hne
    rw [hvol, if_neg hne] at hj
    exact hp.no_other_transfers (.inl hi) hne hj
  · rw [hvol] at hj ⊢
    split at hj
    · cases hj
    · next hne => rw [if_neg hne]; exact h.suspended j hj

theorem closeMounted (h : s.Transferring) (hi : (s.volume i).state = .mounted) : (s.closeMounted i).Transferring := by
  have h1 : (s.endClaims true).enterIdle.Transferring := (h.steady (Steady.refl s).endClaims).account rfl rfl
  have hi1 : ((s.endClaims true).enterIdle.volume i).state = .mounted :=
    ((Steady.refl s).endClaims.volumes i).state.trans hi
  exact (State.Transferring.setVolume h1 (by simp [hi1]) (by simp) (by simp)).steady
    (Steady.refl _).notify.emptyTables

theorem closeSuspended (h : s.Transferring) (hi : (s.volume i).state = .suspended) :
    (s.closeSuspended i).Transferring := by
  obtain ⟨x, hx⟩ := Option.isSome_iff_exists.1 (h.suspended i hi)
  refine h.entry (closeSuspended_account hx).2.2 ?_ (by simp [hi]) (by simp) (by simp)
  rw [(closeSuspended_blocks hx).2.2.2.1, freeSlot_memory]

/-- CLEAR of a SUSPENDED entry takes its image out of use and empties it. -/
theorem clearSuspended (h : s.Transferring) (hi : (s.volume i).state = .suspended) :
    ((s.dropImage i).clearEntry i).Transferring := by
  obtain ⟨x, hx⟩ := Option.isSome_iff_exists.1 (h.suspended i hi)
  refine h.entry (i := i) (v := .empty) (fun j => ?_) ?_ (by simp [hi]) (by simp [Volume.empty])
    (by simp [Volume.empty])
  · rw [State.clearEntry, setVolume_volume, dropImage_volume]
    split
    · rfl
    · rfl
  · rw [State.clearEntry, setVolume_memory, dropImage_eq hx, (notify_frame ..).2.2.2.2.1, setVolume_memory,
      freeSlot_memory]

end State.Transferring

/-! ### The bursts of the engine -/

theorem engineDone_engine (s : State) : s.engineDone.memory.engine = s.memory.engine := by
  unfold State.engineDone
  split <;> rfl

theorem saveCompleted_volume (s : State) (i j : Fin 16) :
    (s.saveCompleted i).volume j = if j = i then { s.volume i with state := .suspended } else s.volume j := by
  rw [← setVolume_volume]
  unfold State.saveCompleted
  dsimp only
  split
  · rfl
  · rw [volume_congr (notify_frame ..).2.1]
    rfl

/-- The entry that a restore leaves MOUNTED: its counts and exceptions lost are the image's (R130, R159). -/
def Volume.restored (v : Volume) (image : Restored) : Volume :=
  { v with state := .mounted, counts := image.counts, excLost := image.lost, saveSlot := none }

theorem restoreCompleted_volume (s : State) (i : Fin 16) (x : Fin 8) (n : Nat) (j : Fin 16) :
    (s.restoreCompleted i x n).volume j =
      if j = i then (s.volume i).restored (readImage (readWords s.mem x 0 n)) else s.volume j := by
  unfold State.restoreCompleted
  extract_lets r v0 v s1 s2 k s3
  rw [volume_congr (notify_frame ..).2.1, volume_congr (enterCradle_frame ..).1, setVolume_volume, freeSlot_volume,
    setVolume_volume]
  split
  · rfl
  · rfl

section

variable {s : State} {e : Engine} {i : Fin 16}

theorem engineCompleted_still (hm : s.moving = none) : s.engineCompleted e = s.setEngine .idle := by
  simp only [State.engineCompleted, hm]

theorem engineCompleted_saving (hm : s.moving = some i) (he : e.state = .saving) :
    s.engineCompleted e = (s.setEngine .idle).saveCompleted i := by
  simp only [State.engineCompleted, hm, he]

theorem engineCompleted_restoring {x : Fin 8} (hm : s.moving = some i) (he : e.state = .restoring)
    (hx : e.slot = some x) : s.engineCompleted e = (s.setEngine .idle).restoreCompleted i x e.length := by
  simp only [State.engineCompleted, hm, he, hx]

end

namespace State.Transferring

variable {s t : State} {i : Fin 16}

theorem staleBurst (h : s.Transferring) : s.staleBurst.Transferring := by
  have hv : s.staleBurst.volume = s.volume := volume_congr (staleBurst_frame s).2.1
  by_cases ha : s.memory.engine.abandoned = true
  · refine of_still (fun j => by rw [hv]; exact h.still ha j) (.inl ?_) fun j => by rw [hv]; exact h.suspended j
    rw [State.staleBurst, if_pos ha, engineDone_engine]
    rfl
  · rw [State.staleBurst, if_neg ha]
    exact h

/-- A transfer ends: the entry saved is SUSPENDED with its save slot, the one restored is MOUNTED. -/
theorem engineCompleted (h : s.Transferring) (hp : s.Positioned) {e : Engine}
    (he : e.state = s.memory.engine.state) (hslot : e.slot = s.memory.engine.slot) :
    (s.engineCompleted e).Transferring := by
  have hidle : (s.engineCompleted e).memory.engine.state = .idle := by rw [engineCompleted_engine]; rfl
  cases hm : s.moving with
  | none =>
    rw [engineCompleted_still hm] at hidle ⊢
    exact of_still (moving_none hm) (.inl hidle) h.suspended
  | some i =>
    have hothers (j : Fin 16) : j ≠ i → ¬(s.volume j).state.transfers :=
      hp.no_other_transfers (.inr (State.Positioned.moving_state hm))
    obtain ⟨-, x, hx, hst, -⟩ | ⟨-, x, hx, hst, hes, -⟩ := h.moving hm
    · rw [engineCompleted_saving hm (he.trans hst)] at hidle ⊢
      exact h.of_stopped (saveCompleted_volume _ i) hothers (by simp) (fun _ => Option.isSome_of_eq_some hx)
        (.inl hidle)
    · rw [engineCompleted_restoring hm (he.trans hst) (hslot.trans hes)] at hidle ⊢
      exact h.of_stopped (restoreCompleted_volume _ i x _) hothers (by simp [Volume.restored])
        (by simp [Volume.restored]) (.inl hidle)

/-- The words left of a transfer do not enter. -/
theorem setEngine (h : s.Transferring) {e : Engine} (hst : e.state = s.memory.engine.state)
    (hslot : e.slot = s.memory.engine.slot) (ha : e.abandoned = s.memory.engine.abandoned) :
    (s.setEngine e).Transferring where
  suspending j hj := by
    obtain ⟨x, hx, h1, h2, h3⟩ := h.suspending j hj
    exact ⟨x, hx, hst.trans h1, hslot.trans h2, ha.trans h3⟩
  resuming j hj := by
    obtain ⟨x, hx, h1, h2, h3⟩ := h.resuming j hj
    exact ⟨x, hx, hst.trans h1, hslot.trans h2, ha.trans h3⟩
  saving h1 h2 := h.saving (hst.symm.trans h1) (ha.symm.trans h2)
  restoring h1 h2 := h.restoring (hst.symm.trans h1) (ha.symm.trans h2)
  suspended := h.suspended

theorem engineBurst (h : s.Transferring) (hp : s.Positioned) (n : Nat) : (s.engineBurst n).Transferring := by
  unfold State.engineBurst
  extract_lets e s1 e'
  have hs1 : Steady s s1 := .ite _ (Steady.refl s).saveWords (.refl s)
  have h1 : s1.Transferring := h.steady hs1
  have heng : s1.memory.engine = e := hs1.memory.engine
  split
  · have h2 : (s1.engineCompleted e').Transferring :=
      h1.engineCompleted (hs1.positioned hp) (by rw [heng]) (by rw [heng])
    exact h2.account (engineDone_frame _).2.1 (engineDone_engine _)
  · exact h1.setEngine (by rw [heng]) (by rw [heng]) (by rw [heng])

end State.Transferring

/-! ### The cradle reset (R163) -/

theorem abandonTransfer_engine (s : State) :
    s.abandonTransfer.memory.engine.state = .idle ∨ s.abandonTransfer.memory.engine.abandoned = true := by
  unfold State.abandonTransfer
  split
  · exact .inr rfl
  · rw [engineDone_engine]; exact .inl rfl

theorem freeSaveSlot_engine (s : State) (x : Option (Fin 8)) : (s.freeSaveSlot x).memory.engine = s.memory.engine := by
  cases x with
  | none => rfl
  | some x => rw [State.freeSaveSlot, freeSlot_memory]

section

variable {s : State} {i : Fin 16}

theorem resetVolumes_saving_volume (hm : s.moving = some i) (hv : (s.volume i).state = .suspending) (j : Fin 16) :
    s.resetVolumes.volume j =
      if j = i then { s.volume i with state := .mounted, saveSlot := none } else s.volume j := by
  have hacc : (s.abandonTransfer.freeSaveSlot (s.volume i).saveSlot).account = s.account :=
    (freeSaveSlot_frame _ _ .account (by simp)).trans (abandonTransfer_frame s).2.1
  rw [resetVolumes_saving hm hv]
  exact (setVolume_volume _ i j _).trans (by rw [volume_congr hacc])

theorem resetVolumes_restoring_volume (hm : s.moving = some i) (hv : (s.volume i).state = .resuming) (j : Fin 16) :
    s.resetVolumes.volume j = if j = i then { s.volume i with state := .suspended } else s.volume j := by
  rw [resetVolumes_restoring hm hv]
  exact (setVolume_volume _ i j _).trans (by rw [volume_congr (abandonTransfer_frame s).2.1])

theorem State.Transferring.resetVolumes (h : s.Transferring) (hp : s.Positioned) : s.resetVolumes.Transferring := by
  cases hm : s.moving with
  | none => rw [resetVolumes_none hm]; exact h
  | some i =>
    have hothers (j : Fin 16) : j ≠ i → ¬(s.volume j).state.transfers :=
      hp.no_other_transfers (.inr (State.Positioned.moving_state hm))
    have hengine := abandonTransfer_engine s
    obtain ⟨hv, -⟩ | ⟨hv, x, hx, -⟩ := h.moving hm
    · refine h.of_stopped (resetVolumes_saving_volume hm hv) hothers (by simp) (by simp) ?_
      rw [resetVolumes_saving hm hv, setOpening_memory, setVolume_memory, freeSaveSlot_engine]
      exact hengine
    · refine h.of_stopped (resetVolumes_restoring_volume hm hv) hothers (by simp)
        (fun _ => Option.isSome_of_eq_some hx) ?_
      rw [resetVolumes_restoring hm hv]
      exact hengine

end

/-- The states before the volumes of a cradle reset, and after the drain's, stand as those about them. -/
theorem Undisturbed.cradleStopped (s : State) : Undisturbed s s.emptyAllNotices.resetOpening :=
  ((Undisturbed.refl s).frame (t := s.emptyAllNotices) rfl rfl).resetOpening

theorem Undisturbed.resetDrain (s : State) : Undisturbed s s.resetDrain :=
  (Undisturbed.refl s).steady (Steady.refl s).resetDrain fun h => h.resetDrain

theorem cradleStopped_positioned {s : State} (h : s.Positioned) : s.emptyAllNotices.resetOpening.Positioned :=
  State.Positioned.resetOpening ((Steady.refl s).emptyAllNotices.positioned h)

/-! ### Every step -/

theorem reset_transferring : State.reset.Transferring :=
  .of_still (by decide) (.inl rfl) (by decide)

theorem State.Transferring.move {s t : State} (h : s.Transferring) (hp : s.Positioned) (hm : CradleMove s t) :
    t.Transferring := by
  cases hm with
  | undisturbed hu => exact h.undisturbed hu
  | reset => exact reset_transferring.account rfl rfl
  | register _ _ _ _ _ hi => exact h.setVolume (by simp [hi]) (by simp [registered]) (by simp [registered])
  | mountPending k _ _ hi => exact h.mountPending k hi
  | resume x _ hv hi => exact h.resume x hv hi
  | suspend x hi => exact h.suspend hp x hi
  | closeMounted hi => exact h.closeMounted hi
  | closeSuspended hi => exact h.closeSuspended hi
  | clear hi =>
    exact h.setVolume (by obtain e | e := hi <;> simp [e]) (by simp [Volume.empty]) (by simp [Volume.empty])
  | clearSuspended hi => exact h.clearSuspended hi
  | cradleReset =>
    exact ((h.undisturbed (.cradleStopped s)).resetVolumes (cradleStopped_positioned hp)).undisturbed (.resetDrain _)
  | staleBurst =>
    exact (State.Transferring.staleBurst (h.steady (Steady.refl s).setBurst)).steady (Steady.refl _).decideMemory
  | engineBurst =>
    have hb : Steady s (s.setBurst none) := (Steady.refl s).setBurst
    exact ((h.steady hb).engineBurst (hb.positioned hp) _).steady (Steady.refl _).decideMemory

theorem transferringClosed : SteadyClosed State.Transferring where
  steady hs h := h.steady hs
  link _ _ h := h.account rfl rfl

theorem transferringMoves : MoveCarries (fun s => s.Positioned ∧ s.Transferring) State.Transferring where
  link _ _ h := ⟨positionedClosed.link _ _ h.1, transferringClosed.link _ _ h.2⟩
  weaken h := h.2
  linked := transferringClosed.link
  arbitrate := transferringClosed.arbitrate
  move h hm := h.2.move h.1 hm

theorem State.Transferring.exec {c : Instr} {s t : State} (h : s.Transferring) (hp : s.Positioned)
    (he : exec c s = .next t) : t.Transferring := by
  cases hc : c.inside with
  | true => exact transferringClosed.exec hc h he
  | false => exact transferringMoves.exec hc ⟨hp, h⟩ he

theorem State.Transferring.step {s t : State} (h : s.Transferring) (hp : s.Positioned) (he : step s = .next t) :
    t.Transferring := by
  unfold Machine.step at he
  split at he
  · cases he; exact h.undisturbed (.tick s)
  · next rest _ =>
    exact State.Transferring.exec (s := { s with pending := rest }) (h.account rfl rfl) (hp.congr rfl rfl) he

end Sys2Proof.Machine
end

section
/-! SUPPORT. The commands inside an opening keep the MOUNTED entry's figures and its leaf table in agreement. -/

namespace Sys2Proof.Machine

open Sys2Proof

theorem accountedCarries : Carries State.Accounted State.Accounted where
  link _ _ h := h
  weaken h := h
  linked _ _ h := h
  arbitrate r h := h.arbitrate r

namespace State.Accounted

variable {s t : State}

/-- A request that leaves the account unit as it is. -/
theorem ask_account (hs : s.Accounted) {c : Instr} {act : State → Reply}
    (hact : ∀ r, (act r).state.account = r.account) : (s.ask c act).Accounted :=
  accountedCarries.ask hs fun r hr => hr.of_account (hact r)

/-- The exceptions read leave the figures and the leaf table as they are (R180). -/
theorem setExceptions (hs : s.Accounted) {x} : (s.setExceptions x).Accounted := hs

/-- Every command inside an opening, with the leaves of a flash record in the table. -/
theorem exec_inside (h : s.Accounted)
    (hleaf : ∀ f, s.light.flash = some f → ∀ j, f.leftLeaf = some j ∨ f.rightLeaf = some j →
      (leafAt s.account.leaves j).isSome = true)
    {c : Instr} (hc : c.inside = true) (he : exec c s = .next t) : t.Accounted := by
  have hP := accountedCarries
  cases c with
  | powerOnReset | register | mount | suspend | close | clear | seek | resync | park | wake | cradleReset | turnAsk
  | turnBegin | turnEnd | armFault | settleExpiry | turnTimerExpiry | confirmWindowClose | burstCompletion
  | refreshTimerExpiry => simp [Instr.inside] at hc
  | poll | ident | lampSetStatus => cases he; exact h.ask_account fun r => rfl
  | lampSetRead | programSetRead | slotStatus =>
    cases he
    refine h.ask_account fun r => ?_
    split <;> rfl
  | readVolume | readVolumeShelfMark =>
    cases he
    refine h.ask_account fun r => ?_
    unfold State.readVolume
    (repeat' split) <;> rfl
  | readLeaf =>
    cases he
    refine h.ask_account fun r => ?_
    (repeat' split) <;> rfl
  | doseQuery =>
    cases he
    refine h.ask_account fun r => ?_
    unfold State.doseQuery
    dsimp only
    (repeat' split) <;> rfl
  | readExceptions =>
    cases he
    refine hP.ask h fun r hr => ?_
    dsimp only
    split
    · exact hr
    · split
      · exact hr
      · exact hr.setExceptions
  | requestKindUnknown =>
    cases he
    split
    · exact h
    · exact h.ask_account fun r => rfl
  | setTiming | setBudget =>
    cases he
    refine hP.ask h fun r hr => ?_
    dsimp only
    split
    · exact hr
    · split
      · exact hr
      · exact hr.setVolume_figures rfl ⟨rfl, rfl, rfl⟩
  | reshoot | exempt | acceptSide => cases he; exact hP.ask h fun r hr => hr.mark
  | abortOpening =>
    cases he
    refine hP.ask h fun r hr => ?_
    split
    · exact hr
    · exact hr
    · exact hr
    · exact hr
    · exact hr.abortOpening
  | lampSetWrite =>
    cases he
    refine hP.ask h fun r hr => ?_
    dsimp only
    split
    · split
      · exact hr
      · exact hr.setLamp.decideLight
    · exact hr
  | programSetWrite =>
    cases he
    refine h.ask_account fun r => ?_
    dsimp only
    (repeat' split) <;> rfl
  | drainOpen =>
    cases he
    refine hP.ask h fun r hr => ?_
    dsimp only
    split
    · split
      · exact hr
      · exact hr.setDrain.activateDrain
    · exact hr
  | drainStop =>
    cases he
    refine hP.ask h fun r hr => ?_
    dsimp only
    split
    · exact hr
    · exact hr.drainStop
  | release =>
    cases he
    refine hP.ask h fun r hr => ?_
    split
    · exact hr.release
    · exact hr
    · exact hr
  | claim =>
    cases he
    refine hP.ask h fun r hr => ?_
    split
    · exact hr
    · split
      · exact hr.testAndSet
      · exact hr
  | unclaim =>
    cases he
    refine hP.ask h fun r hr => ?_
    split
    · exact hr
    · exact hr.unclaim
  | cancel =>
    cases he
    refine hP.ask h fun r hr => ?_
    split
    · exact hr
    · exact hr.cancel
  | capture =>
    cases he
    refine hP.ask h fun r hr => ?_
    repeat' split
    · exact hr
    · exact hr
    · exact hr
    · exact hr.tryCapture
  | portReset l => cases he; exact hP.portReset h l
  | selectRising l => cases he; exact hP.selectRises h l
  | selectFalling | byteClocked => cases he; exact h
  | frameHeader =>
    cases he
    refine arbitrate ?_ _
    split
    · exact ite _ h.headerComplete h
    · exact h
  | huntWord | headerWord =>
    cases he
    split
    · exact ite _ h.setRx h
    · exact h
  | readyFalling => cases he; exact ite _ h.setDrain.setStall h
  | readyRising => cases he; exact ite _ h h.setDrain.setStall
  | payloadWord => cases he; exact arbitrate h.takePayload _
  | trailerWord => cases he; exact arbitrate h.takeTrailer _
  | frameCompleteLimitExpiry => cases he; exact arbitrate h.frameLate _
  | commit => cases he; exact arbitrate h.commit _
  | frameStartLimitExpiry => cases he; exact arbitrate h.frameMissing _
  | partnerWaitLimitExpiry => cases he; exact arbitrate h.partnerLate _
  | slotWaitLimitExpiry => cases he; exact arbitrate h.slotWaitEnds _
  | claimLifetimeExpiry => cases he; exact arbitrate h.claimExpires _
  | flashEnd => cases he; exact arbitrate (h.flashTimerExpires hleaf) _
  | interFlashGapExpiry => cases he; exact arbitrate h.gapExpires _
  | rechargeExpiry => cases he; exact arbitrate h.rechargeExpires _
  | drainWordTaken => cases he; exact arbitrate h.takeDrainWord _
  | stallTimerExpiry => cases he; exact arbitrate h.stallExpires _
  | confirmInput => cases he; exact h.confirmRises
  | refreshCompletion => cases he; exact h.refreshDone

end State.Accounted

end Sys2Proof.Machine
end

section
/-! PROOFS. The figures of the MOUNTED entry agree with its leaf table after every step (R103, R104, R157 to R159,
R175). -/

namespace Sys2Proof.Machine

open Sys2Proof

/-! ### An entry of the table changed, the leaf table kept -/

/-- The MOUNTED entry, if there is one, is a given one that agrees. -/
theorem accounted_of_only {t : State} {i : Fin 16} (hone : ∀ j, (t.volume j).state = .mounted → j = i)
    (ha : (t.volume i).agrees t.account.leaves) : t.Accounted := fun j hj => by
  obtain rfl := hone j (State.Positioned.mounted_state hj)
  exact ha

/-- The entry changed is not MOUNTED, and no other is. -/
theorem accounted_of_entry_unmounted {s t : State} {i : Fin 16} {v : Volume}
    (hvol : ∀ j, t.volume j = if j = i then v else s.volume j) (hv : v.state ≠ .mounted)
    (hothers : ∀ j, j ≠ i → (s.volume j).state ≠ .mounted) : t.Accounted :=
  accounted_of_unmounted fun j => by
    rw [hvol]
    split
    · exact hv
    · next hne => exact hothers j hne

/-- An entry changes that is MOUNTED neither before nor after, and the leaf table stays. -/
theorem State.Accounted.entry {s t : State} (h : s.Accounted) {i : Fin 16} {v : Volume}
    (hvol : ∀ j, t.volume j = if j = i then v else s.volume j) (hl : t.account.leaves = s.account.leaves)
    (hi : (s.volume i).state ≠ .mounted) (hv : v.state ≠ .mounted) : t.Accounted := by
  have hsame : t.volume = (s.setVolume i v).volume := by
    funext j
    rw [hvol, setVolume_volume]
  refine (h.setVolume hi hv).of_figures (by simp only [State.mounted, hsame]) hl fun j _ => ?_
  rw [hsame]
  exact ⟨rfl, rfl, rfl⟩

theorem unmounted_of_none {s : State} (hm : s.mounted = none) (j : Fin 16) : (s.volume j).state ≠ .mounted := by
  simpa using find_allVolumes_none.1 hm j

/-- Beside a held entry no other is MOUNTED. -/
theorem State.Positioned.no_other_mounted {s : State} {i : Fin 16} (h : s.Positioned) (hi : (s.volume i).state.held)
    {j : Fin 16} (hj : j ≠ i) : (s.volume j).state ≠ .mounted := fun hm => hj (h.oneHeld j i (.inl hm) hi)

/-! ### What a step starts from -/

/-- The MOUNTED figures agree, and every entry and flash that a step may bring to them does so in agreement. -/
structure State.Reckonable (s : State) : Prop where
  accounted : s.Accounted
  positioned : s.Positioned
  transferring : s.Transferring
  pending : ∀ i, (s.volume i).state = .pending →
    (s.volume i).counts = ⟨2 * (s.volume i).n, 0, 0, 0, 0, 0, 0⟩ ∧ (s.volume i).doseUsed = 0
  suspending : ∀ i, (s.volume i).state = .suspending → (s.volume i).agrees s.account.leaves
  flash : ∀ f, s.light.flash = some f → ∀ j, f.leftLeaf = some j ∨ f.rightLeaf = some j →
    (leafAt s.account.leaves j).isSome = true
  image : ∀ i x n, (s.volume i).state = .resuming → s.memory.burst = some (.engine n false) →
    (s.volume i).saveSlot = some x → s.memory.engine.left ≤ n →
    ((s.volume i).restored (readImage (readWords s.mem x 0 s.memory.engine.length))).agrees
      (readImage (readWords s.mem x 0 s.memory.engine.length)).leaves

/-- The links and the commands that wait do not enter. -/
theorem State.Reckonable.congr {s t : State} (h : s.Reckonable) (ho : t.opening = s.opening)
    (ha : t.account = s.account) (hl : t.light = s.light) (hm : t.memory = s.memory) (hw : t.mem = s.mem) :
    t.Reckonable where
  accounted := h.accounted.of_account ha
  positioned := h.positioned.congr ho (by rw [ha])
  transferring := h.transferring.account ha (by rw [hm])
  pending := by rw [volume_congr ha]; exact h.pending
  suspending := by rw [volume_congr ha, ha]; exact h.suspending
  flash := by rw [hl, ha]; exact h.flash
  image := by rw [volume_congr ha, hm, hw]; exact h.image

/-! ### The volume requests -/

section

variable {s : State} {i : Fin 16}

theorem resume_accounted (x : Word) (hm : s.mounted = none) : (s.resume i x).Accounted :=
  accounted_of_entry_unmounted (resume_volume s i x) (by simp) fun j _ => unmounted_of_none hm j

theorem suspend_accounted (hp : s.Positioned) (x : Fin 8) (hi : (s.volume i).state = .mounted) :
    (s.suspend i x).Accounted := by
  obtain ⟨-, -, -, -, hvol, -, -⟩ := suspend_frame s i x
  exact accounted_of_entry_unmounted hvol (by simp) fun j => hp.no_other_mounted (.inl hi)

theorem closeMounted_accounted (hp : s.Positioned) (hi : (s.volume i).state = .mounted) :
    (s.closeMounted i).Accounted := by
  obtain ⟨-, -, -, -, -, hvol, -⟩ := closeMounted_blocks s i
  refine accounted_of_entry_unmounted hvol (by simp) fun j hj => ?_
  rw [((Steady.refl s).endClaims.volumes j).state]
  exact hp.no_other_mounted (.inl hi) hj

theorem State.Accounted.closeSuspended (h : s.Accounted) (ht : s.Transferring)
    (hi : (s.volume i).state = .suspended) : (s.closeSuspended i).Accounted := by
  obtain ⟨x, hx⟩ := Option.isSome_iff_exists.1 (ht.suspended i hi)
  obtain ⟨hl, -, hvol⟩ := closeSuspended_account hx
  exact h.entry hvol hl (by simp [hi]) (by simp)

theorem State.Accounted.clearSuspended (h : s.Accounted) (ht : s.Transferring)
    (hi : (s.volume i).state = .suspended) : ((s.dropImage i).clearEntry i).Accounted := by
  obtain ⟨x, hx⟩ := Option.isSome_iff_exists.1 (ht.suspended i hi)
  refine h.entry (i := i) (v := .empty) (fun j => ?_) ?_ (by simp [hi]) (by simp [Volume.empty])
  · rw [State.clearEntry, setVolume_volume, dropImage_volume]
    split
    · rfl
    · rfl
  · change (s.dropImage i).account.leaves = _
    rw [dropImage_eq hx, (notify_frame ..).2.1]
    have hfree : (s.freeSlot x).account.leaves = s.account.leaves := congrArg _ (freeSlot_frame s x).2.1
    exact hfree

/-! ### The cradle reset -/

/-- A cradle reset during a transfer leaves the cradle as it stands: no volume is in it (R24). -/
theorem cradleStopped_of_moving (hp : s.Positioned) (hm : s.moving = some i) :
    s.emptyAllNotices.resetOpening = s.emptyAllNotices := by
  refine (resetOpening_stays (s := s.emptyAllNotices) fun hf => ?_).1
  have hst := State.Positioned.moving_state hm
  have hi : (s.volume i).state ≠ .mounted := by obtain e | e := hst <;> simp [e]
  obtain ⟨-, hidle | hparked, -⟩ := hp.waiting hi fun j hj => hp.oneHeld j i hj (.inr hst)
  · refine hf.2 hidle (find_allVolumes_none.2 fun j => ?_)
    have hj : (s.volume j).state ≠ .mounted := fun hj => by
      obtain rfl := hp.oneHeld j i (.inl hj) (.inr hst)
      exact hi hj
    exact decide_eq_false hj
  · exact hf.1 hparked

theorem resetVolumes_saving_leaves (hm : s.moving = some i) (hv : (s.volume i).state = .suspending) :
    s.resetVolumes.account.leaves = s.account.leaves := by
  have hl : (s.abandonTransfer.freeSaveSlot (s.volume i).saveSlot).account.leaves = s.account.leaves :=
    congrArg _ ((freeSaveSlot_frame _ _ .account (by simp)).trans (abandonTransfer_frame s).2.1)
  rw [resetVolumes_saving hm hv]
  exact hl

/-- The SUSPENDING entry returns to the cradle with its tables on chip; a RESUMING one is SUSPENDED again (R163). -/
theorem resetVolumes_accounted (h : s.Accounted) (hp : s.Positioned)
    (hsus : ∀ i, s.moving = some i → (s.volume i).state = .suspending → (s.volume i).agrees s.account.leaves) :
    s.resetVolumes.Accounted := by
  cases hm : s.moving with
  | none => rw [resetVolumes_none hm]; exact h
  | some i =>
    have hst := State.Positioned.moving_state hm
    have hothers (j : Fin 16) : j ≠ i → (s.volume j).state ≠ .mounted := hp.no_other_mounted (.inr hst)
    obtain hv | hv := hst
    · have hvol := resetVolumes_saving_volume hm hv
      refine accounted_of_only (i := i) (fun j hj => ?_) ?_
      · by_contra hne
        rw [hvol, if_neg hne] at hj
        exact hothers j hne hj
      · rw [hvol, if_pos rfl, resetVolumes_saving_leaves hm hv]
        exact hsus i hm hv
    · exact accounted_of_entry_unmounted (resetVolumes_restoring_volume hm hv) (by simp) hothers

theorem State.Reckonable.cradleReset (h : s.Reckonable) :
    s.emptyAllNotices.resetOpening.resetVolumes.resetDrain.Accounted := by
  have hu := Undisturbed.cradleStopped s
  refine State.Accounted.resetDrain (resetVolumes_accounted (hu.accounted h.accounted)
    (cradleStopped_positioned h.positioned) fun i hm hv => ?_)
  have hs : (s.volume i).state = .suspending := (hu.states i).symm.trans hv
  have hmoving : s.moving = some i := by
    rw [← hm]
    simp only [State.moving, hu.states]
  rw [cradleStopped_of_moving h.positioned hmoving]
  exact h.suspending i hs

/-! ### The bursts of the engine -/

theorem restoreCompleted_leaves (s : State) (i : Fin 16) (x : Fin 8) (n : Nat) :
    (s.restoreCompleted i x n).account.leaves = (readImage (readWords s.mem x 0 n)).leaves := by
  unfold State.restoreCompleted
  extract_lets r v0 v s1 s2 k s3
  rw [(notify_frame ..).2.1, (enterCradle_frame ..).1]
  exact congrArg Account.leaves (freeSlot_frame s1 x).2.1

/-- A transfer ends: a save leaves no entry MOUNTED, and a restore the entry of its image. -/
theorem State.Accounted.engineCompleted (h : s.Accounted) (hp : s.Positioned) (ht : s.Transferring) {e : Engine}
    (he : e.state = s.memory.engine.state) (hslot : e.slot = s.memory.engine.slot)
    (himage : ∀ i x, (s.volume i).state = .resuming → (s.volume i).saveSlot = some x →
      ((s.volume i).restored (readImage (readWords s.mem x 0 e.length))).agrees
        (readImage (readWords s.mem x 0 e.length)).leaves) : (s.engineCompleted e).Accounted := by
  cases hm : s.moving with
  | none => rw [engineCompleted_still hm]; exact h
  | some i =>
    have hothers (j : Fin 16) : j ≠ i → (s.volume j).state ≠ .mounted :=
      hp.no_other_mounted (.inr (State.Positioned.moving_state hm))
    obtain ⟨-, x, hx, hst, -⟩ | ⟨hv, x, hx, hst, hes, -⟩ := ht.moving hm
    · rw [engineCompleted_saving hm (he.trans hst)]
      exact accounted_of_entry_unmounted (saveCompleted_volume (s.setEngine .idle) i) (by simp) hothers
    · rw [engineCompleted_restoring hm (he.trans hst) (hslot.trans hes)]
      have hvol := restoreCompleted_volume (s.setEngine .idle) i x e.length
      refine accounted_of_only (i := i) (fun j hj => ?_) ?_
      · by_contra hne
        rw [hvol, if_neg hne] at hj
        exact hothers j hne hj
      · rw [hvol, if_pos rfl, restoreCompleted_leaves]
        exact himage i x hv hx

theorem State.Reckonable.engineBurst (h : s.Reckonable) {n : Nat} (hb : s.memory.burst = some (.engine n false)) :
    ((s.setBurst none).engineBurst n).Accounted := by
  have hset : Steady s (s.setBurst none) := (Steady.refl s).setBurst
  unfold State.engineBurst
  extract_lets e s1 e'
  have hs1 : Steady s s1 := .ite _ hset.saveWords hset
  have hacc : s1.account = s.account := by
    dsimp only [s1]
    split
    · exact (saveWords_frame _ n).2.1
    · rfl
  have h1 : s1.Accounted := h.accounted.of_account hacc
  have heng : s1.memory.engine = e := hs1.memory.engine
  split
  · next hleft =>
    refine State.Accounted.of_account (State.Accounted.engineCompleted h1 (hs1.positioned h.positioned)
      (h.transferring.steady hs1) (by rw [heng]) (by rw [heng]) fun i x hi hx => ?_) (engineDone_frame _).2.1
    rw [volume_congr hacc] at hi hx ⊢
    obtain ⟨-, -, hst, -⟩ := h.transferring.resuming i hi
    have hmem : s1.mem = s.mem := by
      dsimp only [s1]
      rw [if_neg (by rw [show e.state = .restoring from hst]; simp)]
      rfl
    rw [hmem]
    exact h.image i x n hi hb hx (Nat.sub_eq_zero_iff_le.1 hleft)
  · exact h1

end

/-! ### Every step -/

theorem reset_accounted : State.reset.Accounted := accounted_of_unmounted (by decide)

theorem State.Reckonable.move {s t : State} (h : s.Reckonable) (hm : CradleMove s t) : t.Accounted := by
  cases hm with
  | undisturbed hu => exact hu.accounted h.accounted
  | reset => exact reset_accounted
  | register _ _ _ _ _ hi => exact h.accounted.setVolume (by simp [hi]) (by simp [registered])
  | mountPending k hmount _ hi =>
    obtain ⟨hc, hd⟩ := h.pending _ hi
    exact (mountPending_accounted k (unmounted_of_none hmount) hc hd).2
  | resume x hmount _ _ => exact resume_accounted x hmount
  | suspend x hi => exact suspend_accounted h.positioned x hi
  | closeMounted hi => exact closeMounted_accounted h.positioned hi
  | closeSuspended hi => exact h.accounted.closeSuspended h.transferring hi
  | clear hi => exact h.accounted.setVolume (by obtain e | e := hi <;> simp [e]) (by simp [Volume.empty])
  | clearSuspended hi => exact h.accounted.clearSuspended h.transferring hi
  | cradleReset => exact h.cradleReset
  | staleBurst => exact h.accounted.of_account (by simp)
  | engineBurst hb => exact (h.engineBurst hb).decideMemory

theorem reckonableMoves : MoveCarries State.Reckonable State.Accounted where
  link _ _ h := h.congr rfl rfl rfl rfl rfl
  weaken h := h.accounted
  linked _ _ h := h
  arbitrate r h := h.arbitrate r
  move h hm := h.move hm

theorem State.Reckonable.exec {c : Instr} {s t : State} (h : s.Reckonable) (he : exec c s = .next t) :
    t.Accounted := by
  cases hc : c.inside with
  | true => exact h.accounted.exec_inside h.flash hc he
  | false => exact reckonableMoves.exec hc h he

theorem State.Reckonable.step {s t : State} (h : s.Reckonable) (he : step s = .next t) : t.Accounted := by
  unfold Machine.step at he
  split at he
  · cases he; exact (Undisturbed.tick s).accounted h.accounted
  · next rest _ =>
    exact State.Reckonable.exec (s := { s with pending := rest }) (h.congr rfl rfl rfl rfl rfl) he

/-- Settles O55: a side change, a charge and a MOUNT move the sums of the table and the entry's figures alike; of the
other operations only those of the volume requests, the cradle reset and the engine's last burst change which entry is
MOUNTED, and each brings in figures that the premises make agree. -/
theorem accountAgrees : Obligations.AccountAgrees :=
  ⟨⟨fun _ k _ hm hc hd => mountPending_accounted k hm hc hd, fun f j g _ h => h.changeSide f j g,
      fun _ _ _ _ _ h ha hb hleaf => h.charge ha hb hleaf⟩,
    reset_transferring, fun _ _ hp ht he => ht.step hp he,
    fun _ _ ha hp ht hpending hsuspending hflash himage he =>
      State.Reckonable.step ⟨ha, hp, ht, hpending, hsuspending, hflash, himage⟩ he⟩

end Sys2Proof.Machine
end

section
/-! SUPPORT. The bounds of the buffers and counts and the DRAM's canonical form (R116, R127, R133, R134, R136, R181,
R188, log 6): what an update must keep of them, and the operations of the account unit, the opening controller, the
capture unit and the light unit, which only queue notices and change slots. -/

namespace Sys2Proof.Machine

open Sys2Proof

/-! ### The links (R181, R188) -/

/-- A notice is queued within the depth or counted as lost, up to the count's maximum (R188). -/
theorem Link.push_bounded {l : LinkId} {k : Link} (h : k.bounded l) (n : Notice) :
    (k.push (noticeDepth l) n).bounded l := by
  refine ⟨push_length k _ n h.1, ?_⟩
  have hlost := h.2
  unfold Link.push
  split
  · exact hlost
  · simp only [satAdd]
    split <;> omega

/-- The last byte of an outgoing frame takes at most a notice from the queue (R183). -/
theorem Link.delivered_bounded {l : LinkId} {k : Link} (h : k.bounded l) (e : Exchange) :
    (k.delivered e).bounded l := by
  unfold Link.delivered
  split
  · split
    · exact h
    · exact ⟨(List.drop_sublist 1 k.notices).length_le.trans h.1, h.2⟩
    · exact h
  · exact h

theorem Link.clock_bounded {l : LinkId} {k : Link} (h : k.bounded l) (b : Byte) (fault : Bool) :
    (k.clock b fault).bounded l := by
  unfold Link.clock
  split
  · exact h
  · extract_lets incoming n flags k1 last k2
    have h1 : k1.bounded l := by
      dsimp only [k1]
      split <;> exact h
    have h2 : k2.bounded l := by
      dsimp only [k2]
      split
      · exact delivered_bounded h1 _
      · exact h1
    exact h2

theorem Link.selectFalls_bounded {l : LinkId} {k : Link} (h : k.bounded l) : k.selectFalls.bounded l := by
  unfold Link.selectFalls
  split <;> exact h

theorem Link.settleOut_bounded {l : LinkId} {k : Link} (h : k.bounded l) (e : Exchange) :
    (k.settleOut e).bounded l := by
  unfold Link.settleOut
  split <;> exact h

theorem Link.offer_bounded {l : LinkId} {k : Link} (h : k.bounded l) (f : Frame) : (k.offer f).bounded l := by
  unfold Link.offer
  split <;> exact h

theorem Link.emptyNotices_bounded {l : LinkId} {k : Link} (h : k.bounded l) : k.emptyNotices.bounded l :=
  ⟨Nat.zero_le _, h.2⟩

namespace State.Bounded

variable {s t : State}

/-! ### What an update must keep -/

/-- Whatever burst is in progress, the drain's buffer holds no more than its depth (R133). -/
theorem buffer_le (hs : s.Bounded) : s.drain.buffer.length ≤ Config.drainBufferWords := by
  have h := hs.buffer
  unfold State.drainFits at h
  split at h
  · exact (Nat.le_add_right _ _).trans h
  · exact h

/-- The drain's buffer still has room when it holds no more words than before (R136). -/
theorem drainFits_of_le (hs : s.Bounded) (hb : t.memory.burst = s.memory.burst)
    (hd : t.drain.buffer.length ≤ s.drain.buffer.length) : t.drainFits := by
  have h := hs.buffer
  unfold State.drainFits at h ⊢
  rw [hb]
  split at h <;> omega

/-- An update that leaves the drain unit, the burst and the DRAM as they are, and the links within their depths. -/
theorem update (hs : s.Bounded) (hl : ∀ l, (t.link l).bounded l)
    (hf : ∀ h, (t.rx h).fifo.length ≤ (s.rx h).fifo.length) (ho : t.memory.owed ≤ s.memory.owed)
    (hb : t.memory.burst = s.memory.burst) (hd : t.drain = s.drain) (hm : t.mem = s.mem) : t.Bounded where
  links := hl
  fifos h := (hf h).trans (hs.fifos h)
  drains := by rw [hd]; exact hs.drains
  buffer := hs.drainFits_of_le hb (by rw [hd])
  owed := ho.trans hs.owed
  canonical := by rw [hm]; exact hs.canonical

/-- An update of the memory's slots and of blocks that hold no bounded buffer. -/
theorem slots (hs : s.Bounded) (hm : t.memory = { s.memory with slots := t.memory.slots }) (hl : t.links = s.links)
    (hd : t.drain = s.drain) (he : t.mem = s.mem) : t.Bounded := by
  refine hs.update (fun l => ?_) (fun h => ?_) (by rw [hm]) (by rw [hm]) hd he
  · simp only [State.link, hl]; exact hs.links l
  · simp only [State.rx]; rw [hm]

/-- An update of blocks that hold no bounded buffer. -/
theorem same (hs : s.Bounded) (hm : t.memory = s.memory) (hl : t.links = s.links) (hd : t.drain = s.drain)
    (he : t.mem = s.mem) : t.Bounded :=
  hs.slots (by rw [hm]) hl hd he

theorem setCtx (hs : s.Bounded) {h c} : (s.setCtx h c).Bounded := hs.same rfl rfl rfl rfl
theorem setClaim (hs : s.Bounded) {h c} : (s.setClaim h c).Bounded := hs.same rfl rfl rfl rfl
theorem setWaitOrder (hs : s.Bounded) {w} : (s.setWaitOrder w).Bounded := hs.same rfl rfl rfl rfl
theorem setCapture (hs : s.Bounded) {x : Capture} : ({ s with capture := x } : State).Bounded :=
  hs.same rfl rfl rfl rfl
theorem setLight (hs : s.Bounded) {x : Light} : ({ s with light := x } : State).Bounded := hs.same rfl rfl rfl rfl
theorem setLamp (hs : s.Bounded) {i x} : (s.setLamp i x).Bounded := hs.setLight
theorem setHeld (hs : s.Bounded) {r} : (s.setHeld r).Bounded := hs.setLight
theorem setProgram (hs : s.Bounded) {i p} : (s.setProgram i p).Bounded := hs.setLight
theorem mapLamps (hs : s.Bounded) {f} : (s.mapLamps f).Bounded := hs.setLight
theorem setVolume (hs : s.Bounded) {i v} : (s.setVolume i v).Bounded := hs.same rfl rfl rfl rfl
theorem setLeaves (hs : s.Bounded) {x} : (s.setLeaves x).Bounded := hs.same rfl rfl rfl rfl
theorem setExceptions (hs : s.Bounded) {x} : (s.setExceptions x).Bounded := hs.same rfl rfl rfl rfl
theorem setOpening (hs : s.Bounded) {o} : (s.setOpening o).Bounded := hs.same rfl rfl rfl rfl
theorem setSlot (hs : s.Bounded) {i x} : (s.setSlot i x).Bounded := hs.slots rfl rfl rfl rfl
theorem mapSlots (hs : s.Bounded) {f} : (s.mapSlots f).Bounded := hs.slots rfl rfl rfl rfl

/-- An operation carried out or not. -/
theorem ite {u : State} (c : Prop) [Decidable c] (ht : t.Bounded) (hu : u.Bounded) : (if c then t else u).Bounded :=
  by
  split
  · exact ht
  · exact hu

/-- An update of a link that keeps it within its depths. -/
theorem setLink (hs : s.Bounded) {l : LinkId} {k : Link} (hk : k.bounded l) : (s.setLink l k).Bounded := by
  refine hs.update (fun m => ?_) (fun _ => le_rfl) le_rfl rfl rfl rfl
  rw [setLink_link]
  split
  · next h => subst h; exact hk
  · exact hs.links m

theorem notify (hs : s.Bounded) {l n} : (s.notify l n).Bounded := hs.setLink (Link.push_bounded (hs.links l) n)

/-! ### The account unit and the opening controller -/

theorem changeSide (hs : s.Bounded) {f j g} : (s.changeSide f j g).Bounded :=
  hs.same (by simp) (by simp) (by simp) (by simp)

theorem charge (hs : s.Bounded) {a b dl dr} : (s.charge a b dl dr).Bounded :=
  hs.same (by simp) (by simp) (by simp) (by simp)

theorem emptyTables (hs : s.Bounded) : s.emptyTables.Bounded := hs.setLeaves.setExceptions

theorem addException (hs : s.Bounded) {x} : (s.addException x).Bounded := by
  unfold State.addException
  split
  · exact hs
  · exact ite _ hs.setExceptions.setVolume.notify hs.setVolume

theorem addException? (hs : s.Bounded) {x} : (s.addException? x).Bounded := by
  unfold State.addException?
  split
  · exact hs
  · exact hs.addException

theorem takeEvaluated (hs : s.Bounded) : s.takeEvaluated.Bounded := by
  obtain h | ⟨l, n, h⟩ := takeEvaluated_cases s
  · rw [h]; exact hs.setOpening
  · rw [h]; exact hs.setOpening.notify

theorem evaluate (hs : s.Bounded) : s.evaluate.Bounded := ite _ hs.takeEvaluated hs

theorem evaluateSide (hs : s.Bounded) {f j} : (s.evaluateSide f j).Bounded := ite _ hs.evaluate hs

theorem enterSettling (hs : s.Bounded) : s.enterSettling.Bounded :=
  ite _ hs.setOpening.setOpening.takeEvaluated hs.setOpening

theorem enterIdle (hs : s.Bounded) : s.enterIdle.Bounded := hs.setOpening

theorem enterCradle (hs : s.Bounded) {i k} : (s.enterCradle i k).Bounded :=
  ite _ hs.setOpening hs.setOpening.enterSettling

/-! ### The capture unit (R48 to R69) -/

/-- The operations that change no more than slots, contexts and light requests. -/
theorem step (hs : s.Bounded) (h : StepFrame s t) (hl : t.links = s.links) (hd : t.drain = s.drain)
    (he : t.mem = s.mem) : t.Bounded :=
  hs.slots h.memory hl hd he

theorem freeSlot (hs : s.Bounded) {i} : (s.freeSlot i).Bounded :=
  hs.slots (freeSlot_memory s i) (by simp) (by simp) (by simp)

theorem startStep (hs : s.Bounded) {h} : (s.startStep h).Bounded :=
  hs.step (.startStep s h) (by simp) (by simp) (by simp)

theorem startPair (hs : s.Bounded) : s.startPair.Bounded := hs.step (.startPair s) (by simp) (by simp) (by simp)

theorem startWaiting (hs : s.Bounded) : s.startWaiting.Bounded :=
  hs.step (.startWaiting s) (by simp) (by simp) (by simp)

theorem setCause (hs : s.Bounded) {h c x} : (s.setCause h c x).Bounded :=
  hs.same (by simp) (by simp) (by simp) (by simp)

theorem orderEnd (hs : s.Bounded) {h o} : (s.orderEnd h o).Bounded :=
  hs.same (by simp) (by simp) (by simp) (by simp)

theorem endClaim (hs : s.Bounded) {h e} : (s.endClaim h e).Bounded := by
  unfold State.endClaim
  split
  · exact hs
  · exact ite _ hs.changeSide.setClaim.notify hs.changeSide.setClaim

theorem endClaims (hs : s.Bounded) {e} : (s.endClaims e).Bounded := hs.endClaim.endClaim

theorem endOne (hs : s.Bounded) {h} : (s.endOne h).Bounded := by
  cases hc : s.ctx h with
  | none => rw [endOne_none hc]; exact hs
  | some c =>
    have ha : (s.endAccount h c).Bounded := hs.changeSide.addException?.notify.notify
    have hr : (((s.endAccount h c).endContext h).returnSlot c.slot).Bounded :=
      ha.step ((StepFrame.endContext _ h).trans (.returnSlot _ c.slot)) (by simp [State.endContext])
        (by simp [State.endContext]) (by simp [State.endContext])
    rw [endOne_some hc]
    exact hr.evaluate

theorem endKeeps : EndKeeps State.Bounded where
  partner _ hs := hs.same (by simp) (by simp) (by simp) (by simp)
  one _ hs := hs.endOne

theorem endCapture (hs : s.Bounded) {h} : (s.endCapture h).Bounded := endKeeps.endCapture h hs

theorem endIfNow (hs : s.Bounded) {h} : (s.endIfNow h).Bounded := endKeeps.endIfNow h hs

/-- A receiver that holds no more words than before (R116). -/
theorem setRx (hs : s.Bounded) {h : Half} {r : Receiver}
    (hr : r.fifo.length ≤ (s.rx h).fifo.length := by exact le_rfl) : (s.setRx h r).Bounded := by
  refine hs.update hs.links (fun g => ?_) le_rfl rfl rfl rfl
  rw [setRx_rx]
  split
  · next hg => rw [hg]; exact hr
  · exact le_rfl

theorem markCancel (hs : s.Bounded) {h} : (s.markCancel h).Bounded := by
  unfold State.markCancel
  split
  · exact hs
  · split
    · exact hs.setRx
    · exact hs

theorem cancelCtx (hs : s.Bounded) {h} : (s.cancelCtx h).Bounded := hs.markCancel.orderEnd.endIfNow

theorem cancelBoth (hs : s.Bounded) : s.cancelBoth.Bounded :=
  hs.markCancel.orderEnd.markCancel.orderEnd.endIfNow.endIfNow

theorem abortBoth (hs : s.Bounded) : s.abortBoth.Bounded := hs.orderEnd.orderEnd.endIfNow.endIfNow

theorem abortOpening (hs : s.Bounded) : s.abortOpening.Bounded := hs.cancelBoth.endClaims.evaluate

theorem testAndSet (hs : s.Bounded) {h} : (s.testAndSet h).state.Bounded := by
  unfold State.testAndSet
  split
  · dsimp only
    split
    · exact hs.changeSide.setClaim.evaluate
    · split
      · exact hs.setClaim
      · exact hs
  · exact hs

theorem unclaim (hs : s.Bounded) {h} : (s.unclaim h).state.Bounded := by
  unfold State.unclaim
  split
  · exact hs.endClaim.evaluate
  · exact hs

theorem claimExpires (hs : s.Bounded) {h} : (s.claimExpires h).Bounded := by
  unfold State.claimExpires
  split
  · exact hs
  · exact hs.endClaim.evaluate

theorem beginCapture (hs : s.Bounded) {h c p} : (s.beginCapture h c p).Bounded := by
  unfold State.beginCapture
  dsimp only
  split
  · exact ite _ hs.setCtx.setCtx (startPair (s := s.linkPair ..) hs.setCtx.setCtx)
  · exact ite _ hs.setCtx (ite _ hs.setCtx hs.setCtx.startStep)

theorem tryCapture (hs : s.Bounded) {h i} : (s.tryCapture h i).state.Bounded := by
  have accepted {n j found p d} : (s.acceptCapture h n j found p d).state.Bounded :=
    hs.changeSide.setClaim.setCapture.beginCapture.evaluate
  unfold State.tryCapture
  dsimp only
  split
  · repeat' split
    all_goals first | exact hs | exact accepted
  · exact hs

theorem cancel (hs : s.Bounded) {h n} : (s.cancel h n).state.Bounded := by
  unfold State.cancel
  split
  · split <;> exact hs
  · split
    · exact hs
    · exact hs.cancelCtx

theorem advance (hs : s.Bounded) {h} : (s.advance h).Bounded := by
  unfold State.advance
  split
  · exact hs
  · exact hs.setCtx

theorem jointDecision (hs : s.Bounded) : s.jointDecision.Bounded := by
  unfold State.jointDecision
  split
  · exact ite _ hs.setCtx.setCtx.endOne.endOne hs.advance.advance.startPair
  · exact hs

theorem afterCommit (hs : s.Bounded) {h} : (s.afterCommit h).Bounded := by
  unfold State.afterCommit
  split
  · exact hs
  · exact ite _ hs.endCapture (ite _ hs.endOne (ite _ (ite _ hs.jointDecision hs.setCtx)
      (ite _ hs.setCause.endOne hs.advance.startStep)))

theorem frameMissing (hs : s.Bounded) {h} : (s.frameMissing h).Bounded := by
  unfold State.frameMissing
  split
  · exact hs
  · exact ite _ hs.setCause.endCapture hs

theorem partnerLate (hs : s.Bounded) {h} : (s.partnerLate h).Bounded := by
  unfold State.partnerLate
  split
  · exact hs
  · exact ite _ hs.setCause.endCapture hs

theorem pairSlotWait (hs : s.Bounded) : s.pairSlotWait.Bounded := by
  unfold State.pairSlotWait
  split
  · have h1 {a b w} : (((s.setCtx .left a).setCtx .right b).setWaitOrder w).Bounded := hs.setCtx.setCtx.setWaitOrder
    exact ite _ h1.endOne.endOne h1.endOne.endOne
  · exact hs

theorem slotWaitEnds (hs : s.Bounded) {h} : (s.slotWaitEnds h).Bounded := by
  unfold State.slotWaitEnds
  split
  · exact hs
  · exact ite _ hs (ite _ hs.pairSlotWait (ite _ hs.setCause.endOne hs))

theorem mark (hs : s.Bounded) {leaf face rule} : (s.mark leaf face rule).state.Bounded := by
  have applied {i f j r r'} : (s.applyMark i f j r r').state.Bounded := ite _ hs.changeSide hs.changeSide.evaluateSide
  unfold State.mark
  repeat' split
  · exact hs
  · exact hs
  · exact hs
  · exact hs
  · exact hs
  · exact applied
  · exact hs

/-! ### Faults (R16 to R18) -/

theorem enterFault (hs : s.Bounded) {c} : (s.enterFault c).Bounded :=
  hs.setOpening.notify.notify.notify.notify.abortBoth.endClaims

theorem takeCause (hs : s.Bounded) {c} : (s.takeCause c).Bounded := by
  unfold State.takeCause
  split
  · exact hs
  · exact hs
  · exact hs
  · exact hs.enterFault

/-! ### The light unit (R83 to R92) -/

theorem failGrant (hs : s.Bounded) {v c x} : (s.failGrant v c x).Bounded := by
  have unlinked {h : Half} {r : State} (hr : r.Bounded) :
      (match r.ctx h with
       | none => r
       | some c => r.setCtx h (some { c with linked := false })).Bounded := by
    split
    · exact hr
    · exact hr.setCtx
  unfold State.failGrant
  split
  · exact hs.setCause.endCapture
  · exact hs.setCause.endCapture
  · exact (unlinked (unlinked hs.setCause).setCause).endOne.endOne

theorem grantRequest (hs : s.Bounded) {r} : (s.grantRequest r).Bounded := by
  have begun {u : State} (hu : u.Bounded) {i l d} : (u.beginFlash r i l d).Bounded :=
    hu.same (by simp) (by simp) (by simp) (by simp)
  unfold State.grantRequest
  dsimp only
  split
  · exact hs.setHeld
  · split
    · exact hs.setHeld.failGrant
    · split
      · exact begun hs.setHeld
      · exact begun hs.setHeld
      · exact hs.setHeld.failGrant

theorem lightDecisions (n : Nat) (hs : s.Bounded) : (lightDecisions n s).Bounded := by
  induction n generalizing s with
  | zero => exact hs
  | succ n ih =>
    unfold Machine.lightDecisions
    split
    · split
      · exact hs
      · exact ih hs.grantRequest
    · exact hs

theorem decideLight (hs : s.Bounded) : s.decideLight.Bounded := hs.lightDecisions 4

theorem gapExpires (hs : s.Bounded) : s.gapExpires.Bounded := by
  unfold State.gapExpires
  split
  · exact hs
  · exact hs.setLight.decideLight

theorem rechargeExpires (hs : s.Bounded) {i} : (s.rechargeExpires i).Bounded := by
  unfold State.rechargeExpires
  split
  · exact hs.setLamp.decideLight
  · exact hs

/-- Lamps that missed the confirmation window (R88). -/
theorem missLamps (xs : List (Fin 8)) (hs : s.Bounded) :
    (xs.foldl (fun a i => a.setLamp i (a.lamp i).miss) s).Bounded := by
  induction xs generalizing s with
  | nil => exact hs
  | cons x xs ih => exact ih hs.setLamp

theorem windowCloses (hs : s.Bounded) : s.windowCloses.Bounded := by
  unfold State.windowCloses
  split
  · exact hs
  · split
    · exact hs
    · extract_lets missed _ s1 s2
      have h2 : s2.Bounded := missLamps missed hs.setLight
      exact ite _ h2 h2.takeCause

theorem confirmRises (hs : s.Bounded) {i} : (s.confirmRises i).Bounded := by
  unfold State.confirmRises
  split
  · exact hs
  · exact ite _ hs.setLight hs

theorem recordFlash (hs : s.Bounded) {h x} : (s.recordFlash h x).Bounded := by
  unfold State.recordFlash
  split
  · exact hs
  · exact hs.setCtx

/-- The step results of the halves served (R58). -/
theorem recordAll (gs : List Half) (x : StepResult) (hs : s.Bounded) :
    (gs.foldl (fun a h => a.recordFlash h x) s).Bounded := by
  induction gs generalizing s with
  | nil => exact hs
  | cons g gs ih => exact ih hs.recordFlash

theorem endFlash (hs : s.Bounded) {f : Flash} : (s.endFlash f).Bounded := by
  unfold State.endFlash
  extract_lets dl dr wantL wantR s1 s2 s3 s4 s5
  have h3 : s3.Bounded := endKeeps.endAllOrdered _ (recordAll _ _ hs.mapLamps.charge)
  have h4 : s4.Bounded := ite _ h3.notify h3
  have h5 : s5.Bounded := ite _ h4.notify h4
  exact h5.setLight

theorem flashTimerExpires (hs : s.Bounded) : s.flashTimerExpires.Bounded := by
  unfold State.flashTimerExpires
  split
  · exact hs
  · exact ite _ hs hs.endFlash

end State.Bounded

end Sys2Proof.Machine
end

section
/-! SUPPORT. The bounds under the operations that fill and empty the buffers: the bursts of the memory arbiter, the
pixel FIFOs, the drain unit's queue and buffer, the refresh owed count, the words of the DRAM. -/

namespace Sys2Proof.Machine

open Sys2Proof

theorem length_readWords (m : List Host.Cell) (i : Fin 8) (loc n : Nat) : (readWords m i loc n).length = n := by
  induction n generalizing loc with
  | zero => rfl
  | succ n ih => simp [readWords, ih]

namespace State.Bounded

variable {s t : State}

/-! ### The memory arbiter (R126, R127) -/

/-- An update of the memory: the FIFOs within their depth, no more refreshes owed, room for the words of its burst. -/
theorem setMemory (hs : s.Bounded) {m : FrameMemory} (hf : ∀ h, (m.rx.get h).fifo.length ≤ Config.fifoDepth)
    (ho : m.owed ≤ Config.refreshUrgent) (hb : ({ s with memory := m } : State).drainFits) :
    ({ s with memory := m } : State).Bounded where
  links := hs.links
  fifos := hf
  drains := hs.drains
  buffer := hb
  owed := ho
  canonical := hs.canonical

/-- An update of the memory that keeps the FIFOs and the burst in progress. -/
theorem setStandby (hs : s.Bounded) {m : FrameMemory} (hf : m.rx = s.memory.rx) (ho : m.owed ≤ s.memory.owed)
    (hb : m.burst = s.memory.burst) : ({ s with memory := m } : State).Bounded :=
  hs.setMemory (fun h => by rw [hf]; exact hs.fifos h) (ho.trans hs.owed) (hs.drainFits_of_le hb le_rfl)

theorem setEngine (hs : s.Bounded) {e} : (s.setEngine e).Bounded := hs.setStandby rfl le_rfl rfl

/-- A burst other than one of the drain brings the drain's buffer no words (R136). -/
theorem setBurst (hs : s.Bounded) {b : Option Burst} (hb : ∀ n, b ≠ some (.drain n)) : (s.setBurst b).Bounded := by
  refine hs.setMemory hs.fifos hs.owed ?_
  unfold State.drainFits
  split
  · next n h => exact absurd h (hb n)
  · exact hs.buffer_le

theorem endBurst (hs : s.Bounded) : (s.setBurst none).Bounded := hs.setBurst (by simp)

theorem grantRefresh (hs : s.Bounded) : s.grantRefresh.Bounded :=
  hs.setMemory hs.fifos ((Nat.sub_le _ _).trans hs.owed) hs.buffer_le

/-- A burst is granted to a requester that requests: one of the drain only with room for its words (R136). -/
theorem grantBurst (hs : s.Bounded) {r : Requester} (hr : s.requests r = true) : (s.grantBurst r).Bounded := by
  cases r with
  | refreshUrgent => exact hs.grantRefresh
  | refreshOwed => exact hs.grantRefresh
  | engine => exact hs.setBurst (by simp)
  | pixel h => exact (hs.setRx (List.drop_sublist _ _).length_le).setBurst (by simp)
  | drain =>
    unfold State.grantBurst
    cases ha : s.drain.active with
    | none => simp only; exact hs
    | some a =>
      have hroom : s.drain.buffer.length + a.burst ≤ Config.drainBufferWords := by
        simp only [State.requests, ha, Bool.and_eq_true, decide_eq_true_eq] at hr
        exact hr.2
      exact hs.setMemory hs.fifos hs.owed hroom

theorem decideMemory (hs : s.Bounded) : s.decideMemory.Bounded := by
  unfold State.decideMemory
  split
  · split
    · exact hs
    · next hr => exact hs.grantBurst (List.find?_some hr)
  · exact hs

/-- Both arbiters at the end of an event (R83, R126). -/
theorem arbitrate (hs : s.Bounded) (r : State) : (r.arbitrate s).Bounded :=
  have h1 : (r.decideIfPlaced s).Bounded := ite _ hs.decideLight hs
  ite _ h1.decideMemory h1

theorem refreshDone (hs : s.Bounded) : s.refreshDone.Bounded := by
  unfold State.refreshDone
  split
  · exact hs.endBurst.decideMemory
  · exact hs

/-- An expiry owes one more refresh, up to 8 (R127). -/
theorem refreshExpires (hs : s.Bounded) : s.refreshExpires.Bounded := by
  unfold State.refreshExpires
  split
  · exact hs
  · split
    · next h =>
      refine decideMemory (hs.setMemory hs.fifos ?_ (hs.drainFits_of_le rfl le_rfl))
      exact h
    · exact hs

/-! ### Retention and the engine (R128 to R131) -/

theorem enterRetention (hs : s.Bounded) : s.enterRetention.Bounded := hs.setStandby rfl (Nat.zero_le _) rfl

theorem wakeMemory (hs : s.Bounded) : s.wakeMemory.Bounded := hs.setStandby rfl (Nat.zero_le _) rfl

theorem parkMemory (hs : s.Bounded) : s.parkMemory.Bounded := ite _ hs.enterRetention (hs.setStandby rfl le_rfl rfl)

theorem engineDone (hs : s.Bounded) : s.engineDone.Bounded := ite _ hs.enterRetention hs

theorem staleBurst (hs : s.Bounded) : s.staleBurst.Bounded := ite _ hs.setEngine.engineDone hs

theorem abandonTransfer (hs : s.Bounded) : s.abandonTransfer.Bounded := by
  unfold State.abandonTransfer
  split
  · exact (hs.setBurst (by simp)).setEngine
  · exact hs.setEngine.engineDone

/-- Words written to a slot keep the DRAM's form (log 6). -/
theorem setMem (hs : s.Bounded) {i : Fin 8} {loc : Nat} {ws : List Word} :
    ({ s with mem := writeWords s.mem i loc ws } : State).Bounded :=
  ⟨hs.links, hs.fifos, hs.drains, hs.buffer, hs.owed, writeWords_wf _ _ _ _ hs.canonical⟩

theorem saveWords (hs : s.Bounded) {n} : (s.saveWords n).Bounded := by
  unfold State.saveWords
  dsimp only
  split
  · exact hs.setMem
  · exact hs

theorem saveCompleted (hs : s.Bounded) {i} : (s.saveCompleted i).Bounded := by
  unfold State.saveCompleted
  dsimp only
  split
  · exact hs.setVolume.emptyTables
  · exact hs.setVolume.emptyTables.notify

theorem restoreCompleted (hs : s.Bounded) {i x n} : (s.restoreCompleted i x n).Bounded :=
  hs.setLeaves.setExceptions.setVolume.freeSlot.setVolume.enterCradle.notify

theorem engineCompleted (hs : s.Bounded) {e} : (s.engineCompleted e).Bounded := by
  unfold State.engineCompleted
  dsimp only
  split
  · exact hs.setEngine.saveCompleted
  · exact hs.setEngine.restoreCompleted
  · exact hs.setEngine

theorem engineBurst (hs : s.Bounded) {n} : (s.engineBurst n).Bounded := by
  unfold State.engineBurst
  extract_lets e s1 e'
  have h1 : s1.Bounded := ite _ hs.saveWords hs
  exact ite _ h1.engineCompleted.engineDone h1.setEngine

/-! ### The pixel links (R116 to R124) -/

theorem handReport (hs : s.Bounded) {h i x} : (s.handReport h i x).Bounded :=
  hs.same (by simp) (by simp) (by simp) (by simp)

theorem sealFrame (hs : s.Bounded) {h x} : (s.sealFrame h x).Bounded := by
  cases hi : (s.rx h).slot with
  | none =>
    simp only [State.sealFrame, hi]
    exact hs.setRx
  | some i =>
    have hslot : (s.sealSlot h x i).Bounded := hs.setSlot.notify
    have hrx : ((s.sealSlot h x i).handReport h i ((s.rx h).sealAs x)).rx h = s.rx h := by
      simp only [State.rx, handReport_frame, sealSlot_memory, setSlot_memory_rx]
    rw [sealFrame_slotted hi]
    refine hslot.handReport.setRx ?_
    rw [hrx]
    exact le_rfl

theorem sealIfReady (hs : s.Bounded) {h} : (s.sealIfReady h).Bounded := by
  unfold State.sealIfReady
  split
  · exact ite _ hs.sealFrame hs
  · exact hs

theorem pixelBurstDone (hs : s.Bounded) {h ws} : (s.pixelBurstDone h ws).Bounded := by
  unfold State.pixelBurstDone
  split
  · exact hs.sealIfReady
  · exact hs.setMem.setSlot.sealIfReady

theorem acceptHeader (hs : s.Bounded) {h c x} : (s.acceptHeader h c x).Bounded := by
  unfold State.acceptHeader
  dsimp only
  split
  · exact hs.setRx.setCtx
  · exact hs.setSlot.setRx.setCtx

theorem headerComplete (hs : s.Bounded) {h x} : (s.headerComplete h x).Bounded := by
  unfold State.headerComplete
  split
  · exact hs.setRx.setCause.endCapture
  · exact hs.setRx
  · split
    · exact hs
    · exact hs.acceptHeader

/-- A payload word is taken only while ready is high, which leaves room for it in the FIFO (R116, R119). -/
theorem takePayload (hs : s.Bounded) {h w} : (s.takePayload h w).Bounded := by
  unfold State.takePayload
  extract_lets r r' s1
  split
  · next hp =>
    split
    · next hready =>
      have hroom : r.fifo.length < Config.fifoDepth := by
        simpa only [Receiver.ready, hp, decide_eq_true_eq] using hready
      have h1 : s1.Bounded := by
        refine hs.setMemory (fun g => ?_) hs.owed (hs.drainFits_of_le rfl le_rfl)
        change ((s.setRx h r').rx g).fifo.length ≤ _
        rw [setRx_rx]
        split
        · simpa [r', Receiver.payload] using hroom
        · exact hs.fifos g
      split
      · exact h1
      · exact h1.setSlot
    · exact hs
  · exact hs

theorem trailer_fifo (r : Receiver) (w : Word) : (r.trailer w).fifo = r.fifo := by
  unfold Receiver.trailer
  repeat' split
  all_goals rfl

theorem takeTrailer (hs : s.Bounded) {h w} : (s.takeTrailer h w).Bounded := by
  unfold State.takeTrailer
  split
  · exact (hs.setRx (by rw [trailer_fifo])).sealIfReady
  · exact hs

theorem frameLate (hs : s.Bounded) {h} : (s.frameLate h).Bounded := by
  unfold State.frameLate
  split
  · exact hs
  · exact hs.setRx.sealIfReady

/-! ### The drain unit (R133 to R144) -/

/-- An update of the drain unit: no more drains than its depth, no more words in the buffer than before. -/
theorem setDrain (hs : s.Bounded) {d : Drain}
    (hd : d.queue.length + (if d.active.isSome then 1 else 0) ≤ Config.drainDepth)
    (hb : d.buffer.length ≤ s.drain.buffer.length) : ({ s with drain := d } : State).Bounded where
  links := hs.links
  fifos := hs.fifos
  drains := hd
  buffer := hs.drainFits_of_le rfl hb
  owed := hs.owed
  canonical := hs.canonical

/-- An update of the active drain's record. -/
theorem setActive (hs : s.Bounded) {a b : ActiveDrain} (ha : s.drain.active = some a) :
    (s.setActive (some b)).Bounded :=
  hs.setDrain (by simpa [ha] using hs.drains) le_rfl

/-- The head of the queue becomes the active drain (R135): the drains held stay the same in number. -/
theorem activateDrain (hs : s.Bounded) : s.activateDrain.Bounded := by
  unfold State.activateDrain
  split
  · next hc =>
    split
    · exact hs
    · next j rest hq =>
      have hnone : s.drain.active = none := by simp_all
      have hdrains := hs.drains
      rw [hq, hnone] at hdrains
      exact hs.setSlot.setDrain (by simpa using hdrains) (Nat.zero_le _)
  · exact hs

theorem discardSide (hs : s.Bounded) {x} : (s.discardSide x).Bounded := by
  unfold State.discardSide
  split
  · exact hs
  · split
    · exact hs
    · exact hs.changeSide
    · exact hs.changeSide.evaluateSide

theorem releaseNow (hs : s.Bounded) {i d} : (s.releaseNow i d).state.Bounded := by
  unfold State.releaseNow
  dsimp only
  repeat' split
  · exact hs.freeSlot
  · exact hs
  · exact hs.freeSlot
  · exact hs
  · exact hs.discardSide.freeSlot

theorem evaluateDeferred (hs : s.Bounded) {i d} : (s.evaluateDeferred i d).state.Bounded := by
  unfold State.evaluateDeferred
  dsimp only
  split
  · exact hs.releaseNow
  · exact hs.releaseNow.setSlot

theorem notifyDropped (hs : s.Bounded) {i x d r} : (s.notifyDropped i x d r).Bounded := by
  unfold State.notifyDropped
  split
  · exact hs
  · exact hs.notify

theorem runDeferred (hs : s.Bounded) {i} : (s.runDeferred i).Bounded := by
  unfold State.runDeferred
  dsimp only
  split
  · exact hs
  · exact ite _ hs.evaluateDeferred.addException?.notifyDropped hs

theorem commitStep (hs : s.Bounded) {h c i x} : (s.commitStep h c i x).Bounded :=
  hs.setCtx.changeSide.setSlot.runDeferred

theorem commit (hs : s.Bounded) {h} : (s.commit h).Bounded := by
  unfold State.commit
  split
  · exact hs
  · split
    · exact hs.commitStep.afterCommit
    · exact hs

theorem drainReleases (hs : s.Bounded) {j x} : (s.drainReleases j x).state.Bounded := by
  unfold State.drainReleases
  dsimp only
  split
  · exact hs.freeSlot
  · split
    · exact hs.setSlot
    · split
      · exact hs
      · split
        · exact hs.evaluateDeferred
        · exact hs

/-- The drain end (R140): the active drain and its words go, and the next one begins. -/
theorem drainEnd (hs : s.Bounded) {x} : (s.drainEnd x).Bounded := by
  unfold State.drainEnd
  split
  · exact hs
  · extract_lets job idle s1 y o s2
    have h1 : s1.Bounded := hs.setDrain ((Nat.le_add_right _ _).trans hs.drains) (Nat.zero_le _)
    have ho : o.state.Bounded := h1.setSlot.drainReleases
    have h2 : s2.Bounded := ite _ ho ho.notify
    exact h2.addException?.notifyDropped.activateDrain

theorem orderDrain (hs : s.Bounded) {x} : (s.orderDrain x).Bounded := by
  unfold State.orderDrain
  split
  · exact hs
  · next ha =>
    have h1 {b} : (s.setActive (some b)).Bounded := hs.setActive ha
    exact ite _ h1 h1.drainEnd

/-- The words of a burst of the drain find the room that the burst was granted with (R136). -/
theorem drainBurstDone (hs : s.Bounded) {n} (hb : s.memory.burst = some (.drain n)) :
    ((s.setBurst none).drainBurstDone n).Bounded := by
  have hroom : s.drain.buffer.length + n ≤ Config.drainBufferWords := by
    simpa only [State.drainFits, hb] using hs.buffer
  unfold State.drainBurstDone
  split
  · exact hs.endBurst
  · next a ha =>
    extract_lets ws joined s1
    have h1 : s1.Bounded :=
      { links := hs.links, fifos := hs.fifos, owed := hs.owed, canonical := hs.canonical,
        drains := by simpa [s1, joined, show s.drain.active = some a from ha] using hs.drains,
        buffer := by simpa [State.drainFits, s1, joined, ws, length_readWords] using hroom }
    split
    · exact h1
    · exact h1.drainEnd

theorem burstDone (hs : s.Bounded) : s.burstDone.Bounded := by
  unfold State.burstDone
  split
  · exact hs
  · exact hs
  · exact hs.endBurst.pixelBurstDone.decideMemory
  · exact decideMemory (ite _ hs.endBurst.staleBurst hs.endBurst.engineBurst)
  · next hb => exact (hs.drainBurstDone hb).decideMemory

theorem removeQueued (hs : s.Bounded) {i j} : (s.removeQueued i j).Bounded := by
  have h1 {p} : ({ s with drain := { s.drain with queue := s.drain.queue.filter p } } : State).Bounded :=
    hs.setDrain ((Nat.add_le_add_right (List.length_filter_le _ _) _).trans hs.drains) le_rfl
  unfold State.removeQueued
  dsimp only
  split
  · exact h1.notify
  · split
    · exact h1.evaluateDeferred.notify.addException?.notifyDropped
    · exact h1.notify

theorem drainStop (hs : s.Bounded) {i} : (s.drainStop i).Bounded := by
  unfold State.drainStop
  repeat' split
  · exact hs
  · exact hs.orderDrain
  · exact hs.removeQueued
  · exact hs
  · exact hs.removeQueued
  · exact hs

/-- A drain accepted joins a queue with room for it (R134 check 4). -/
theorem drainAccepted (hs : s.Bounded) {i first} (hc : s.drainCheck i first = none) (j : DrainJob) :
    (({ s with drain := { s.drain with queue := s.drain.queue ++ [j] } } : State).activateDrain).Bounded := by
  refine activateDrain (hs.setDrain ?_ le_rfl)
  have hroom : ¬Config.drainDepth ≤ s.drain.queue.length + (if s.drain.active.isSome then 1 else 0) := by
    intro hfull
    unfold State.drainCheck at hc
    simp only [hfull, if_true] at hc
    split at hc
    · cases hc
    · split at hc <;> cases hc
  rw [List.length_append, List.length_singleton]
  dsimp only
  omega

theorem release (hs : s.Bounded) {i d} : (s.release i d).state.Bounded := by
  unfold State.release
  dsimp only
  split
  · exact hs
  · exact hs
  · exact hs
  · exact hs.setSlot
  · split
    · exact hs.setSlot
    · split
      · exact hs.releaseNow.addException?
      · exact hs.releaseNow.addException?

theorem takeDrainWord (hs : s.Bounded) : s.takeDrainWord.Bounded := by
  unfold State.takeDrainWord
  split
  · exact hs
  · next a ha =>
    split
    · extract_lets taken s1
      have h1 : s1.Bounded := hs.setDrain (by simpa [ha] using hs.drains) (List.drop_sublist _ _).length_le
      exact ite _ h1.drainEnd h1
    · exact hs

/-- The level of the ready input (R137). -/
theorem setReady (hs : s.Bounded) {b : Bool} : ({ s with drain := { s.drain with readyIn := b } } : State).Bounded :=
  hs.setDrain hs.drains le_rfl

theorem setStall (hs : s.Bounded) {x} : (s.setStall x).Bounded := by
  unfold State.setStall
  split
  · exact hs
  · next ha => exact ite _ hs (hs.setActive ha)

theorem stallExpires (hs : s.Bounded) : s.stallExpires.Bounded := by
  unfold State.stallExpires
  split
  · exact hs
  · exact ite _ hs.orderDrain hs

theorem resetDrain (hs : s.Bounded) : s.resetDrain.Bounded := by
  have hcleared : s.drainCleared.Bounded :=
    hs.mapSlots.setDrain (d := { s.drain with queue := [] })
      ((Nat.add_le_add_right (Nat.zero_le s.drain.queue.length) _).trans hs.drains) le_rfl
  rw [resetDrain_eq]
  exact hcleared.orderDrain

end State.Bounded

end Sys2Proof.Machine
end

section
/-! PROOFS. The bounds of the queues, FIFOs, buffers and counts, and the DRAM's canonical form, after every step (R116,
R126, R127, R133, R134, R136, R181, R188, log 6). -/

namespace Sys2Proof.Machine

open Sys2Proof

namespace State.Bounded

variable {s t : State}

/-! ### Requests and exchanges (R182 to R191) -/

/-- An update of a link's buffers other than its notices. -/
theorem setPort (hs : s.Bounded) {l : LinkId} {k : Link} (hn : k.notices = (s.link l).notices := by rfl)
    (hc : k.lost = (s.link l).lost := by rfl) : (s.setLink l k).Bounded :=
  hs.setLink (by unfold Link.bounded; rw [hn, hc]; exact hs.links l)

theorem placeResponse (hs : s.Bounded) {l r} : (s.placeResponse l r).Bounded := ite _ hs.setPort hs.setPort

/-- A request keeps the bounds when the block that owns it does. -/
theorem ask (hs : s.Bounded) {c : Instr} {act : State → Reply} (hact : ∀ r, r.Bounded → (act r).state.Bounded) :
    (s.ask c act).Bounded := by
  have taken {l f} : (s.takeRequest l f act).Bounded := by
    refine placeResponse ?_
    unfold State.dispatch
    repeat' split
    · exact hs.setPort
    · exact hs.setPort
    · exact hs.setPort
    · exact hact _ hs.setPort
  unfold State.ask
  split
  · exact hs
  · exact arbitrate (ite _ hs.setPort (ite _ hs.setPort (ite _ taken hs.setPort))) _

/-- A request that changes nothing but its link. -/
theorem askRead (hs : s.Bounded) {c : Instr} {act : State → Reply} (hact : ∀ r, (act r).state = r) :
    (s.ask c act).Bounded :=
  hs.ask fun r hr => by rw [hact]; exact hr

theorem portReset (hs : s.Bounded) {l} : (s.portReset l).Bounded := by
  have emptied {k : Link} (hn : k.notices = []) (hl : k.lost = 0) : (s.setLink l k).Bounded :=
    hs.setLink ⟨by simp [hn], by simp [hl]⟩
  exact ite _ (emptied rfl rfl) (emptied rfl rfl).placeResponse

theorem selectRises (hs : s.Bounded) {l} : (s.selectRises l).Bounded := by
  unfold State.selectRises
  extract_lets k
  split
  · exact hs
  · next e _ =>
    have hk : k.bounded l := hs.links l
    have h2 : ({ k with exchange := none }.settleOut e).bounded l :=
      Link.settleOut_bounded (k := { k with exchange := none }) hk e
    dsimp only
    split
    · exact hs.setLink hk
    · split
      · exact hs.setLink h2
      · exact hs.setLink h2
      · exact hs.setLink h2
      · exact ite _ (hs.setLink h2).portReset (hs.setLink (Link.offer_bounded h2 _))

/-! ### The opening controller (R12, R20 to R24, R34 to R41) -/

theorem seekTo (hs : s.Bounded) {n} : (s.seekTo n).state.Bounded := by
  unfold State.seekTo
  split
  · exact hs
  · exact ite _ hs.setOpening hs.setOpening.evaluate

theorem resyncTo (hs : s.Bounded) {n} : (s.resyncTo n).state.Bounded := by
  unfold State.resyncTo
  split
  · exact hs
  · exact hs.setOpening.enterSettling

theorem parkCradle (hs : s.Bounded) : s.parkCradle.Bounded := hs.endClaims.setOpening.mapLamps.parkMemory

theorem wakeCradle (hs : s.Bounded) : s.wakeCradle.Bounded := by
  unfold State.wakeCradle
  extract_lets o s1 _ s2 s3
  have h2 : s2.Bounded := by
    dsimp only [s2]
    split
    · exact hs.setOpening.enterSettling
    · exact hs.setOpening.setOpening
  have h3 : s3.Bounded := h2.mapLamps.wakeMemory.activateDrain
  exact ite _ h3.decideMemory h3

theorem addDoubleTurn (hs : s.Bounded) {n} : (s.addDoubleTurn n).Bounded := hs.addException.addException

theorem moveTo (hs : s.Bounded) {k} : (s.moveTo k).Bounded := hs.setOpening.enterSettling

theorem applyCount (hs : s.Bounded) {d n} : (s.applyCount d n).Bounded := by
  unfold State.applyCount
  dsimp only
  split
  · exact hs.addException.enterSettling
  · exact hs.moveTo
  · exact hs.moveTo
  · exact ite _ hs.addDoubleTurn.moveTo hs.enterFault
  · exact ite _ hs.addDoubleTurn.moveTo hs.enterFault
  · exact hs.enterFault

theorem endTurn (hs : s.Bounded) {n} : (s.endTurn n).Bounded := hs.setOpening.applyCount

theorem settleExpires (hs : s.Bounded) : s.settleExpires.Bounded := by
  unfold State.settleExpires
  split
  · exact hs.setOpening.takeEvaluated.startWaiting
  · exact hs

theorem turnExpires (hs : s.Bounded) : s.turnExpires.Bounded := by
  unfold State.turnExpires
  split
  · exact hs.enterFault
  · exact hs

/-! ### The cradle reset (R24, R131, R163, R189) -/

theorem emptyAllNotices (hs : s.Bounded) : s.emptyAllNotices.Bounded := by
  refine hs.update (fun l => ?_) (fun _ => le_rfl) le_rfl rfl rfl rfl
  cases l with
  | S => exact Link.emptyNotices_bounded (hs.links .S)
  | V => exact Link.emptyNotices_bounded (hs.links .V)
  | R => exact Link.emptyNotices_bounded (hs.links .R)
  | A => exact Link.emptyNotices_bounded (hs.links .A)

theorem resetOpening (hs : s.Bounded) : s.resetOpening.Bounded := by
  unfold State.resetOpening
  split
  · exact hs
  · exact ite _ hs.enterFault hs
  · exact hs.enterFault

theorem resetVolumes (hs : s.Bounded) : s.resetVolumes.Bounded := by
  unfold State.resetVolumes
  dsimp only
  split
  · exact hs
  · split
    · split
      · exact hs.abandonTransfer.setVolume.setOpening
      · exact hs.abandonTransfer.freeSlot.setVolume.setOpening
    · exact hs.abandonTransfer.setVolume.emptyTables

/-! ### The volume requests (R151 to R162) -/

theorem mountPending (hs : s.Bounded) {i k} : (s.mountPending i k).Bounded :=
  hs.setLeaves.setExceptions.setVolume.enterCradle

theorem resume (hs : s.Bounded) {i x} : (s.resume i x).Bounded := by
  unfold State.resume
  dsimp only
  split
  · exact hs.setVolume
  · exact hs.setVolume.setEngine

theorem mount (hs : s.Bounded) {i x} : (s.mount i x).state.Bounded := by
  unfold State.mount
  dsimp only
  repeat' split
  · exact hs
  · exact hs
  · exact hs
  · exact hs.mountPending
  · exact hs
  · exact hs.resume
  · exact hs

theorem suspend (hs : s.Bounded) {i x} : (s.suspend i x).Bounded := hs.setSlot.setVolume.enterIdle.setEngine

theorem dropImage (hs : s.Bounded) {i} : (s.dropImage i).Bounded := by
  unfold State.dropImage
  dsimp only
  split
  · exact hs.setVolume.notify
  · exact hs.freeSlot.setVolume.notify

theorem closeMounted (hs : s.Bounded) {i} : (s.closeMounted i).Bounded :=
  hs.endClaims.enterIdle.setVolume.notify.emptyTables

theorem close (hs : s.Bounded) {i} : (s.close i).state.Bounded := by
  unfold State.close
  repeat' split
  · exact hs
  · exact hs
  · exact hs
  · exact hs.closeMounted
  · exact hs.dropImage.setVolume
  · exact hs

theorem clear (hs : s.Bounded) {i} : (s.clear i).state.Bounded := by
  unfold State.clear
  dsimp only
  split
  · exact hs
  · split
    · exact hs
    · exact setVolume (ite _ hs.dropImage hs)

/-! ### Every step -/

theorem tick (hs : s.Bounded) : s.tick.Bounded where
  links := hs.links
  fifos
    | .left => hs.fifos .left
    | .right => hs.fifos .right
  drains := by simpa [State.tick] using hs.drains
  buffer := hs.buffer
  owed := hs.owed
  canonical := hs.canonical

/-- Power-on reset (R25). -/
theorem powerOn (q : List Instr) (b : Bool) :
    ({ State.reset with pending := q, drain := { Drain.reset with readyIn := b } } : State).Bounded :=
  (reset_bounded.setReady (b := b)).same rfl rfl rfl rfl

/-- The commands that a link's request brings (R184). -/
theorem exec_request (hs : s.Bounded) {c : Instr} (hc : frameOf c ≠ none) (he : exec c s = .next t) : t.Bounded := by
  cases c with
  | portReset => cases he; exact hs.portReset
  | poll | ident | lampSetStatus => cases he; exact hs.askRead fun r => rfl
  | lampSetRead | programSetRead | slotStatus =>
    cases he
    refine hs.askRead fun r => ?_
    split <;> rfl
  | readVolume | readVolumeShelfMark =>
    cases he
    refine hs.askRead fun r => ?_
    unfold State.readVolume
    (repeat' split) <;> rfl
  | readLeaf =>
    cases he
    refine hs.askRead fun r => ?_
    (repeat' split) <;> rfl
  | doseQuery =>
    cases he
    refine hs.askRead fun r => ?_
    unfold State.doseQuery
    dsimp only
    (repeat' split) <;> rfl
  | requestKindUnknown =>
    cases he
    exact ite _ hs (hs.askRead fun r => rfl)
  | readExceptions =>
    cases he
    refine hs.ask fun r hr => ?_
    repeat' split
    · exact hr
    · exact hr
    · exact hr.setExceptions
  | setTiming | setBudget =>
    cases he
    refine hs.ask fun r hr => ?_
    dsimp only
    repeat' split
    · exact hr
    · exact hr
    · exact hr.setVolume
  | register =>
    cases he
    refine hs.ask fun r hr => ?_
    repeat' split
    · exact hr
    · exact hr
    · exact hr
    · exact hr.setVolume
  | mount =>
    cases he
    refine hs.ask fun r hr => ?_
    split
    · exact hr
    · exact hr.mount
  | suspend =>
    cases he
    refine hs.ask fun r hr => ?_
    repeat' split
    · exact hr
    · exact hr
    · exact hr
    · exact hr
    · exact hr
    · exact hr
    · exact hr.suspend
  | close =>
    cases he
    refine hs.ask fun r hr => ?_
    split
    · exact hr
    · exact hr.close
  | clear =>
    cases he
    refine hs.ask fun r hr => ?_
    split
    · exact hr
    · exact hr.clear
  | reshoot | exempt | acceptSide => cases he; exact hs.ask fun r hr => hr.mark
  | seek =>
    cases he
    refine hs.ask fun r hr => ?_
    split
    · exact hr
    · exact hr
    · exact hr
    · exact hr.seekTo
  | resync =>
    cases he
    refine hs.ask fun r hr => ?_
    repeat' split
    · exact hr
    · exact hr.resyncTo
    · exact hr.resyncTo
    · exact hr
    · exact hr
  | abortOpening =>
    cases he
    refine hs.ask fun r hr => ?_
    split
    · exact hr
    · exact hr
    · exact hr
    · exact hr
    · exact hr.abortOpening
  | park =>
    cases he
    refine hs.ask fun r hr => ?_
    repeat' split
    · exact hr
    · exact hr
    · exact hr
    · exact hr
    · exact hr.parkCradle
  | wake =>
    cases he
    refine hs.ask fun r hr => ?_
    split
    · exact hr.wakeCradle
    · exact hr
  | cradleReset => cases he; exact hs.ask fun r hr => hr.emptyAllNotices.resetOpening.resetVolumes.resetDrain
  | turnAsk =>
    cases he
    refine hs.ask fun r hr => ?_
    split
    · exact hr.setOpening
    all_goals exact hr
  | turnBegin =>
    cases he
    refine hs.ask fun r hr => ?_
    split
    · exact hr
    · exact hr.takeCause
  | turnEnd =>
    cases he
    refine hs.ask fun r hr => ?_
    repeat' split
    · exact hr
    · exact hr.endTurn
    · exact hr
    · exact hr
  | armFault => cases he; exact hs.ask fun r hr => hr.setOpening.takeCause
  | lampSetWrite =>
    cases he
    refine hs.ask fun r hr => ?_
    repeat' split
    · exact hr
    · exact hr.setLamp.decideLight
    · exact hr
  | programSetWrite =>
    cases he
    refine hs.ask fun r hr => ?_
    repeat' split
    · exact hr
    · exact hr.setProgram
    · exact hr
  | drainOpen =>
    cases he
    refine hs.ask fun r hr => ?_
    repeat' split
    · exact hr
    · next hcheck => exact hr.drainAccepted hcheck _
    · exact hr
  | drainStop =>
    cases he
    refine hs.ask fun r hr => ?_
    split
    · exact hr
    · exact hr.drainStop
  | release =>
    cases he
    refine hs.ask fun r hr => ?_
    split
    · exact hr.release
    · exact hr
    · exact hr
  | claim =>
    cases he
    refine hs.ask fun r hr => ?_
    repeat' split
    · exact hr
    · exact hr.testAndSet
    · exact hr
  | unclaim =>
    cases he
    refine hs.ask fun r hr => ?_
    split
    · exact hr
    · exact hr.unclaim
  | cancel =>
    cases he
    refine hs.ask fun r hr => ?_
    split
    · exact hr
    · exact hr.cancel
  | capture =>
    cases he
    refine hs.ask fun r hr => ?_
    repeat' split
    · exact hr
    · exact hr
    · exact hr
    · exact hr.tryCapture
  | _ => exact absurd rfl hc

/-- The events: power-on reset, the bytes of the links, the pixel and drain links, the timers, the lamps and the
memory. -/
theorem exec_event (hs : s.Bounded) {c : Instr} (hc : frameOf c = none) (he : exec c s = .next t) : t.Bounded := by
  cases c with
  | powerOnReset => cases he; exact powerOn _ _
  | selectRising => cases he; exact hs.selectRises
  | selectFalling l => cases he; exact hs.setLink (Link.selectFalls_bounded (hs.links l))
  | byteClocked l => cases he; exact hs.setLink (Link.clock_bounded (hs.links l) _ _)
  | frameHeader =>
    cases he
    refine arbitrate ?_ _
    split
    · exact ite _ hs.headerComplete hs
    · exact hs
  | huntWord | headerWord =>
    cases he
    split
    · exact ite _ hs.setRx hs
    · exact hs
  | readyFalling => cases he; exact ite _ hs.setReady.setStall hs
  | readyRising => cases he; exact ite _ hs hs.setReady.setStall
  | payloadWord => cases he; exact arbitrate hs.takePayload _
  | trailerWord => cases he; exact arbitrate hs.takeTrailer _
  | frameCompleteLimitExpiry => cases he; exact arbitrate hs.frameLate _
  | commit => cases he; exact arbitrate hs.commit _
  | frameStartLimitExpiry => cases he; exact arbitrate hs.frameMissing _
  | partnerWaitLimitExpiry => cases he; exact arbitrate hs.partnerLate _
  | slotWaitLimitExpiry => cases he; exact arbitrate hs.slotWaitEnds _
  | claimLifetimeExpiry => cases he; exact arbitrate hs.claimExpires _
  | settleExpiry => cases he; exact arbitrate hs.settleExpires _
  | turnTimerExpiry => cases he; exact arbitrate hs.turnExpires _
  | confirmWindowClose => cases he; exact arbitrate hs.windowCloses _
  | flashEnd => cases he; exact arbitrate hs.flashTimerExpires _
  | interFlashGapExpiry => cases he; exact arbitrate hs.gapExpires _
  | rechargeExpiry => cases he; exact arbitrate hs.rechargeExpires _
  | burstCompletion => cases he; exact arbitrate hs.burstDone _
  | drainWordTaken => cases he; exact arbitrate hs.takeDrainWord _
  | stallTimerExpiry => cases he; exact arbitrate hs.stallExpires _
  | confirmInput => cases he; exact hs.confirmRises
  | refreshCompletion => cases he; exact hs.refreshDone
  | refreshTimerExpiry => cases he; exact hs.refreshExpires
  | _ => cases hc

theorem exec (hs : s.Bounded) {c : Instr} (he : exec c s = .next t) : t.Bounded :=
  if hc : frameOf c = none then hs.exec_event hc he else hs.exec_request hc he

end State.Bounded

/-- Settles O58: each operation keeps the bounds, those that fill a buffer by the check that they make before; every
command comes to such operations, and the idle step changes no buffer. -/
theorem boundedKept : Obligations.BoundedKept := by
  intro s t hs he
  unfold step at he
  split at he
  · cases he; exact hs.tick
  · next rest _ => exact State.Bounded.exec (s := { s with pending := rest }) (hs.same rfl rfl rfl rfl) he

end Sys2Proof.Machine
end

section
/-! PROOFS. The words of a frame after its header (R119 to R122): payload, trailer and the frame complete limit. -/

namespace Sys2Proof.Machine

open Sys2Proof

/-! ### A payload word (R119) -/

section
variable {s : State} {h : Half} {w : Word}

/-- With a burst or a refresh in progress the memory arbiter grants nothing. -/
theorem decideIfBegan_busy {s t : State} (hb : t.memory.burst ≠ none) : s.decideIfBegan t = t := by
  have hdecide : t.decideMemory = t := if_neg (by simp [State.memFree, hb])
  unfold State.decideIfBegan
  rw [hdecide, ite_self]

/-- The state with a payload word taken: the receiver, and the CRC that its slot shows (R114, log 13). -/
def State.payloadTaken (s : State) (h : Half) (w : Word) : State :=
  match (s.rx h).slot with
  | none => s.setRx h ((s.rx h).payload w)
  | some i =>
    (s.setRx h ((s.rx h).payload w)).setSlot i
      { s.slot i with crcComputed := ((s.rx h).payload w).crc.map (~~~ ·) }

theorem payloadTaken_unslotted (hn : (s.rx h).slot = none) :
    s.payloadTaken h w = s.setRx h ((s.rx h).payload w) := by
  simp only [State.payloadTaken, hn]

theorem payloadTaken_slotted {i : Fin 8} (hi : (s.rx h).slot = some i) :
    s.payloadTaken h w =
      (s.setRx h ((s.rx h).payload w)).setSlot i
        { s.slot i with crcComputed := ((s.rx h).payload w).crc.map (~~~ ·) } := by
  simp only [State.payloadTaken, hi]

theorem takePayload_taken (hs : (s.rx h).state = .payload) (hroom : (s.rx h).fifo.length < 2048) :
    s.takePayload h w = s.payloadTaken h w := by
  have hready : (s.rx h).ready = true := by simp only [Receiver.ready, hs]; exact decide_eq_true hroom
  simp only [State.takePayload, hs, hready, if_true]
  rfl

theorem takePayload_discarded (hn : (s.rx h).state ≠ .payload ∨ 2048 ≤ (s.rx h).fifo.length) :
    s.takePayload h w = s := by
  unfold State.takePayload
  dsimp only
  split
  · next hs =>
    have hfull : ¬(s.rx h).fifo.length < 2048 := Nat.not_lt.2 (hn.resolve_left (· hs))
    exact if_neg (by simp only [Receiver.ready, hs]; exact mt of_decide_eq_true hfull)
  · rfl

theorem payloadTaken_light : (s.payloadTaken h w).light = s.light := by
  unfold State.payloadTaken
  split <;> rfl

theorem payloadTaken_burst : (s.payloadTaken h w).memory.burst = s.memory.burst := by
  unfold State.payloadTaken
  split <;> rfl

/-- A payload word makes no other requester begin than the FIFO it enters. -/
theorem payloadTaken_requests (r : Requester) (hr : (s.payloadTaken h w).requests r = true) :
    s.requests r = true ∨ r = .pixel h := by
  have hrx (g : Half) : (s.payloadTaken h w).rx g = if g = h then (s.rx h).payload w else s.rx g := by
    rw [← setRx_rx]
    unfold State.payloadTaken
    split <;> rfl
  have hrest : (s.payloadTaken h w).memory.owed = s.memory.owed ∧
      (s.payloadTaken h w).memory.engine = s.memory.engine ∧ (s.payloadTaken h w).drain = s.drain := by
    unfold State.payloadTaken
    split <;> exact ⟨rfl, rfl, rfl⟩
  obtain ⟨howed, hengine, hdrain⟩ := hrest
  cases r with
  | pixel g =>
    by_cases hg : g = h
    · exact .inr (by rw [hg])
    · exact .inl (by simpa only [State.requests, hrx, if_neg hg] using hr)
  | _ => exact .inl (by simpa only [State.requests, howed, hengine, hdrain] using hr)

/-- The arbiters change nothing when the FIFO held words already, or a burst is in progress. -/
theorem payloadTaken_arbitrate (hq : (s.rx h).fifo ≠ [] ∨ s.memory.burst ≠ none) :
    s.arbitrate (s.payloadTaken h w) = s.payloadTaken h w := by
  obtain hf | hb := hq
  · refine arbitrate_eq (by simp [payloadTaken_light]) fun r hr => ?_
    obtain hr | rfl := payloadTaken_requests r hr
    · exact hr
    · simpa [State.requests] using hf
  · rw [arbitrate_of_held (congrArg Light.held payloadTaken_light)]
    exact decideIfBegan_busy (by rw [payloadTaken_burst]; exact hb)

end

/-! ### The trailer and the limit (R121, R122) -/

section
variable {s : State} {h : Half} {w : Word}

/-- A receiver that stays in TRAILER does not seal, and begins nothing at the arbiters. -/
theorem arbitrate_unsealed {r : Receiver} (hs : r.state = .trailer) (hf : r.fifo = (s.rx h).fifo) :
    s.arbitrate ((s.setRx h r).sealIfReady h) = s.setRx h r := by
  have hwait : (s.setRx h r).sealIfReady h = s.setRx h r := by
    simp only [State.sealIfReady, setRx_rx, if_true, hs]
  rw [hwait, arbitrate_setRx hf]

theorem takeTrailer_trailer (hs : (s.rx h).state = .trailer) :
    s.takeTrailer h w = (s.setRx h ((s.rx h).trailer w)).sealIfReady h := by
  simp only [State.takeTrailer, hs]

theorem takeTrailer_other (hs : (s.rx h).state ≠ .trailer) : s.takeTrailer h w = s := by
  unfold State.takeTrailer
  split
  · next ht => exact absurd ht hs
  · rfl

variable {r : Receiver}

theorem trailer_marker (hm : r.marker = false) (hw : w = 0x0FA5) : r.trailer w = { r with marker := true } := by
  subst hw
  simp only [Receiver.trailer, hm, Config.endMarker, Bool.not_false, if_true]

theorem trailer_damagedLength (hm : r.marker = false) (hw : w ≠ 0x0FA5) :
    r.trailer w = r.beginSealing .damagedLength := by
  simp only [Receiver.trailer, hm, Config.endMarker, Bool.not_false, if_true, hw, if_false]

theorem trailer_crcHigh (hm : r.marker = true) (hc : r.crcHigh = none) :
    r.trailer w = { r with crcHigh := some w } := by
  simp [Receiver.trailer, hm, hc]

/-- The second CRC word decides the check result (R121). -/
theorem trailer_crcLow {high : Word} (hm : r.marker = true) (hc : r.crcHigh = some high) :
    r.trailer w =
      ({ r with crcReceived := some (crcFrom high w) } : Receiver).beginSealing
        (if r.crc.map (~~~ ·) = some (crcFrom high w) then .good else .damagedCrc) := by
  simp [Receiver.trailer, hm, hc]

theorem frameLate_stopped (hl : (s.rx h).limit = none) : s.frameLate h = s := by
  simp only [State.frameLate, hl]

theorem frameLate_running (hl : (s.rx h).limit ≠ none) :
    s.frameLate h = (s.setRx h ((s.rx h).beginSealing .damagedTimeout)).sealIfReady h := by
  obtain ⟨n, hn⟩ := Option.ne_none_iff_exists'.1 hl
  simp only [State.frameLate, hn]

end

/-- The check values of R120. -/
theorem crcOf_checkValues : crcOf [0xFFFF] = 0xFFFF0000 ∧ crcOf [0xFFFF, 0xFFFF] = 0xFFFFFFFF := by
  decide +kernel

/-- Settles O40: each word by the receiver's state and what it holds. -/
theorem payloadAndTrailer : Obligations.PayloadAndTrailer := by
  refine ⟨crcOf_checkValues, fun h w s => ?_⟩
  have idle {t : State} (ht : t = s) : s.arbitrate t = s := by rw [ht]; exact arbitrate_same rfl rfl rfl
  refine ⟨⟨fun hn => congrArg _ (idle (takePayload_discarded hn)), fun hs hroom => ?_⟩,
    ⟨fun hn => congrArg _ (idle (takeTrailer_other hn)), fun hs => ?_⟩,
    fun hl => congrArg _ (idle (frameLate_stopped hl)), fun hl => congrArg _ (congrArg _ (frameLate_running hl))⟩
  · have htaken : exec (.payloadWord h w) s = .next (s.arbitrate (s.payloadTaken h w)) :=
      congrArg _ (congrArg _ (takePayload_taken hs hroom))
    exact ⟨s.payloadTaken h w, htaken, fun hn => payloadTaken_unslotted hn, fun i hi => payloadTaken_slotted hi,
      fun hq => htaken.trans (congrArg _ (payloadTaken_arbitrate hq))⟩
  · have htrailer : exec (.trailerWord h w) s =
        .next (s.arbitrate ((s.setRx h ((s.rx h).trailer w)).sealIfReady h)) := by
      have htake : exec (.trailerWord h w) s = .next (s.arbitrate (s.takeTrailer h w)) := rfl
      rw [htake, takeTrailer_trailer hs]
    have received {r : Receiver} (hr : (s.rx h).trailer w = r) :
        exec (.trailerWord h w) s = .next (s.arbitrate ((s.setRx h r).sealIfReady h)) := by rw [htrailer, hr]
    exact ⟨fun hm hw => (received (trailer_marker hm hw)).trans (congrArg _ (arbitrate_unsealed hs rfl)),
      fun hm hw => received (trailer_damagedLength hm hw),
      fun hm hc => (received (trailer_crcHigh hm hc)).trans (congrArg _ (arbitrate_unsealed hs rfl)),
      fun high hm hc => received (trailer_crcLow hm hc)⟩

end Sys2Proof.Machine
end

section
/-! PROOFS. The save image (R129, R130, R196): every record reads back from its bytes, whatever bytes follow. -/

namespace Sys2Proof.Machine

open Sys2Proof

/-! ### Numbers and codes -/

theorem be_two (v : Nat) : be 2 v = [BitVec.ofNat 8 (v / 256), BitVec.ofNat 8 v] := by simp [be]

theorem be_four (v : Nat) :
    be 4 v =
      [BitVec.ofNat 8 (v / 16777216), BitVec.ofNat 8 (v / 65536), BitVec.ofNat 8 (v / 256), BitVec.ofNat 8 v] := by
  simp [be]

theorem ofBe_two {v : Nat} (h : v ≤ 65535) : ofBe [BitVec.ofNat 8 (v / 256), BitVec.ofNat 8 v] = v := by
  rw [← be_two, ofBe_be]
  omega

theorem ofBe_four {v : Nat} (h : v < 2 ^ 32) :
    ofBe [BitVec.ofNat 8 (v / 16777216), BitVec.ofNat 8 (v / 65536), BitVec.ofNat 8 (v / 256), BitVec.ofNat 8 v] =
      v := by
  rw [← be_four, ofBe_be]
  omega

theorem toNat_b1 {n : Nat} (h : n ≤ 255) : (b1 n).toNat = n := by
  simp only [b1, BitVec.toNat_ofNat]
  omega

theorem unFF_noneFF {x : Option Nat} (h : ∀ n, x = some n → n ≤ 254) : unFF (noneFF x) = x := by
  cases x with
  | none => rfl
  | some n =>
    have hn := h n rfl
    have hb : (b1 n).toNat = n := toNat_b1 (by omega)
    have hne : b1 n ≠ 0xFF := fun he => by
      have := congrArg BitVec.toNat he
      rw [hb] at this
      simp at this
      omega
    simp only [noneFF, unFF, if_neg hne, hb]

theorem finOf_finByte (i : Option (Fin 8)) : (unFF (finByte i)).bind (finOf 8) = i := by
  cases i with
  | none => rfl
  | some i =>
    have hi := i.isLt
    rw [finByte, unFF_noneFF (by simp; omega)]
    exact finOf_eq rfl

theorem nameOf_sideState (x : SideState) : nameOf SideState.code allSideStates (b1 x.code) = some x := by
  cases x <;> decide

theorem nameOf_outcome (x : CaptureOutcome) : nameOf CaptureOutcome.code allOutcomes (b1 x.code) = some x := by
  cases x <;> decide

theorem nameOf_excKind (x : ExcKind) : nameOf ExcKind.code allExcKinds (b1 x.code) = some x := by
  cases x <;> decide

theorem nameOf_seal (x : Option Seal) : nameOf Seal.code allSeals (sealByte x) = x := by
  cases x with
  | none => decide
  | some x => cases x <;> decide

theorem nameOf_prior (x : Option Undone) :
    nameOf Undone.code [.wanted, .reshoot] (noneFF (x.map Undone.code)) = x := by
  cases x with
  | none => decide
  | some x => cases x <;> decide

theorem owner_ownerCode (x : Option Half) :
    (if ownerCode x = 1 then some Half.left else if ownerCode x = 2 then some .right else none) = x := by
  cases x with
  | none => decide
  | some x => cases x <;> decide

/-! ### Rows of records of one size -/

/-- A reader that reads one block of `k` bytes after another reads back a row of blocks of that size. -/
theorem read_flatMap {α : Type} {k : Nat} {write : α → List Byte} {read : List Byte → α}
    {readAll : Nat → List Byte → List α} (hzero : ∀ b, readAll 0 b = [])
    (hsucc : ∀ n b, readAll (n + 1) b = read b :: readAll n (b.drop k)) {xs : List α}
    (hlen : ∀ x ∈ xs, (write x).length = k) (hread : ∀ x ∈ xs, ∀ rest, read (write x ++ rest) = x)
    (rest : List Byte) : readAll xs.length (xs.flatMap write ++ rest) = xs := by
  induction xs with
  | nil => exact hzero _
  | cons x xs ih =>
    obtain ⟨hx, hlen⟩ := List.forall_mem_cons.1 hlen
    obtain ⟨hrx, hread⟩ := List.forall_mem_cons.1 hread
    rw [List.length_cons, hsucc, List.flatMap_cons, List.append_assoc, hrx, List.drop_left' hx, ih hlen hread]

theorem length_flatMap_of {α : Type} {k : Nat} {write : α → List Byte} {xs : List α}
    (hlen : ∀ x ∈ xs, (write x).length = k) : (xs.flatMap write).length = k * xs.length := by
  rw [List.length_flatMap, List.map_congr_left hlen, List.map_const', List.sum_replicate, smul_eq_mul, Nat.mul_comm]

/-! ### A capture summary (R64, R193) -/

theorem stepOfBytes_bytes {x : StepSummary} (h : x.storable) (rest : List Byte) :
    stepOfBytes (x.bytes ++ rest) = x := by
  obtain ⟨hstep, hlevel⟩ := h
  obtain ⟨step, slot, sealStatus, level, dimmed, clamped⟩ := x
  have hflags : ∀ n ≤ 8, ∀ d c : Bool,
      let b := b1 (n % 16 + (if d then 64 else 0) + (if c then 128 else 0))
      b.toNat % 16 = n ∧ b.getLsbD 6 = d ∧ b.getLsbD 7 = c := by decide
  obtain ⟨hs, hd, hc⟩ := hflags step hstep dimmed clamped
  simp only [stepOfBytes, StepSummary.bytes, byteAt, List.cons_append, List.getElem?_cons_zero,
    List.getElem?_cons_succ, Option.getD_some, hs, hd, hc, finOf_finByte, nameOf_seal, toNat_b1 hlevel]

theorem length_step (x : StepSummary) : x.bytes.length = 4 := rfl

theorem summaryOfBytes_bytes {x : Option Summary} (h : ∀ y, x = some y → y.storable) (rest : List Byte) :
    summaryOfBytes (summaryBytes x ++ rest) = x := by
  cases x with
  | none => rfl
  | some x =>
    obtain ⟨hid, hprogram, hcount, hsteps, hdose⟩ := h x rfl
    have hread : stepsOfBytes x.steps.length (x.steps.flatMap StepSummary.bytes ++ rest) = x.steps :=
      read_flatMap (fun _ => rfl) (fun _ _ => rfl) (fun y _ => length_step y)
        (fun y hy => stepOfBytes_bytes (hsteps y hy)) rest
    have hdiscarded : (bitsByte [x.dimmedAny, x.discarded]).getLsbD 1 = x.discarded := by
      cases x.dimmedAny <;> cases x.discarded <;> rfl
    simp only [summaryOfBytes, summaryBytes, Summary.bytes, be_two, be_four, byteAt, field, List.cons_append,
      List.nil_append, List.getElem?_cons_zero, List.getElem?_cons_succ, Option.getD_some, List.drop_succ_cons,
      List.drop_zero, List.take_succ_cons, List.take_zero, nameOf_outcome, Option.map_some,
      ofBe_two hid, ofBe_four hdose, toNat_b1 (hcount.trans (by decide)), hread, hdiscarded,
      unFF_noneFF fun p hp => (hprogram p hp).trans (by decide)]

theorem length_summaryBytes {x : Option Summary} (h : ∀ y, x = some y → y.storable) :
    (summaryBytes x).length ≤ 42 := by
  cases x with
  | none => decide
  | some x =>
    obtain ⟨-, -, hcount, -⟩ := h x rfl
    simp only [summaryBytes, Summary.bytes, List.length_append, length_be, List.length_cons, List.length_nil,
      length_flatMap_of fun y _ => length_step y]
    omega

/-! ### Sides and leaves (R166, R167) -/

section
variable {r : SideRec}

theorem length_side (h : r.storable) : r.imageBytes.length = 48 := by
  obtain ⟨-, -, hsummary⟩ := h
  have := length_summaryBytes hsummary
  simp only [SideRec.imageBytes, SideRec.bytes, List.length_append, List.length_replicate, List.length_cons,
    List.length_nil]
  omega

theorem sideOfBytes_image (h : r.storable) (rest : List Byte) : sideOfBytes (r.imageBytes ++ rest) = r := by
  obtain ⟨hreason, hcaptures, hsummary⟩ := h
  simp only [sideOfBytes, SideRec.imageBytes, SideRec.bytes, byteAt, List.cons_append, List.nil_append,
    List.append_assoc, List.getElem?_cons_zero, List.getElem?_cons_succ, Option.getD_some, List.drop_succ_cons,
    List.drop_zero, nameOf_sideState, owner_ownerCode, nameOf_prior, summaryOfBytes_bytes hsummary,
    toNat_b1 (hcaptures.trans (by decide)), unFF_noneFF fun n hn => (hreason n hn).trans (by decide)]

end

section
variable {e : LeafEntry}

theorem length_leaf (hr : e.recto.storable) (hv : e.verso.storable) : e.imageBytes.length = 100 := by
  simp only [LeafEntry.imageBytes, List.length_append, length_be, length_side hr, length_side hv]

theorem leafOfBytes_image (hd : e.dose < 2 ^ 32) (hr : e.recto.storable) (hv : e.verso.storable) (rest : List Byte) :
    leafOfBytes (e.imageBytes ++ rest) = e := by
  have hdose : field (e.imageBytes ++ rest) 0 4 = e.dose := by
    simp only [LeafEntry.imageBytes, be_four, field, List.cons_append, List.nil_append, List.append_assoc,
      List.drop_zero, List.take_succ_cons, List.take_zero, ofBe_four hd]
  have hrecto : (e.imageBytes ++ rest).drop 4 = e.recto.imageBytes ++ (e.verso.imageBytes ++ rest) := by
    simp only [LeafEntry.imageBytes, List.append_assoc]
    exact List.drop_left' (length_be 4 _)
  have hverso : (e.imageBytes ++ rest).drop 52 = e.verso.imageBytes ++ rest := by
    rw [LeafEntry.imageBytes, List.append_assoc]
    exact List.drop_left' (by rw [List.length_append, length_be, length_side hr])
  simp only [leafOfBytes, hdose, hrecto, hverso, sideOfBytes_image hr, sideOfBytes_image hv]

end

/-! ### Exception records and counts (R148, R177) -/

theorem length_exc (x : ExcRecord) : x.bytes.length = 10 := by
  obtain ⟨kind, _ | ⟨f, j⟩, opening, id, slot, extra⟩ := x <;> rfl

/-- A record reads back when its side does, whatever three bytes hold the side. -/
theorem excOfBytes_of_side {x : ExcRecord} {b rest : List Byte} {c hi lo : Byte} (h : x.storable)
    (hb : b = b1 x.kind.code :: c :: hi :: lo :: (be 2 x.opening ++ idBytes x.captureId ++
      [finByte x.slot, b1 x.extra] ++ rest))
    (hs : (faceOfCode c).map (fun f => (f, ofBe [hi, lo])) = x.side) : excOfBytes b = x := by
  obtain ⟨-, hopening, hid, hextra⟩ := h
  obtain ⟨kind, side, opening, id, slot, extra⟩ := x
  have hcapture : (if id.getD 0 = 0 then none else some (id.getD 0)) = id := by
    cases id with
    | none => rfl
    | some n => exact if_neg (Nat.one_le_iff_ne_zero.1 (hid n rfl).1)
  have hword : id.getD 0 ≤ 65535 := by
    cases id with
    | none => exact Nat.zero_le _
    | some n => exact (hid n rfl).2
  simp only [hb, excOfBytes, idBytes, be_two, byteAt, field, List.cons_append, List.nil_append,
    List.getElem?_cons_zero, List.getElem?_cons_succ, Option.getD_some, List.drop_succ_cons, List.drop_zero,
    List.take_succ_cons, List.take_zero, nameOf_excKind, finOf_finByte, ofBe_two (hopening.trans (by decide)),
    ofBe_two hword, hcapture, toNat_b1 (hextra.trans (by decide)), hs]

theorem excOfBytes_bytes {x : ExcRecord} (h : x.storable) (rest : List Byte) : excOfBytes (x.bytes ++ rest) = x := by
  obtain ⟨kind, side, opening, id, slot, extra⟩ := x
  cases side with
  | none => exact excOfBytes_of_side h rfl rfl
  | some p =>
    obtain ⟨f, j⟩ := p
    have hj : j ≤ 65535 := (h.1 f j rfl).trans (by decide)
    refine excOfBytes_of_side (c := b1 f.code) (hi := BitVec.ofNat 8 (j / 256)) (lo := BitVec.ofNat 8 j)
      (rest := rest) h ?_ ?_
    · simp only [ExcRecord.bytes, be_two, List.cons_append, List.nil_append]
    · rw [ofBe_two hj]
      cases f <;> rfl

theorem countsOfBytes_bytes {c : SideCounts} (h : ∀ x, c.get x ≤ 8192) (rest : List Byte) :
    countsOfBytes (countsBytes c ++ rest) = c := by
  have fits (x : SideState) : c.get x ≤ 65535 := (h x).trans (by decide)
  simp only [countsOfBytes, countsBytes, be_two, field, List.cons_append, List.nil_append, List.drop_succ_cons,
    List.drop_zero, List.take_succ_cons, List.take_zero, ofBe_two (v := c.wanted) (fits .wanted),
    ofBe_two (v := c.claimed) (fits .claimed), ofBe_two (v := c.capturing) (fits .capturing),
    ofBe_two (v := c.captured) (fits .captured), ofBe_two (v := c.reshoot) (fits .reshoot),
    ofBe_two (v := c.exempt) (fits .exempt), ofBe_two (v := c.held) (fits .held)]

/-! ### The image -/

theorem length_imageHeader (n : Nat) (counts : SideCounts) (lost records : Nat) :
    (imageHeader n counts lost records).length = 20 := rfl

/-- The fields of the header read back. -/
theorem field_imageHeader {n lost records : Nat} (hn : n ≤ 65535) (hl : lost ≤ 65535) (hr : records ≤ 65535)
    (counts : SideCounts) (rest : List Byte) :
    let b := imageHeader n counts lost records ++ rest
    field b 0 2 = n ∧ field b 16 2 = lost ∧ field b 18 2 = records := by
  simp only [imageHeader, countsBytes, be_two, field, List.cons_append, List.nil_append, List.drop_succ_cons,
    List.drop_zero, List.take_succ_cons, List.take_zero, ofBe_two hn, ofBe_two hl, ofBe_two hr, and_self]

theorem drop_imageHeader (n : Nat) (counts : SideCounts) (lost records : Nat) (rest : List Byte) :
    (imageHeader n counts lost records ++ rest).drop 2 = countsBytes counts ++ (be 2 lost ++ be 2 records ++ rest) := by
  simp only [imageHeader, List.append_assoc]
  exact List.drop_left' (length_be 2 n)

/-- The bytes whose words are the image. -/
def imageBytes (v : Volume) (leaves : List LeafEntry) (exceptions : List ExcRecord) : List Byte :=
  imageHeader v.n v.counts v.excLost exceptions.length ++
    (leaves.flatMap LeafEntry.imageBytes ++ exceptions.flatMap ExcRecord.bytes)

section
variable {v : Volume} {leaves : List LeafEntry} {exceptions : List ExcRecord}

theorem imageWords_eq : imageWords v leaves exceptions = wordsOf (imageBytes v leaves exceptions) :=
  congrArg wordsOf (List.append_assoc _ _ _)

theorem Storable.length_leaf (h : Storable v leaves exceptions) : ∀ e ∈ leaves, e.imageBytes.length = 100 := by
  intro e he
  obtain ⟨-, hr, hv⟩ := h.entries e he
  exact Machine.length_leaf hr hv

theorem length_leaves (h : Storable v leaves exceptions) :
    (leaves.flatMap LeafEntry.imageBytes).length = 100 * v.n := by
  rw [length_flatMap_of h.length_leaf, h.size.1]

theorem length_imageBytes (h : Storable v leaves exceptions) :
    (imageBytes v leaves exceptions).length = 20 + (100 * v.n + 10 * exceptions.length) := by
  rw [imageBytes, List.length_append, List.length_append, length_leaves h, length_imageHeader,
    length_flatMap_of fun x _ => length_exc x]

theorem field_imageBytes (h : Storable v leaves exceptions) :
    let b := imageBytes v leaves exceptions
    field b 0 2 = v.n ∧ field b 16 2 = v.excLost ∧ field b 18 2 = exceptions.length :=
  field_imageHeader (h.size.2.trans (by decide)) (h.lost.trans (by decide)) (h.records.1.trans (by decide)) _ _

theorem leavesOfBytes_imageBytes (h : Storable v leaves exceptions) :
    leavesOfBytes v.n ((imageBytes v leaves exceptions).drop 20) = leaves := by
  rw [imageBytes, List.drop_left' (length_imageHeader ..), ← h.size.1]
  refine read_flatMap (fun _ => rfl) (fun _ _ => rfl) h.length_leaf (fun e he => ?_) _
  obtain ⟨hd, hr, hv⟩ := h.entries e he
  exact leafOfBytes_image hd hr hv

theorem excsOfBytes_imageBytes (h : Storable v leaves exceptions) :
    excsOfBytes exceptions.length ((imageBytes v leaves exceptions).drop (20 + 100 * v.n)) = exceptions := by
  rw [← List.drop_drop, imageBytes, List.drop_left' (length_imageHeader ..), List.drop_left' (length_leaves h),
    ← List.append_nil (exceptions.flatMap _)]
  exact read_flatMap (fun _ => rfl) (fun _ _ => rfl) (fun x _ => length_exc x)
    (fun x hx => excOfBytes_bytes (h.records.2 x hx)) []

theorem countsOfBytes_imageBytes (h : Storable v leaves exceptions) :
    countsOfBytes ((imageBytes v leaves exceptions).drop 2) = v.counts := by
  rw [imageBytes, drop_imageHeader]
  exact countsOfBytes_bytes h.counts _

end

/-- Settles O57: the bytes are the words taken in pairs, and each part reads back from where the parts before it
end. -/
theorem imageRoundTrip : Obligations.ImageRoundTrip := by
  intro v leaves exceptions h
  have hlen := length_imageBytes h
  obtain ⟨hn, hlost, hrecords⟩ := field_imageBytes h
  refine ⟨by rw [imageWords_eq, length_wordsOf _ (by omega)]; omega, ?_⟩
  rw [imageWords_eq, readImage, bytesOf_wordsOf _ (by omega)]
  simp only [hn, hlost, hrecords, leavesOfBytes_imageBytes h, excsOfBytes_imageBytes h, countsOfBytes_imageBytes h]

end Sys2Proof.Machine
end

section
/-! PROOFS. The memory arbiter (R126) and the refresh timer (R127): who requests, who is first, what is granted. -/

namespace Sys2Proof.Machine

open Sys2Proof

section
variable {s : State}

/-! ### Who requests -/

theorem requests_refreshUrgent : s.requests .refreshUrgent = true ↔ 8 ≤ s.memory.owed := decide_eq_true_iff

theorem requests_refreshOwed : s.requests .refreshOwed = true ↔ 1 ≤ s.memory.owed := decide_eq_true_iff

theorem requests_pixel (h : Half) : s.requests (.pixel h) = true ↔ (s.rx h).fifo ≠ [] := by
  simp [State.requests]

theorem requests_engine :
    s.requests .engine = true ↔
      s.memory.engine.state ≠ .idle ∧ s.memory.engine.abandoned = false ∧ 0 < s.memory.engine.left := by
  simp [State.requests, and_assoc]

theorem requests_drain :
    s.requests .drain = true ↔
      ∃ a, s.drain.active = some a ∧ a.ordered = none ∧ 0 < a.unread ∧
        s.drain.buffer.length + min 64 a.unread ≤ 128 := by
  cases ha : s.drain.active with
  | none => simp [State.requests, ha]
  | some a =>
    simp only [State.requests, ha, Bool.and_eq_true, decide_eq_true_eq, Option.isNone_iff_eq_none, and_assoc,
      Option.some.injEq, exists_eq_left']
    rfl

/-! ### Who is granted -/

theorem memFree_iff : s.memFree = true ↔ s.memory.burst = none ∧ s.memory.mode ≠ .retention := by
  simp [State.memFree]

theorem decideMemory_of_busy (h : s.memory.burst ≠ none ∨ s.memory.mode = .retention) : s.decideMemory = s := by
  refine if_neg fun hf => ?_
  obtain ⟨hb, hm⟩ := memFree_iff.1 hf
  exact h.elim (· hb) hm

/-- The first requester in the priority order is granted. -/
theorem decideMemory_of_first (hf : s.memFree = true) {r : Requester} (before after : List Requester)
    (hr : s.requests r = true) (hbefore : ∀ x ∈ before, ¬s.requests x = true)
    (horder : requesters = before ++ r :: after) : s.decideMemory = s.grantBurst r := by
  have hfind : requesters.find? s.requests = some r :=
    List.find?_eq_some_iff_append.2 ⟨hr, before, after, horder, by simpa using hbefore⟩
  simp only [State.decideMemory, hf, if_true, hfind]

theorem decideMemory_of_none (h : ∀ r, ¬s.requests r = true) : s.decideMemory = s := by
  have hfind : requesters.find? s.requests = none := List.find?_eq_none.2 fun r _ => h r
  simp only [State.decideMemory, hfind, ite_self]

end

/-- The five rows of the priority order, from the requests of a free arbiter. -/
theorem decideMemory_priority {s : State} (hf : s.memFree = true) :
    (8 ≤ s.memory.owed → s.decideMemory = s.grantRefresh) ∧
    (s.memory.owed < 8 →
      ((s.rx .left).fifo ≠ [] → s.decideMemory = s.grantBurst (.pixel .left)) ∧
      ((s.rx .left).fifo = [] → (s.rx .right).fifo ≠ [] → s.decideMemory = s.grantBurst (.pixel .right)) ∧
      ((s.rx .left).fifo = [] → (s.rx .right).fifo = [] →
        (s.requests .engine = true → s.decideMemory = s.grantBurst .engine) ∧
        (¬s.requests .engine = true →
          (s.requests .drain = true → s.decideMemory = s.grantBurst .drain) ∧
          (¬s.requests .drain = true → 1 ≤ s.memory.owed → s.decideMemory = s.grantRefresh) ∧
          (¬s.requests .drain = true → s.memory.owed = 0 → s.decideMemory = s)))) := by
  refine ⟨fun ho => decideMemory_of_first hf [] _ (requests_refreshUrgent.2 ho) (by simp) rfl, fun ho => ?_⟩
  have hurgent : ¬s.requests .refreshUrgent = true := mt requests_refreshUrgent.1 (Nat.not_le.2 ho)
  refine ⟨fun hl => decideMemory_of_first hf [_] _ ((requests_pixel _).2 hl) (by simpa using hurgent) rfl,
    fun hl hr => ?_, fun hl hr => ?_⟩
  · have hleft : ¬s.requests (.pixel .left) = true := mt (requests_pixel _).1 (not_not.2 hl)
    exact decideMemory_of_first hf [_, _] _ ((requests_pixel _).2 hr) (by simp [hurgent, hleft]) rfl
  · have hleft : ¬s.requests (.pixel .left) = true := mt (requests_pixel _).1 (not_not.2 hl)
    have hright : ¬s.requests (.pixel .right) = true := mt (requests_pixel _).1 (not_not.2 hr)
    refine ⟨fun he => decideMemory_of_first hf [_, _, _] _ he (by simp [hurgent, hleft, hright]) rfl, fun he => ?_⟩
    refine ⟨fun hd => decideMemory_of_first hf [_, _, _, _] _ hd (by simp [hurgent, hleft, hright, he]) rfl,
      fun hd h1 => ?_, fun hd h0 => ?_⟩
    · exact decideMemory_of_first hf [_, _, _, _, _] _ (requests_refreshOwed.2 h1)
        (by simp [hurgent, hleft, hright, he, hd]) rfl
    · have howed : ¬s.requests .refreshOwed = true := mt requests_refreshOwed.1 (by omega)
      refine decideMemory_of_none fun r => ?_
      cases r with
      | refreshUrgent => exact hurgent
      | pixel h =>
        cases h with
        | left => exact hleft
        | right => exact hright
      | engine => exact he
      | drain => exact hd
      | refreshOwed => exact howed

/-- The burst of a drain that is granted (R136). -/
theorem grantBurst_drain {s : State} {a : ActiveDrain} (ha : s.drain.active = some a) :
    s.grantBurst .drain = s.setBurst (some (.drain (min 64 a.unread))) := by
  simp only [State.grantBurst, ha]
  rfl

/-! ### The refresh timer and operation -/

section
variable {s : State}

theorem refreshDone_of_refresh (h : s.memory.burst = some .refresh) :
    s.refreshDone = (s.setBurst none).decideMemory := by
  simp only [State.refreshDone, h]

theorem refreshDone_of_other (h : s.memory.burst ≠ some .refresh) : s.refreshDone = s := by
  unfold State.refreshDone
  split
  · next hb => exact absurd hb h
  · rfl

theorem refreshExpires_none (h : s.memory.refreshTimer = none ∨ 8 ≤ s.memory.owed) : s.refreshExpires = s := by
  unfold State.refreshExpires
  split
  · rfl
  · next n hn =>
    have ho : 8 ≤ s.memory.owed := h.resolve_left (by simp [hn])
    exact if_neg (Nat.not_lt.2 ho)

/-- The state with one more refresh owed and the timer started again (R127). -/
def State.owing (s : State) : State :=
  { s with memory := { s.memory with owed := s.memory.owed + 1, refreshTimer := some 78 } }

theorem refreshExpires_running (ht : s.memory.refreshTimer ≠ none) (ho : s.memory.owed < 8) :
    s.refreshExpires = s.owing.decideMemory := by
  obtain ⟨n, hn⟩ := Option.ne_none_iff_exists'.1 ht
  simp only [State.refreshExpires, hn]
  exact if_pos ho

end

/-- Settles O42: the rows of the priority order, then the two refresh commands. -/
theorem memoryArbiter : Obligations.MemoryArbiter := by
  refine ⟨fun s => ⟨decideMemory_of_busy, fun hb hm => ?_⟩, fun s => ⟨?_, ?_, ?_, ?_⟩⟩
  · obtain ⟨hurgent, hrows⟩ := decideMemory_priority (memFree_iff.2 ⟨hb, hm⟩)
    refine ⟨hurgent, fun ho => ?_⟩
    obtain ⟨hleft, hright, hrest⟩ := hrows ho
    refine ⟨hleft, hright, fun hl hr => ?_⟩
    obtain ⟨hengine, hrest⟩ := hrest hl hr
    rw [requests_engine] at hengine hrest
    refine ⟨hengine, fun he => ?_⟩
    obtain ⟨hdrain, howed, hnone⟩ := hrest he
    rw [requests_drain] at hdrain howed hnone
    exact ⟨fun a ha hreads => (hdrain hreads).trans (grantBurst_drain ha), howed, hnone⟩
  · exact fun h => congrArg _ (refreshDone_of_other h)
  · exact fun h => congrArg _ (refreshDone_of_refresh h)
  · exact fun h => congrArg _ (refreshExpires_none h)
  · intro ht ho
    have hsame := decideMemory_same s.owing
    refine ⟨congrArg _ (refreshExpires_running ht ho), hsame.owed.trans ho, hsame.timer, fun hb hm h7 => ?_⟩
    have hfree : s.owing.memFree = true := memFree_iff.2 ⟨hb, hm⟩
    have hgrant : s.owing.decideMemory = s.owing.grantRefresh :=
      (decideMemory_priority hfree).1 (by show 8 ≤ s.memory.owed + 1; omega)
    exact ⟨congrArg (·.memory.burst) hgrant, (congrArg (·.memory.owed) hgrant).trans h7⟩

end Sys2Proof.Machine
end

section
/-! PROOFS. CLEAR (R162): the frames of a volume, a slot freed of its image, the entry EMPTY. -/

namespace Sys2Proof.Machine

open Sys2Proof

/-! ### The frames of a volume -/

theorem mem_framesOf {s : State} {i : Fin 16} {x : Fin 8} :
    x ∈ s.framesOf i ↔
      ((s.slot x).state = .sealed ∨ (s.slot x).state = .draining) ∧ (s.slot x).volume = some i := by
  simp [State.framesOf, State.frameSlots, mem_allSlots, and_comm]

theorem length_framesOf (s : State) (i : Fin 16) :
    (s.framesOf i).length =
      (List.finRange 8).countP fun x =>
        decide (((s.slot x).state = .sealed ∨ (s.slot x).state = .draining) ∧ (s.slot x).volume = some i) := by
  rw [State.framesOf, State.frameSlots, List.filter_filter, ← List.countP_eq_length_filter, allSlots_eq]
  simp only [Bool.decide_and, Bool.and_comm]

theorem framesOf_sorted (s : State) (i : Fin 16) : (s.framesOf i).Pairwise (· < ·) :=
  ((by decide : allSlots.Pairwise (· < ·)).filter _).filter _

/-- The list of a volume's frames begins with the lowest. -/
theorem framesOf_head {s : State} {i : Fin 16} {x : Fin 8} (hx : x ∈ s.framesOf i)
    (hl : ∀ y, y < x → y ∉ s.framesOf i) : ∃ xs, s.framesOf i = x :: xs := by
  have hsorted := framesOf_sorted s i
  cases hf : s.framesOf i with
  | nil => rw [hf] at hx; exact absurd hx List.not_mem_nil
  | cons y ys =>
    rw [hf] at hx hl hsorted
    obtain rfl | hmem := List.mem_cons.1 hx
    · exact ⟨ys, rfl⟩
    · exact absurd List.mem_cons_self (hl y (List.rel_of_pairwise_cons hsorted hmem))

/-! ### A slot freed by an operation that changes little else -/

section
variable {s u t : State} {x : Fin 8}

/-- With no capture that waits, the slot is FREE and the arbiters have nothing to decide. -/
theorem freed_unwaited (hu : s.keeps u [.capture, .light, .memory]) (hcapture : t.capture = (u.freeSlot x).capture)
    (hlight : t.light = (u.freeSlot x).light) (hmem : t.memory = (u.freeSlot x).memory) (hdrain : t.drain = s.drain)
    (hw : s.capture.waitOrder = []) :
    s.arbitrate t = t ∧ t.slot x = Slot.free ∧ (∀ y, y ≠ x → t.slot y = s.slot y) ∧
      s.keeps t [.capture, .light] := by
  obtain ⟨huc, hul, hum⟩ : u.capture = s.capture ∧ u.light = s.light ∧ u.memory = s.memory := by
    simpa [State.keeps, Part.same] using hu
  rw [freeSlot_nil (s := u) (huc ▸ hw)] at hcapture hlight hmem
  have hslots (y : Fin 8) : t.slot y = if y = x then Slot.free else s.slot y :=
    (congrArg (fun m => m.slots[y]) hmem).trans
      ((setSlot_slot u x y .free).trans (by simp only [State.slot, hum]))
  replace hlight : t.light = s.light := hlight.trans hul
  replace hcapture : t.capture = s.capture := hcapture.trans huc
  have hslotsOnly : t.memory = { s.memory with slots := t.memory.slots } := hum ▸ slotsOnly_of_eq hmem rfl
  exact ⟨arbitrate_slots hlight hdrain hslotsOnly, (hslots x).trans (if_pos rfl),
    fun y hy => (hslots y).trans (if_neg hy), by simpa [State.keeps, Part.same] using ⟨hcapture, hlight⟩⟩

/-- The only FREE slot is bound to the oldest capture that waits, and its light request is placed (R112). -/
theorem freed_waited (hcapture : t.capture = (s.freeSlot x).capture) (hlight : t.light = (s.freeSlot x).light)
    (hmem : t.memory = (s.freeSlot x).memory) {h : Half} {rest : List Half} {c : Ctx}
    (hw : s.capture.waitOrder = h :: rest) (hx : ∀ y, y ≠ x → (s.slot y).state ≠ .free) (hc : s.ctx h = some c)
    (hl : c.linked = false) :
    t.ctx h = some { c with slot := some x, state := .waitLight, slotTimer := none } ∧
      t.slot x = s.opened h c ∧ (∀ y, y ≠ x → t.slot y = s.slot y) ∧ t.capture.waitOrder = rest ∧
      t.light = { s.light with held := s.light.held ++ [c.request h] } := by
  rw [freeSlot_cons hw hx hc hl] at hcapture hlight hmem
  have hctx : t.ctx h = some { c with slot := some x, state := .waitLight, slotTimer := none } :=
    (congrArg (fun q => q.ctxs.get h) hcapture).trans ((setCtx_ctx _ h h _).trans (if_pos rfl))
  have hslots (y : Fin 8) : t.slot y = if y = x then s.opened h c else s.slot y := by
    refine (congrArg (fun m => m.slots[y]) hmem).trans ((setSlot_slot _ x y _).trans ?_)
    split
    · rfl
    · next hy => exact (setSlot_slot s x y _).trans (if_neg hy)
  exact ⟨hctx, (hslots x).trans (if_pos rfl), fun y hy => (hslots y).trans (if_neg hy),
    congrArg Capture.waitOrder hcapture, hlight⟩

end

/-! ### CLEAR -/

theorem Passes.clear (index : Byte) : Passes (.clear .S index) .S ⟨0x14, [index]⟩ :=
  ⟨rfl, ⟨_, rfl, rfl⟩, rfl, by simp [Config.maxRequestBody]⟩

theorem exec_clear (index : Byte) (s : State) :
    ∃ act, exec (.clear .S index) s = .next (s.ask (.clear .S index) act) ∧
      ∀ t : State,
        (finOf 16 index.toNat = none → act t = t.refuse .range) ∧
        ∀ i, finOf 16 index.toNat = some i → act t = t.clear i := by
  refine ⟨_, rfl, fun t => ?_⟩
  simp +contextual

section
variable {s : State} {i : Fin 16}

/-- The checks of a CLEAR in order (R162). -/
theorem clear_refused
    (h : ¬((s.volume i).state = .pending ∨ (s.volume i).state = .suspended ∨ (s.volume i).state = .closed)) :
    s.clear i = s.refuse .state := by
  rw [not_or, not_or] at h
  exact if_pos h

theorem clear_framesHeld {x : Fin 8} {xs : List (Fin 8)}
    (h : (s.volume i).state = .pending ∨ (s.volume i).state = .suspended ∨ (s.volume i).state = .closed)
    (hf : s.framesOf i = x :: xs) :
    s.clear i = ⟨s, .framesHeld, [b1 x.val, b1 (s.framesOf i).length]⟩ := by
  have hstate :
      ¬((s.volume i).state ≠ .pending ∧ (s.volume i).state ≠ .suspended ∧ (s.volume i).state ≠ .closed) := by
    tauto
  unfold State.clear
  dsimp only
  rw [if_neg hstate, hf]

theorem clear_unused (h : (s.volume i).state = .pending ∨ (s.volume i).state = .closed) (hf : s.framesOf i = []) :
    s.clear i = ⟨s.clearEntry i, .ok, (s.clearEntry i).volumeStatus i⟩ := by
  obtain h | h := h <;> simp [State.clear, h, hf]

theorem clear_suspended (h : (s.volume i).state = .suspended) (hf : s.framesOf i = []) :
    s.clear i = ⟨(s.dropImage i).clearEntry i, .ok, ((s.dropImage i).clearEntry i).volumeStatus i⟩ := by
  simp [State.clear, h, hf]

variable {x : Fin 8}

/-- A SUSPENDED entry cleared: the figures (R148, R161). -/
theorem clearSuspended_account (h : (s.volume i).saveSlot = some x) :
    ((s.dropImage i).clearEntry i).account.leaves = s.account.leaves ∧
    ((s.dropImage i).clearEntry i).account.exceptions = s.account.exceptions ∧
    ∀ j, ((s.dropImage i).clearEntry i).volume j = if j = i then Volume.empty else s.volume j := by
  refine ⟨by simp [State.clearEntry, dropImage_eq h], by simp [State.clearEntry, dropImage_eq h], fun j => ?_⟩
  rw [State.clearEntry, setVolume_volume]
  split
  · rfl
  · next hj => rw [dropImage_volume, if_neg hj]

/-- A SUSPENDED entry cleared: its image's slot is freed and its report queued, and nothing else changes (R162). -/
theorem clearSuspended_blocks (h : (s.volume i).saveSlot = some x) :
    s.keeps ((s.dropImage i).clearEntry i) [.opening, .mem, .drain, .pending] ∧
    ((s.dropImage i).clearEntry i).capture = (s.freeSlot x).capture ∧
    ((s.dropImage i).clearEntry i).light = (s.freeSlot x).light ∧
    ((s.dropImage i).clearEntry i).memory = (s.freeSlot x).memory ∧
    ∀ l, ((s.dropImage i).clearEntry i).link l =
      if l = .S then (s.link .S).push (noticeDepth .S) (.closeReport (s.suspendedReport i)) else s.link l := by
  rw [dropImage_eq h, State.clearEntry]
  refine ⟨by simp [State.keeps, Part.same], by simp, by simp, by simp, fun l => ?_⟩
  have hl (m : LinkId) : (s.freeSlot x).link m = s.link m := congrArg (Links.get · m) (freeSlot_frame s x).2.2.2.2.1
  rw [setVolume_link, notify_link, setVolume_link, setVolume_link, hl, hl]

end

/-- Settles O51. -/
theorem clear : Obligations.Clear := by
  intro index s h
  obtain ⟨act, hexec, hact⟩ := exec_clear index s
  obtain ⟨hrange, hentry⟩ := hact (s.taken .S 0x14)
  have hc := Passes.clear index
  dsimp only
  rw [hexec]
  refine ⟨fun hn => congrArg _ (hc.pure h (hrange (finOf_none hn))), fun i hi => ?_⟩
  have hclear := hentry i (finOf_eq hi)
  have hnone (hf : ∀ x, ¬(((s.slot x).state = .sealed ∨ (s.slot x).state = .draining) ∧
      (s.slot x).volume = some i)) : (s.taken .S 0x14).framesOf i = [] :=
    List.eq_nil_iff_forall_not_mem.2 fun x hx => hf x (mem_framesOf.1 hx)
  refine ⟨fun hv => congrArg _ (hc.pure h (hclear.trans (clear_refused hv))), fun x hv hx hl => ?_,
    fun hv hf => ?_, fun x hv hf hx => ?_⟩
  · obtain ⟨xs, hxs⟩ := framesOf_head (s := s.taken .S 0x14) (mem_framesOf.2 hx) fun y hy =>
      mt mem_framesOf.1 (hl y hy)
    have hheld := clear_framesHeld (s := s.taken .S 0x14) hv hxs
    rw [length_framesOf] at hheld
    exact congrArg _ (hc.pure h (hclear.trans hheld))
  · have hm := hclear.trans (clear_unused (s := s.taken .S 0x14) hv (hnone hf))
    rw [hc.quiet h hm rfl rfl rfl rfl]
    exact congrArg _ (answered_taken (s := s.setVolume i .empty) h _ _ _)
  · have hm := hclear.trans (clear_suspended (s := s.taken .S 0x14) hv (hnone hf))
    obtain ⟨hleaves, hexc, hvol⟩ := clearSuspended_account (s := s.taken .S 0x14) hx
    obtain ⟨hkeeps, hcapture, hlight, hmem, hlink⟩ := clearSuspended_blocks (s := s.taken .S 0x14) hx
    have hS := (hlink .S).trans (if_pos rfl)
    refine ⟨_, congrArg _ (hc.reply h hm ?_), answered_hasAnswer ?_ _ _ _, (hvol i).trans (if_pos rfl),
      fun j hj => (hvol j).trans (if_neg hj), hleaves, hexc, ?_, fun l hl => ?_,
      keeps_answered (keeps_of_taken hkeeps (by simp)) (by simp), ?_, fun hw => ?_, fun g rest hw hy c hg hl => ?_⟩
    · rw [hS]; simp
    · rw [hS]; simp
    · rw [answered_link, if_pos rfl, hS, notify_link, if_pos rfl]
      exact push_notices_congr (k := s.link .S) (k' := (s.taken .S 0x14).link .S) rfl _ _
    · rw [answered_link, if_neg hl, hlink, if_neg hl, taken_link, if_neg hl]
    · exact slotsOnly_of_eq hmem (freeSlot_memory (s.taken .S 0x14) x)
    · exact freed_unwaited (u := s.taken .S 0x14) (by simp [State.keeps, Part.same]) hcapture hlight hmem
        (hkeeps .drain (by simp)) hw
    · exact freed_waited (s := s.taken .S 0x14) hcapture hlight hmem hw hy hg hl

end Sys2Proof.Machine
end

section
/-! PROOFS. The bursts that complete (R119, R126, R129 to R131, R136, R157, R159). -/

namespace Sys2Proof.Machine

open Sys2Proof

/-! ### The arbiters after a burst -/

theorem SameButBurst.trans {s t u : State} (h : SameButBurst s t) (h' : SameButBurst t u) : SameButBurst s u :=
  ⟨keeps_of_frame h.blocks h'.blocks (fun _ hp => hp), h'.slots.trans h.slots, h'.engine.trans h.engine,
    h'.mode.trans h.mode, h'.timer.trans h.timer, h'.owed.trans h.owed⟩

theorem SameButBurst.mem {s t : State} (h : SameButBurst s t) : t.mem = s.mem := h.blocks .mem (by simp)

/-- Parts that the memory arbiter leaves are kept through it. -/
theorem SameButBurst.keeps {s t u : State} (h : SameButBurst t u) {ps : List Part} (hk : s.keeps t ps)
    (hps : Part.memory ∉ ps) : s.keeps u ps :=
  keeps_of_frame hk h.blocks fun p hp => by
    cases p
    case memory => exact absurd hp hps
    all_goals simp

/-- A grant takes words from the front of a FIFO, if it takes any. -/
theorem grantBurst_fifo (s : State) (r : Requester) (g : Half) :
    ∃ n, ((s.grantBurst r).rx g).fifo = (s.rx g).fifo.drop n := by
  cases r with
  | pixel k =>
    by_cases hg : g = k
    · subst hg
      exact ⟨64, congrArg Receiver.fifo ((setRx_rx s g g _).trans (if_pos rfl))⟩
    · exact ⟨0, congrArg Receiver.fifo ((setRx_rx s k g _).trans (if_neg hg))⟩
  | drain =>
    refine ⟨0, ?_⟩
    unfold State.grantBurst
    dsimp only
    split <;> rfl
  | _ => exact ⟨0, rfl⟩

/-- Whoever requests after the arbiter's decision requested before it: a grant takes from its requester alone. -/
theorem requests_decideMemory {s : State} {r : Requester} (h : s.decideMemory.requests r = true) :
    s.requests r = true := by
  have hsame := decideMemory_same s
  have howed := hsame.owed
  have hfifo (g : Half) : ∃ n, (s.decideMemory.rx g).fifo = (s.rx g).fifo.drop n := by
    unfold State.decideMemory
    split
    · split
      · exact ⟨0, rfl⟩
      · exact grantBurst_fifo s _ g
    · exact ⟨0, rfl⟩
  cases r with
  | refreshUrgent => exact requests_refreshUrgent.2 ((requests_refreshUrgent.1 h).trans howed)
  | pixel g =>
    obtain ⟨n, hn⟩ := hfifo g
    refine (requests_pixel g).2 fun hnil => (requests_pixel g).1 h ?_
    rw [hn, hnil, List.drop_nil]
  | engine => simpa only [State.requests, hsame.engine] using h
  | drain => simpa only [State.requests, hsame.drain] using h
  | refreshOwed => exact requests_refreshOwed.2 ((requests_refreshOwed.1 h).trans howed)

/-- A burst whose end places no light request leaves the arbiters the memory alone. -/
theorem exec_burst {s u : State} (hd : s.burstDone = u.decideMemory) (hl : u.light = s.light) :
    ∃ t, exec .burstCompletion s = .next t ∧ SameButBurst u t := by
  have hsame := decideMemory_same u
  refine ⟨s.arbitrate u.decideMemory, congrArg _ (congrArg _ hd), hsame.trans (arbitrate_sameButBurst ?_)⟩
  rw [hsame.light, hl]

/-! ### Pixel bursts (R119, R124) -/

section
variable {s : State} {h : Half}

/-- A seal leaves the words received of every slot. -/
theorem sealIfReady_words (i : Fin 8) : ((s.sealIfReady h).slot i).words = (s.slot i).words := by
  unfold State.sealIfReady
  split
  · split
    · unfold State.sealFrame
      dsimp only
      split
      · rfl
      · next x hx =>
        rw [setRx_slot]
        simp only [State.slot, handReport_frame, notify_frame]
        change ((s.setSlot x _).slot i).words = _
        rw [setSlot_slot]
        split
        · next hi => rw [hi]
        · rfl
    · rfl
  · rfl

variable {i : Fin 8} {ws : List Word}

/-- The state with the words of a pixel burst written to its slot. -/
def State.pixelWritten (s : State) (i : Fin 8) (ws : List Word) : State :=
  ({ s with mem := writeWords s.mem i (s.slot i).words ws } : State).setSlot i
    { s.slot i with words := (s.slot i).words + ws.length }

theorem pixelBurstDone_eq (hi : (s.rx h).slot = some i) :
    s.pixelBurstDone h ws = (s.pixelWritten i ws).sealIfReady h := by
  simp only [State.pixelBurstDone, hi]
  rfl

theorem burstDone_pixel (hb : s.memory.burst = some (.pixel h ws)) (hi : (s.rx h).slot = some i) :
    s.burstDone = (((s.setBurst none).pixelWritten i ws).sealIfReady h).decideMemory := by
  simp only [State.burstDone, hb]
  rw [pixelBurstDone_eq (s := s.setBurst none) hi]

end

/-! ### Bursts of the engine (R129 to R131) -/

section
variable {s : State} {n : Nat}

theorem burstDone_engine (hb : s.memory.burst = some (.engine n false)) :
    s.burstDone = ((s.setBurst none).engineBurst n).decideMemory := by
  simp only [State.burstDone, hb]
  rfl

theorem burstDone_stale (hb : s.memory.burst = some (.engine n true)) :
    s.burstDone = (s.setBurst none).staleBurst.decideMemory := by
  simp only [State.burstDone, hb]
  rfl

theorem burstDone_drain (hb : s.memory.burst = some (.drain n)) :
    s.burstDone = ((s.setBurst none).drainBurstDone n).decideMemory := by
  simp only [State.burstDone, hb]

/-- The engine's record with the words of a burst moved. -/
def Engine.moved (e : Engine) (n : Nat) : Engine := { e with left := e.left - n }

variable {x : Fin 8} {i : Fin 16}

/-- The words of a save burst, written to the slot (R129). -/
def State.saved (s : State) (x : Fin 8) (i : Fin 16) (n : Nat) : State :=
  let done := s.memory.engine.length - s.memory.engine.left
  { s with mem := writeWords s.mem x done (((s.saveImage i).drop done).take n) }

theorem saveWords_eq (hx : s.memory.engine.slot = some x) (hi : s.moving = some i) :
    s.saveWords n = s.saved x i n := by
  simp only [State.saveWords, hx, hi]
  rfl

theorem engineBurst_saving (he : s.memory.engine.state = .saving) (hx : s.memory.engine.slot = some x)
    (hi : s.moving = some i) :
    s.engineBurst n =
      if s.memory.engine.left ≤ n then (((s.saved x i n).setEngine .idle).saveCompleted i).engineDone
      else (s.saved x i n).setEngine (s.memory.engine.moved n) := by
  have hmoving : (s.saved x i n).moving = some i := hi
  unfold State.engineBurst
  simp only [he, if_true, saveWords_eq hx hi, Nat.sub_eq_zero_iff_le]
  split
  · rw [engineCompleted_saving hmoving rfl]
  · rw [← he]; rfl

theorem engineBurst_restoring (he : s.memory.engine.state = .restoring) (hx : s.memory.engine.slot = some x)
    (hi : s.moving = some i) :
    s.engineBurst n =
      if s.memory.engine.left ≤ n then
        ((s.setEngine .idle).restoreCompleted i x s.memory.engine.length).engineDone
      else s.setEngine (s.memory.engine.moved n) := by
  unfold State.engineBurst
  simp only [he, reduceCtorEq, if_false, Nat.sub_eq_zero_iff_le]
  split
  · exact congrArg State.engineDone (engineCompleted_restoring hi rfl hx)
  · rw [← he]; rfl

end

/-! ### A save completes (R157) -/

section
variable {s : State} {i : Fin 16}

theorem engineDone_mode (h : s.memory.mode = .entering) : s.engineDone.memory.mode = .retention := by
  simp only [State.engineDone, h, if_true]
  rfl

/-- The entry is SUSPENDED, the tables on chip are emptied and VOLUME_SAVED is queued (R157). -/
theorem saveCompleted_eq {y : Fin 8} (hy : (s.volume i).saveSlot = some y) :
    s.saveCompleted i =
      ((s.setVolume i { s.volume i with state := .suspended }).emptyTables).notify .S
        (.volumeSaved i y (s.volume i).lastOpening (((s.slot y).image).getD 0)) := by
  simp only [State.saveCompleted, hy, Option.bind_some]

theorem saveCompleted_keeps :
    s.keeps (s.saveCompleted i) [.opening, .capture, .light, .memory, .mem, .drain, .pending] ∧
      (s.saveCompleted i).account.leaves = [] ∧ (s.saveCompleted i).account.exceptions = [] ∧
      s.keepsOtherLinks (s.saveCompleted i) .S := by
  cases hy : (s.volume i).saveSlot with
  | none =>
    simp only [State.saveCompleted, hy]
    exact ⟨by simp [State.keeps, Part.same], rfl, rfl, fun l hl => rfl⟩
  | some y =>
    rw [saveCompleted_eq hy]
    refine ⟨by simp [State.keeps, Part.same], ?_, ?_, fun l hl => ?_⟩
    · rw [(notify_frame ..).2.1]; rfl
    · rw [(notify_frame ..).2.1]; rfl
    · rw [notify_link, if_neg hl]; rfl

end

end Sys2Proof.Machine
end

section
/-! PROOFS. A restore that completes (R130, R159): the tables from the image, the slot offered, the volume in the
cradle and VOLUME_RESTORED. -/

namespace Sys2Proof.Machine

open Sys2Proof

/-! ### A volume enters the cradle (R15) -/

section
variable {s : State} {i : Fin 16} {k : Nat}

theorem enterCradle_parked (hp : s.opening.state = .parked) :
    s.enterCradle i k =
      s.setOpening { s.opening with volume := some i, k := k, seek := none, parkReturn := .volume } :=
  if_pos hp

/-- The opening is at k of the volume, whatever the state (R15). -/
theorem enterCradle_placed :
    (s.enterCradle i k).opening.volume = some i ∧ (s.enterCradle i k).opening.k = k ∧
      (s.enterCradle i k).opening.seek = none := by
  by_cases hp : s.opening.state = .parked
  · rw [enterCradle_parked hp]
    exact ⟨rfl, rfl, rfl⟩
  · obtain ⟨hv, hk, hs, -⟩ := enterCradle_opening hp i k
    exact ⟨hv, hk, hs⟩

/-- In standby, or with a settle time to wait, nothing is evaluated and no notice is queued (R11, R15). -/
theorem enterCradle_links (h : s.opening.state = .parked ∨ (s.volume i).settle ≠ 0) :
    (s.enterCradle i k).links = s.links := by
  by_cases hp : s.opening.state = .parked
  · rw [enterCradle_parked hp]; rfl
  · have ht : (s.setOpening { s.opening with volume := some i, k := k, seek := none }).settleTime ≠ 0 :=
      h.resolve_left hp
    rw [enterCradle_eq hp, enterSettling_timed ht]
    rfl

theorem length_notify (l : LinkId) (n : Notice) :
    ((s.notify l n).link .S).notices.length ≤ (s.link .S).notices.length + 1 := by
  rw [notify_link]
  split
  · next hl =>
    subst hl
    unfold Link.push
    split
    · exact (List.length_append ..).le
    · exact Nat.le_succ _
  · exact Nat.le_succ _

/-- An evaluation queues one notice at most (R9, R31). -/
theorem length_takeEvaluated :
    (s.takeEvaluated.link .S).notices.length ≤ (s.link .S).notices.length + 1 := by
  have hlink := congrArg (Links.get · .S) (takeEvaluated_links s)
  have hstate : s.takeEvaluated.link .S = s.takeEvaluated.links.get .S := rfl
  rw [hstate, hlink]
  split
  · exact length_notify _ _
  · split
    · exact length_notify _ _
    · exact Nat.le_succ _

theorem length_enterCradle :
    ((s.enterCradle i k).link .S).notices.length ≤ (s.link .S).notices.length + 1 := by
  by_cases h : s.opening.state = .parked ∨ (s.volume i).settle ≠ 0
  · have hlink : (s.enterCradle i k).link .S = s.link .S := congrArg (Links.get · .S) (enterCradle_links h)
    rw [hlink]
    exact Nat.le_succ _
  · rw [not_or, not_not] at h
    obtain ⟨hp, ht⟩ := h
    rw [enterCradle_eq hp,
      enterSettling_at_once (s := s.setOpening { s.opening with volume := some i, k := k, seek := none }) ht]
    exact length_takeEvaluated

/-- A notice for a queue with room is its last (R188). -/
theorem notify_getLast (n : Notice) (h : (s.link .S).notices.length < 32) :
    ((s.notify .S n).link .S).notices.getLast? = some n := by
  have hroom : (s.link .S).notices.length < noticeDepth .S := h
  rw [notify_link, if_pos rfl, Link.push, if_pos hroom]
  exact List.getLast?_concat

end

/-! ### The restore -/

/-- The tables of the image on chip, and the entry out of its slot (R159, log 19). -/
def State.imageLoaded (s : State) (i : Fin 16) (image : Restored) : State :=
  ((s.setLeaves image.leaves).setExceptions image.exceptions).setVolume i
    { s.volume i with counts := image.counts, excLost := image.lost, saveSlot := none }

/-- The image loaded, its slot freed and offered, and the entry MOUNTED. -/
def State.imageTaken (s : State) (i : Fin 16) (x : Fin 8) (image : Restored) : State :=
  ((s.imageLoaded i image).freeSlot x).setVolume i ((s.volume i).restored image)

/-- VOLUME_RESTORED of an entry (R159). -/
def Volume.restoredNotice (v : Volume) (i : Fin 16) (image : Restored) : Notice :=
  .volumeRestored i v.n (v.lastOpening.getD 0) (image.counts.wanted + image.counts.reshoot + image.counts.held)

section
variable {s : State} {i : Fin 16} {x : Fin 8} {n : Nat} {image : Restored}

theorem restoreCompleted_eq (himage : image = readImage (readWords s.mem x 0 n)) :
    s.restoreCompleted i x n =
      ((s.imageTaken i x image).enterCradle i ((s.volume i).lastOpening.getD 0)).notify .S
        ((s.volume i).restoredNotice i image) := by
  subst himage
  rfl

theorem imageTaken_keeps : s.keeps (s.imageTaken i x image) [.opening, .mem, .drain, .links, .pending] := by
  simp [State.keeps, Part.same, State.imageTaken, State.imageLoaded]

theorem imageTaken_settle : ((s.imageTaken i x image).volume i).settle = (s.volume i).settle := by
  simp [State.imageTaken, Volume.restored]

theorem imageTaken_links : (s.imageTaken i x image).links = s.links := imageTaken_keeps .links (by simp)

theorem imageTaken_opening : (s.imageTaken i x image).opening = s.opening := imageTaken_keeps .opening (by simp)

/-- What a restore does outside the opening and its notices: the slot freed is offered, and nothing else moves. -/
theorem restoreCompleted_blocks :
    s.keeps (s.restoreCompleted i x n) [.mem, .drain, .pending] ∧
    ∃ u, s.keeps u [.capture, .light, .memory] ∧ (s.restoreCompleted i x n).capture = (u.freeSlot x).capture ∧
      (s.restoreCompleted i x n).light = (u.freeSlot x).light ∧
      (s.restoreCompleted i x n).memory = (u.freeSlot x).memory := by
  rw [restoreCompleted_eq rfl]
  refine ⟨?_, s.imageLoaded i (readImage (readWords s.mem x 0 n)), ?_, ?_, ?_, ?_⟩
  · simp [State.keeps, Part.same, State.imageTaken, State.imageLoaded]
  · simp [State.keeps, Part.same, State.imageLoaded]
  all_goals simp [State.imageTaken]

theorem restoreCompleted_memory :
    (s.restoreCompleted i x n).memory = { s.memory with slots := (s.restoreCompleted i x n).memory.slots } := by
  obtain ⟨-, u, hu, -, -, hmem⟩ := restoreCompleted_blocks (s := s) (i := i) (x := x) (n := n)
  have hum : u.memory = s.memory := hu .memory (by simp)
  exact hum ▸ slotsOnly_of_eq hmem (freeSlot_memory u x)

theorem restoreCompleted_exceptions :
    (s.restoreCompleted i x n).account.exceptions = (readImage (readWords s.mem x 0 n)).exceptions := by
  rw [restoreCompleted_eq rfl, (notify_frame ..).2.1, (enterCradle_frame ..).1]
  simp [State.imageTaken, State.imageLoaded]

/-- The opening record after a restore (R15, R159). -/
theorem restoreCompleted_opening :
    (s.restoreCompleted i x n).opening.volume = some i ∧
    (s.restoreCompleted i x n).opening.k = (s.volume i).lastOpening.getD 0 ∧
    (s.restoreCompleted i x n).opening.seek = none ∧
    (s.opening.state = .parked →
      (s.restoreCompleted i x n).opening.state = .parked ∧
        (s.restoreCompleted i x n).opening.parkReturn = .volume) ∧
    (s.opening.state ≠ .parked → (s.volume i).settle ≠ 0 →
      (s.restoreCompleted i x n).opening.state = .settling ∧
        (s.restoreCompleted i x n).opening.settle = some (s.volume i).settle) := by
  obtain ⟨hv, hk, hs⟩ := enterCradle_placed (s := s.imageTaken i x (readImage (readWords s.mem x 0 n))) (i := i)
    (k := (s.volume i).lastOpening.getD 0)
  rw [restoreCompleted_eq rfl, (notify_frame ..).1]
  refine ⟨hv, hk, hs, fun hp => ?_, fun hp ht => ?_⟩
  · rw [enterCradle_parked (by rw [imageTaken_opening]; exact hp)]
    exact ⟨(congrArg Opening.state imageTaken_opening).trans hp, rfl⟩
  · obtain ⟨-, -, -, ho, -⟩ := enterCradle_opening
      (s := s.imageTaken i x (readImage (readWords s.mem x 0 n))) (by rw [imageTaken_opening]; exact hp) i
      ((s.volume i).lastOpening.getD 0)
    rw [imageTaken_settle] at ho
    rw [ho ht]
    exact ⟨rfl, rfl⟩

/-- The notice of a restore stands alone, unless the opening is evaluated at once (R159). -/
theorem restoreCompleted_links (himage : image = readImage (readWords s.mem x 0 n))
    (h : s.opening.state = .parked ∨ (s.volume i).settle ≠ 0) :
    (s.restoreCompleted i x n).link .S = (s.notify .S ((s.volume i).restoredNotice i image)).link .S ∧
      s.keepsOtherLinks (s.restoreCompleted i x n) .S := by
  have hlinks : ((s.imageTaken i x image).enterCradle i ((s.volume i).lastOpening.getD 0)).links = s.links := by
    rw [enterCradle_links (by rwa [imageTaken_opening, imageTaken_settle]), imageTaken_links]
  have hlink (l : LinkId) :
      ((s.imageTaken i x image).enterCradle i ((s.volume i).lastOpening.getD 0)).link l = s.link l :=
    congrArg (Links.get · l) hlinks
  rw [restoreCompleted_eq himage]
  refine ⟨by rw [notify_link, notify_link, hlink], fun l hl => ?_⟩
  rw [notify_link, if_neg hl, hlink]

/-- With room for an evaluation's notice and its own, VOLUME_RESTORED is the last notice (R159). -/
theorem restoreCompleted_getLast (himage : image = readImage (readWords s.mem x 0 n))
    (h : (s.link .S).notices.length < 31) :
    ((s.restoreCompleted i x n).link .S).notices.getLast? = some ((s.volume i).restoredNotice i image) := by
  have hlink : (s.imageTaken i x image).link .S = s.link .S := congrArg (Links.get · .S) imageTaken_links
  rw [restoreCompleted_eq himage]
  refine notify_getLast _ (length_enterCradle.trans_lt ?_)
  rw [hlink]
  omega

end

end Sys2Proof.Machine
end

section
/-! PROOFS. BURST_COMPLETION (R126): the bursts of the drain and of an abandoned transfer, and each kind of burst with
the arbiters after it. -/

namespace Sys2Proof.Machine

open Sys2Proof

/-! ### Bursts of the drain and of an abandoned transfer -/

section
variable {s : State} {n : Nat} {a : ActiveDrain}

/-- The words of a drain's burst in its buffer (R136). -/
def State.drainRead (s : State) (a : ActiveDrain) (n : Nat) : State :=
  { s with
    drain :=
      { s.drain with
        active := some { a with next := a.next + n, unread := a.unread - n },
        buffer := s.drain.buffer ++ readWords s.mem a.job.slot a.next n } }

theorem drainBurstDone_running (ha : s.drain.active = some a) (ho : a.ordered = none) :
    s.drainBurstDone n = s.drainRead a n := by
  simp only [State.drainBurstDone, ha, ho, State.drainRead]

theorem drainBurstDone_ordered {st : DrainStatus} (ha : s.drain.active = some a) (ho : a.ordered = some st) :
    s.drainBurstDone n = (s.drainRead a n).drainEnd st := by
  simp only [State.drainBurstDone, ha, ho]
  rfl

theorem activateDrain_nil (hq : s.drain.queue = []) : s.activateDrain = s := by
  unfold State.activateDrain
  split
  · rw [hq]
  · rfl

/-- A drain that ends with nothing queued leaves no drain active (R140). -/
theorem drainEnd_drain {st : DrainStatus} (ha : s.drain.active = some a) (hq : s.drain.queue = []) :
    (s.drainEnd st).drain = { s.drain with active := none, buffer := [] } := by
  simp only [State.drainEnd, ha]
  rw [activateDrain_nil]
  · simp only [notifyDropped_frame, addExceptionOf_frame]
    split <;> simp
  · simp only [notifyDropped_frame, addExceptionOf_frame]
    split <;> simp [hq]

theorem staleBurst_abandoned (h : s.memory.engine.abandoned = true) :
    s.staleBurst = (s.setEngine .idle).engineDone := if_pos h

theorem staleBurst_later (h : s.memory.engine.abandoned = false) : s.staleBurst = s :=
  if_neg (by simp [h])

theorem engineDone_slots (s : State) : s.engineDone.memory.slots = s.memory.slots := by
  unfold State.engineDone
  split <;> rfl

theorem staleBurst_slots (s : State) : s.staleBurst.memory.slots = s.memory.slots := by
  unfold State.staleBurst
  split
  · exact engineDone_slots _
  · rfl

end

/-! ### Requests that only end -/

/-- Fewer refreshes owed, an engine with less to move and nothing else make no requester begin. -/
theorem requests_of_less {s t : State} (howed : t.memory.owed ≤ s.memory.owed) (hrx : t.rx = s.rx)
    (hengine : t.requests .engine = true → s.requests .engine = true) (hdrain : t.drain = s.drain) {r : Requester}
    (h : t.requests r = true) : s.requests r = true := by
  cases r with
  | refreshUrgent => exact requests_refreshUrgent.2 ((requests_refreshUrgent.1 h).trans howed)
  | pixel g => simpa only [State.requests, hrx] using h
  | engine => exact hengine h
  | drain => simpa only [State.requests, hdrain] using h
  | refreshOwed => exact requests_refreshOwed.2 ((requests_refreshOwed.1 h).trans howed)

theorem requests_idle {s : State} (h : s.memory.engine.state = .idle) : ¬s.requests .engine = true :=
  fun hr => (requests_engine.1 hr).1 h

theorem engineDone_owed (s : State) : s.engineDone.memory.owed ≤ s.memory.owed := by
  unfold State.engineDone
  split
  · exact Nat.zero_le _
  · exact le_rfl

theorem engineDone_rx (s : State) : s.engineDone.rx = s.rx := by
  unfold State.engineDone
  split <;> rfl

/-- The arbiters have nothing more to decide after the memory arbiter's decision at a burst's end. -/
theorem arbitrate_decided {s u : State} (hlight : u.light = s.light)
    (hr : ∀ r, u.requests r = true → s.requests r = true) : s.arbitrate u.decideMemory = u.decideMemory :=
  arbitrate_eq (fun r hheld => by rwa [(decideMemory_same u).light, hlight] at hheld)
    fun r h => hr r (requests_decideMemory h)

/-! ### Each kind of burst -/

section
variable {s : State}

theorem burstDone_idle (h : s.memory.burst = none ∨ s.memory.burst = some .refresh) : s.burstDone = s := by
  obtain h | h := h <;> simp only [State.burstDone, h]

/-- A pixel burst's words lie in the slot, and nothing else in the DRAM changes (R119, log 6). -/
theorem pixelBurst_completes {h : Half} {ws : List Word} {i : Fin 8} (hb : s.memory.burst = some (.pixel h ws))
    (hi : (s.rx h).slot = some i) :
    ∃ t, exec .burstCompletion s = .next t ∧ t.mem = writeWords s.mem i (s.slot i).words ws ∧
      (t.slot i).words = (s.slot i).words + ws.length ∧
      (Memory.wf s.mem = true →
        (∀ n, n < ws.length → readWord t.mem i ((s.slot i).words + n) = ws.getD n 0) ∧
        ∀ a, a < wordAddr i (s.slot i).words ∨ wordAddr i ((s.slot i).words + ws.length) ≤ a →
          memRead t.mem a = memRead s.mem a) ∧
      s.keeps t [.opening, .account, .light, .drain, .pending] := by
  obtain ⟨t, ht, hsame⟩ := exec_burst (burstDone_pixel hb hi) (by simp [State.pixelWritten])
  have hmem : t.mem = writeWords s.mem i (s.slot i).words ws :=
    hsame.mem.trans (sealIfReady_frame _ _).2.2.2.1
  refine ⟨t, ht, hmem, ?_, fun hwf => ⟨fun n hn => ?_, fun a ha => ?_⟩, hsame.keeps ?_ (by simp)⟩
  · rw [hsame.slot, sealIfReady_words]
    exact congrArg Slot.words ((setSlot_slot _ i i _).trans (if_pos rfl))
  · rw [hmem]
    exact readWord_writeWords _ _ _ _ _ hwf hn
  · rw [hmem]
    exact memRead_writeWords _ _ _ _ _ hwf ha
  · simp [State.keeps, Part.same, State.pixelWritten]

variable {n : Nat} {x : Fin 8} {i : Fin 16}

/-- A save burst before the last one (R129). -/
theorem saveBurst_continues (hb : s.memory.burst = some (.engine n false)) (hx : s.memory.engine.slot = some x)
    (hi : s.moving = some i) (he : s.memory.engine.state = .saving) (hn : n < s.memory.engine.left) :
    ∃ t, exec .burstCompletion s = .next t ∧ SameButBurst (((s.setBurst none).saved x i n).setEngine
      (s.memory.engine.moved n)) t := by
  refine exec_burst ?_ rfl
  rw [burstDone_engine hb, engineBurst_saving (s := s.setBurst none) he hx hi]
  exact congrArg _ (if_neg (Nat.not_le.2 hn))

/-- The last burst of a save (R129, R157). -/
theorem saveBurst_completes (hb : s.memory.burst = some (.engine n false)) (hx : s.memory.engine.slot = some x)
    (hi : s.moving = some i) (he : s.memory.engine.state = .saving) (hn : s.memory.engine.left ≤ n) :
    ∃ t, exec .burstCompletion s = .next t ∧
      SameButBurst (((((s.setBurst none).saved x i n).setEngine .idle).saveCompleted i).engineDone) t := by
  refine exec_burst ?_ ?_
  · rw [burstDone_engine hb, engineBurst_saving (s := s.setBurst none) he hx hi]
    exact congrArg _ (if_pos hn)
  · rw [(engineDone_frame _).2.2.2.1]
    exact saveCompleted_keeps.1 .light (by simp)

/-- A burst of an abandoned transfer changes the engine and the memory's mode at most (R131, logs 20 and 35). -/
theorem staleBurst_completes (hb : s.memory.burst = some (.engine n true)) :
    ∃ t, exec .burstCompletion s = .next t ∧
      (s.memory.engine.abandoned = true → t.memory.engine.state = .idle) ∧
      (s.memory.engine.abandoned = false →
        t.memory.engine = s.memory.engine ∧ t.memory.mode = s.memory.mode) ∧
      (∀ i, t.slot i = s.slot i) ∧
      s.keeps t [.opening, .account, .capture, .light, .mem, .drain, .links, .pending] := by
  obtain ⟨t, ht, hsame⟩ := exec_burst (burstDone_stale hb) (by simp)
  refine ⟨t, ht, fun ha => ?_, fun ha => ?_, fun i => ?_, hsame.keeps (by simp [State.keeps, Part.same]) (by simp)⟩
  · rw [hsame.engine, staleBurst_abandoned (s := s.setBurst none) ha, engineDone_engine]
    rfl
  · rw [hsame.engine, hsame.mode, staleBurst_later (s := s.setBurst none) ha]
    exact ⟨rfl, rfl⟩
  · rw [hsame.slot]
    exact congrArg (fun m => m[i]) (staleBurst_slots (s.setBurst none))

/-- A burst of the drain joins its buffer, and ends a drain ordered to end (R136, R139). -/
theorem drainBurst_completes {a : ActiveDrain} (hb : s.memory.burst = some (.drain n))
    (ha : s.drain.active = some a) :
    ∃ t, exec .burstCompletion s = .next t ∧ t.mem = s.mem ∧
      (a.ordered = none →
        t.drain.active = some { a with next := a.next + n, unread := a.unread - n } ∧
        t.drain.buffer = s.drain.buffer ++ readWords s.mem a.job.slot a.next n ∧
        t.drain.queue = s.drain.queue ∧
        s.keeps t [.opening, .account, .capture, .light, .links, .pending]) ∧
      (a.ordered ≠ none → s.drain.queue = [] → t.drain.active = none ∧ t.drain.buffer = []) := by
  have hdecide := decideMemory_same ((s.setBurst none).drainBurstDone n)
  have hdrain : (s.arbitrate ((s.setBurst none).drainBurstDone n).decideMemory).drain =
      ((s.setBurst none).drainBurstDone n).drain := (arbitrate_frame _ _).2.1.trans hdecide.drain
  rw [← burstDone_drain hb] at hdrain
  refine ⟨s.arbitrate s.burstDone, rfl, ?_, fun ho => ?_, fun ho hq => ?_⟩
  · rw [(arbitrate_frame _ _).1, burstDone_drain hb, hdecide.mem, (drainBurstDone_frame _ _).1]
    rfl
  · have hrun := drainBurstDone_running (s := s.setBurst none) (n := n) ha ho
    rw [hdrain, hrun]
    refine ⟨rfl, rfl, rfl, ?_⟩
    rw [burstDone_drain hb, hrun]
    have hsame := decideMemory_same ((s.setBurst none).drainRead a n)
    refine (hsame.trans (arbitrate_sameButBurst (s := s) (congrArg Light.held hsame.light))).keeps ?_ (by simp)
    simp [State.keeps, Part.same, State.drainRead]
  · obtain ⟨st, hst⟩ := Option.ne_none_iff_exists'.1 ho
    have hend : ((s.setBurst none).drainBurstDone n).drain =
        { ((s.setBurst none).drainRead a n).drain with active := none, buffer := [] } := by
      rw [drainBurstDone_ordered (s := s.setBurst none) ha hst]
      exact drainEnd_drain rfl hq
    rw [hdrain, hend]
    exact ⟨rfl, rfl⟩

end

/-! ### The engine's bursts -/

section
variable {s : State} {n : Nat} {x : Fin 8} {i : Fin 16}

/-- The state after the last burst of a restore, before the memory arbiter decides. -/
def State.restored (s : State) (i : Fin 16) (x : Fin 8) : State :=
  (((s.setBurst none).setEngine .idle).restoreCompleted i x s.memory.engine.length).engineDone

theorem burstDone_restoring (hb : s.memory.burst = some (.engine n false)) (hx : s.memory.engine.slot = some x)
    (hi : s.moving = some i) (he : s.memory.engine.state = .restoring) :
    s.burstDone =
      (if s.memory.engine.left ≤ n then s.restored i x
        else (s.setBurst none).setEngine (s.memory.engine.moved n)).decideMemory := by
  rw [burstDone_engine hb, engineBurst_restoring (s := s.setBurst none) he hx hi]
  rfl

theorem restored_memory :
    (s.restored i x).memory.engine.state = .idle ∧ (s.restored i x).rx = s.rx ∧
      (s.restored i x).memory.owed ≤ s.memory.owed ∧
      (s.memory.mode = .entering → (s.restored i x).memory.mode = .retention) := by
  have hmem := restoreCompleted_memory (s := (s.setBurst none).setEngine .idle) (i := i) (x := x)
    (n := s.memory.engine.length)
  refine ⟨?_, ?_, (engineDone_owed _).trans ?_, fun hm => engineDone_mode ?_⟩
  · rw [State.restored, engineDone_engine, hmem]; rfl
  · rw [State.restored, engineDone_rx]
    funext g
    exact congrArg (fun m => m.rx.get g) hmem
  · rw [hmem]; exact le_rfl
  · rw [hmem]; exact hm

/-- With no capture that waits, a restore leaves the captures and the light requests as they are. -/
theorem restored_unwaited (hw : s.capture.waitOrder = []) :
    (s.restored i x).slot x = Slot.free ∧ (∀ y, y ≠ x → (s.restored i x).slot y = s.slot y) ∧
      s.keeps (s.restored i x) [.capture, .light] := by
  obtain ⟨hkeeps, u, hu, hcapture, hlight, hmem⟩ := restoreCompleted_blocks
    (s := (s.setBurst none).setEngine .idle) (i := i) (x := x) (n := s.memory.engine.length)
  obtain ⟨-, hfree, hothers, hblocks⟩ := freed_unwaited hu hcapture hlight hmem (hkeeps .drain (by simp)) hw
  have hslot (y : Fin 8) : (s.restored i x).slot y =
      (((s.setBurst none).setEngine .idle).restoreCompleted i x s.memory.engine.length).slot y :=
    congrArg (fun m => m[y]) (engineDone_slots _)
  refine ⟨(hslot x).trans hfree, fun y hy => (hslot y).trans (hothers y hy), ?_⟩
  simpa [State.keeps, Part.same, State.restored] using hblocks

theorem restored_keeps : s.keeps (s.restored i x) [.mem, .drain, .pending] := by
  simp [State.keeps, Part.same, State.restored]

/-- The tables after a restore are those of the image (R159). -/
theorem restored_account (image : Restored) (himage : image = readImage (readWords s.mem x 0 s.memory.engine.length)) :
    (∀ j, (s.restored i x).volume j = if j = i then (s.volume i).restored image else s.volume j) ∧
      (s.restored i x).account.leaves = image.leaves ∧ (s.restored i x).account.exceptions = image.exceptions := by
  subst himage
  have haccount : (s.restored i x).account =
      (((s.setBurst none).setEngine .idle).restoreCompleted i x s.memory.engine.length).account :=
    (engineDone_frame _).2.1
  rw [volume_congr haccount, haccount]
  exact ⟨restoreCompleted_volume _ i x _, restoreCompleted_leaves _ i x _, restoreCompleted_exceptions⟩

theorem restored_opening :
    (s.restored i x).opening =
      (((s.setBurst none).setEngine .idle).restoreCompleted i x s.memory.engine.length).opening :=
  (engineDone_frame _).1

theorem restored_link (l : LinkId) :
    (s.restored i x).link l =
      (((s.setBurst none).setEngine .idle).restoreCompleted i x s.memory.engine.length).link l :=
  congrArg (Links.get · l) (engineDone_frame _).2.2.2.2.2.2.1

end

/-- A save burst: the words lie in the slot, and the last one completes the save (R129, R157). -/
theorem saveBurst {s : State} {n : Nat} {x : Fin 8} {i : Fin 16} (hb : s.memory.burst = some (.engine n false))
    (hx : s.memory.engine.slot = some x) (hi : s.moving = some i) (he : s.memory.engine.state = .saving) :
    ∃ t, exec .burstCompletion s = .next t ∧
      t.mem = writeWords s.mem x (s.memory.engine.length - s.memory.engine.left)
        (((s.saveImage i).drop (s.memory.engine.length - s.memory.engine.left)).take n) ∧
      (n < s.memory.engine.left → t.memory.engine = s.memory.engine.moved n ∧
        s.keeps t [.opening, .account, .capture, .light, .drain, .links, .pending]) ∧
      (s.memory.engine.left ≤ n → t.memory.engine.state = .idle ∧
        t.volume i = { s.volume i with state := .suspended } ∧
        (∀ j, j ≠ i → t.volume j = s.volume j) ∧ t.account.leaves = [] ∧ t.account.exceptions = [] ∧
        (s.memory.mode = .entering → t.memory.mode = .retention) ∧
        (∀ y, (s.volume i).saveSlot = some y → t.link .S =
          (s.notify .S (.volumeSaved i y (s.volume i).lastOpening (((s.slot y).image).getD 0))).link .S) ∧
        s.keepsOtherLinks t .S ∧
        s.keeps t [.opening, .capture, .light, .drain, .pending]) := by
  obtain hn | hn := Nat.lt_or_ge n s.memory.engine.left
  · obtain ⟨t, ht, hsame⟩ := saveBurst_continues hb hx hi he hn
    refine ⟨t, ht, hsame.mem, fun _ => ⟨hsame.engine, hsame.keeps ?_ (by simp)⟩,
      fun hle => absurd hle (Nat.not_le.2 hn)⟩
    simp [State.keeps, Part.same, State.saved]
  · obtain ⟨t, ht, hsame⟩ := saveBurst_completes hb hx hi he hn
    set u := ((s.setBurst none).saved x i n).setEngine .idle with hu
    obtain ⟨hkeeps, hleaves, hexcs, hlinks⟩ := saveCompleted_keeps (s := u) (i := i)
    have hmemory : (u.saveCompleted i).memory = u.memory := hkeeps .memory (by simp)
    have haccount : t.account = (u.saveCompleted i).account := hsame.account.trans (engineDone_frame _).2.1
    have hlink (l : LinkId) : t.link l = (u.saveCompleted i).link l :=
      (hsame.link l).trans (congrArg (Links.get · l) (engineDone_frame _).2.2.2.2.2.2.1)
    refine ⟨t, ht, ?_, fun hlt => absurd hn (Nat.not_le.2 hlt), fun _ => ⟨?_, ?_, fun j hj => ?_, ?_, ?_, fun hm => ?_,
      fun y hy => ?_, fun l hl => (hlink l).trans (hlinks l hl), hsame.keeps ?_ (by simp)⟩⟩
    · rw [hsame.mem, (engineDone_frame _).2.2.2.2.1]
      exact hkeeps .mem (by simp)
    · rw [hsame.engine, engineDone_engine, hmemory]; rfl
    · rw [volume_congr haccount, saveCompleted_volume, if_pos rfl]; rfl
    · rw [volume_congr haccount, saveCompleted_volume, if_neg hj]; rfl
    · rw [haccount, hleaves]
    · rw [haccount, hexcs]
    · rw [hsame.mode]
      exact engineDone_mode (by rw [hmemory]; exact hm)
    · rw [hlink, saveCompleted_eq (s := u) hy, notify_link, notify_link]
      rfl
    · have hrest : s.keeps (u.saveCompleted i) [.opening, .capture, .light, .drain, .pending] :=
        keeps_of_frame (t := u) (by simp [State.keeps, Part.same, hu, State.saved]) hkeeps (by simp)
      exact keeps_of_frame hrest (qs := [.opening, .capture, .light, .drain, .pending])
        (by simp [State.keeps, Part.same]) (fun _ hp => hp)

/-- A restore burst, and the last one, which writes the tables, frees the slot and mounts the volume (R130, R159). -/
theorem restoreBurst {s : State} {n : Nat} {x : Fin 8} {i : Fin 16} (hb : s.memory.burst = some (.engine n false))
    (hx : s.memory.engine.slot = some x) (hi : s.moving = some i) (he : s.memory.engine.state = .restoring) :
    s.burstDone.mem = s.mem ∧ s.keeps s.burstDone [.drain, .pending] ∧
      (s.capture.waitOrder = [] → s.arbitrate s.burstDone = s.burstDone ∧ s.keeps s.burstDone [.capture, .light]) ∧
      (n < s.memory.engine.left → s.burstDone.memory.engine = s.memory.engine.moved n ∧
        s.keeps s.burstDone [.opening, .account, .capture, .light, .links]) ∧
      (s.memory.engine.left ≤ n → SameButBurst (s.restored i x) s.burstDone) := by
  have hdone := burstDone_restoring hb hx hi he
  obtain hn | hn := Nat.lt_or_ge n s.memory.engine.left
  · rw [if_neg (Nat.not_le.2 hn)] at hdone
    have hsame := decideMemory_same ((s.setBurst none).setEngine (s.memory.engine.moved n))
    have hless {r : Requester} :
        ((s.setBurst none).setEngine (s.memory.engine.moved n)).requests r = true → s.requests r = true := by
      refine requests_of_less (s := s) (t := (s.setBurst none).setEngine (s.memory.engine.moved n)) le_rfl rfl
        (fun hr => ?_) rfl
      obtain ⟨hstate, habandoned, hleft⟩ := requests_engine.1 hr
      exact requests_engine.2 ⟨hstate, habandoned, hleft.trans_le (Nat.sub_le _ _)⟩
    rw [hdone]
    refine ⟨hsame.mem, hsame.keeps ?_ (by simp),
      fun _ => ⟨arbitrate_decided rfl fun r => hless, hsame.keeps ?_ (by simp)⟩,
      fun _ => ⟨hsame.engine, hsame.keeps ?_ (by simp)⟩, fun hle => absurd hle (Nat.not_le.2 hn)⟩
    all_goals simp [State.keeps, Part.same]
  · rw [if_pos hn] at hdone
    have hsame := decideMemory_same (s.restored i x)
    have hkeeps := restored_keeps (s := s) (i := i) (x := x)
    obtain ⟨hidle, hrx, howed, -⟩ := restored_memory (s := s) (i := i) (x := x)
    rw [hdone]
    refine ⟨hsame.mem.trans (hkeeps .mem (by simp)),
      hsame.keeps (fun p hp => hkeeps p (List.mem_cons_of_mem _ hp)) (by simp), fun hw => ?_,
      fun hlt => absurd hn (Nat.not_le.2 hlt), fun _ => hsame⟩
    obtain ⟨-, -, hblocks⟩ := restored_unwaited (i := i) (x := x) hw
    exact ⟨arbitrate_decided (hblocks .light (by simp)) fun r => requests_of_less howed hrx
      (fun hr => absurd hr (requests_idle hidle)) (hkeeps .drain (by simp)), hsame.keeps hblocks (by simp)⟩

/-- Settles O43, one kind of burst at a time. -/
theorem burstCompletion : Obligations.BurstCompletion := by
  intro s
  refine ⟨fun h => ?_, fun h ws i hb hi => pixelBurst_completes hb hi,
    fun n x i hb hx hi => ⟨fun he => saveBurst hb hx hi he, fun he => ?_⟩,
    fun n hb => staleBurst_completes hb, fun n a hb ha => drainBurst_completes hb ha⟩
  · have hexec : exec .burstCompletion s = .next (s.arbitrate s.burstDone) := rfl
    rw [hexec, burstDone_idle h, arbitrate_same rfl rfl rfl]
  · obtain ⟨hmem, hkeeps, hquiet, hmore, hlast⟩ := restoreBurst hb hx hi he
    refine ⟨s.burstDone, rfl, hmem, hkeeps, hquiet, hmore, fun hn => ?_⟩
    have hsame := hlast hn
    intro image k notice
    obtain ⟨hidle, -, -, hmode⟩ := restored_memory (s := s) (i := i) (x := x)
    obtain ⟨hvolume, hleaves, hexcs⟩ := restored_account (s := s) (i := i) (x := x) image rfl
    obtain ⟨hv, hk, hseek, hparked, hsettling⟩ := restoreCompleted_opening (s := (s.setBurst none).setEngine .idle)
      (i := i) (x := x) (n := s.memory.engine.length)
    rw [← restored_opening] at hv hk hseek hparked hsettling
    simp only [hsame.engine, hsame.mode, hsame.volume, hsame.account, hsame.slot, hsame.opening, hsame.link]
    refine ⟨hidle, (hvolume i).trans (if_pos rfl), fun j hj => (hvolume j).trans (if_neg hj), hleaves, hexcs, hmode,
      fun hw => ?_, hv, hk, hseek, hparked, hsettling, fun h => ?_, fun h => ?_⟩
    · obtain ⟨hfree, hothers, -⟩ := restored_unwaited (i := i) (x := x) hw
      exact ⟨hfree, hothers⟩
    · obtain ⟨hS, hothers⟩ := restoreCompleted_links (s := (s.setBurst none).setEngine .idle) (image := image) rfl h
      exact ⟨(restored_link .S).trans hS, fun l hl => (hsame.link l).trans ((restored_link l).trans (hothers l hl))⟩
    · exact (congrArg (·.notices.getLast?) (restored_link .S)).trans
        (restoreCompleted_getLast (s := (s.setBurst none).setEngine .idle) (image := image) rfl h)

end Sys2Proof.Machine
end

section
/-! SUPPORT. What a release does to its slot, to the side of its frame and to the notices (R141 to R144). -/

namespace Sys2Proof.Machine

open Sys2Proof

/-! ### A slot released (R112, R113) -/

/-- A slot released: FREE, or OPEN for a capture that waited for it. -/
def Slot.Released (x : Slot) : Prop := x = Slot.free ∨ x.state = .open'

theorem offerOnce_released {s : State} {i : Fin 8} (hi : (s.slot i).Released) : (s.offerOnce.slot i).Released := by
  unfold State.offerOnce
  split
  · exact hi
  · next g rest hw =>
    split
    · exact hi
    · next j hj =>
      have hslot (u : State) : ((u.stopSlotLimit g).placeRequest g).slot i = u.slot i := by
        simp only [State.slot, placeRequest_frame, stopSlotLimit_frame]
      rw [hslot]
      cases hc : (s.setWaitOrder rest).ctx g with
      | none =>
        simp only [State.bindSlot, hc]
        exact hi
      | some c =>
        rw [bindSlot_eq hc, setCtx_slot, setSlot_slot]
        split
        · exact .inr rfl
        · exact hi

theorem freeSlot_released (s : State) (i : Fin 8) : ((s.freeSlot i).slot i).Released :=
  offerOnce_released (offerOnce_released (.inl (by rw [setSlot_slot, if_pos rfl])))

/-- From `s` to `t` slot `i` has been freed and offered: with no capture that waits it is FREE, and the other slots, the
captures and the light unit are as they were. -/
abbrev SlotFreed (s t : State) (i : Fin 8) : Prop :=
  (t.slot i).Released ∧
    (s.capture.waitOrder = [] →
      t.slot i = Slot.free ∧ (∀ j, j ≠ i → t.slot j = s.slot j) ∧ s.keeps t [.capture, .light])

/-- An operation that frees the slot and leaves these parts otherwise as they are. -/
theorem slotFreed_of_freeSlot {s t u : State} {i : Fin 8} (hu : s.keeps u [.capture, .light, .memory])
    (hcapture : t.capture = (u.freeSlot i).capture) (hlight : t.light = (u.freeSlot i).light)
    (hmem : t.memory = (u.freeSlot i).memory) (hdrain : t.drain = s.drain) : SlotFreed s t i := by
  refine ⟨?_, fun hw => (freed_unwaited hu hcapture hlight hmem hdrain hw).2⟩
  rw [slot_congr hmem]
  exact freeSlot_released u i

/-! ### The discard rule (R143) -/

section
variable {s : State} {x : Slot} {h : Half} {j : Nat} {r : SideRec}

/-- The side shows the capture of the slot's frame (R143 step 2). -/
abbrev Slot.Shown (x : Slot) (r : SideRec) : Prop := ∃ m, r.summary = some m ∧ some m.captureId = x.captureId

theorem discardEffect_no_side (hx : x.side = none) : s.discardEffect x = .none := by
  simp only [State.discardEffect, hx]

theorem discardEffect_no_record (hx : x.side = some (h, j)) (hr : s.side (faceOf h) j = none) :
    s.discardEffect x = .none := by
  simp only [State.discardEffect, hx, hr]

/-- What a discard does to the side that shows the frame's capture, by the side's state (R143 step 2). -/
theorem discardEffect_shown (hx : x.side = some (h, j)) (hr : s.side (faceOf h) j = some r) (hm : x.Shown r) :
    (r.state = .captured → s.discardEffect x = .reshoot) ∧ (r.state = .capturing → s.discardEffect x = .marked) ∧
      (r.state ≠ .captured → r.state ≠ .capturing → s.discardEffect x = .none) := by
  obtain ⟨m, hsummary, hid⟩ := hm
  simp only [State.discardEffect, hx, hr, hsummary, hid, if_true]
  cases r.state <;> simp

theorem discardEffect_not_shown (hx : x.side = some (h, j)) (hr : s.side (faceOf h) j = some r) (hm : ¬x.Shown r) :
    s.discardEffect x = .none := by
  cases hsummary : r.summary with
  | none => simp only [State.discardEffect, hx, hr, hsummary]
  | some m =>
    have hid : ¬some m.captureId = x.captureId := fun hid => hm ⟨m, hsummary, hid⟩
    simp only [State.discardEffect, hx, hr, hsummary, if_neg hid]

/-- A side of another capture, or in another state, is left as it is. -/
theorem discardEffect_other (hx : x.side = some (h, j)) (hr : s.side (faceOf h) j = some r)
    (hm : ¬x.Shown r ∨ (r.state ≠ .captured ∧ r.state ≠ .capturing)) : s.discardEffect x = .none := by
  by_cases hshown : x.Shown r
  · obtain ⟨hcaptured, hcapturing⟩ := hm.resolve_left (not_not.2 hshown)
    exact (discardEffect_shown hx hr hshown).2.2 hcaptured hcapturing
  · exact discardEffect_not_shown hx hr hshown

theorem discardSide_none (he : s.discardEffect x = .none) : s.discardSide x = s := by
  unfold State.discardSide
  split
  · rfl
  · simp only [he]

theorem discardSide_marked (hx : x.side = some (h, j)) (he : s.discardEffect x = .marked) :
    s.discardSide x = s.changeSide (faceOf h) j SideRec.markDiscarded := by
  simp only [State.discardSide, hx, he]

/-- The side RESHOOT, and the opening evaluated when the side is present. -/
def State.reshotSide (s : State) (h : Half) (j : Nat) : State :=
  (s.changeSide (faceOf h) j fun r => { r with state := .reshoot }).evaluateSide (faceOf h) j

theorem discardSide_reshoot (hx : x.side = some (h, j)) (he : s.discardEffect x = .reshoot) :
    s.discardSide x = s.reshotSide h j := by
  simp only [State.discardSide, hx, he, State.reshotSide]

end

/-! ### The rows of R141 on a SEALED and committed slot -/

/-- A release that frees its slot and touches no side. -/
def Released.plain (s : State) (i : Fin 8) : Released := ⟨s.freeSlot i, none, none, .none⟩

/-- A release refused: nothing has changed. -/
def Released.refused (s : State) (why : Status) : Released := ⟨s, none, some why, .none⟩

/-- A release that frees its slot and marks the summary of the capture in flight. -/
def Released.marked (s : State) (i : Fin 8) (h : Half) (j : Nat) : Released :=
  ⟨(s.changeSide (faceOf h) j SideRec.markDiscarded).freeSlot i, none, none, .marked⟩

/-- The FRAME_DISCARDED record of a frame (R143). -/
def State.discarded (s : State) (i : Fin 8) (x : Slot) (h : Half) (j : Nat) : ExcRecord :=
  { kind := .frameDiscarded, side := some (faceOf h, j), opening := s.opening.k, captureId := x.captureId,
    slot := some i, extra := 0 }

/-- A release that frees its slot and makes its side RESHOOT. -/
def Released.reshot (s : State) (i : Fin 8) (h : Half) (j : Nat) : Released :=
  ⟨(s.reshotSide h j).freeSlot i, some (s.discarded i (s.slot i) h j), none, .reshoot⟩

section
variable {s : State} {i : Fin 8} {d : Bool}

theorem releaseNow_drained (hf : (s.slot i).drainedFully = true) : s.releaseNow i d = .plain s i := if_pos hf

theorem releaseNow_undrained (hf : (s.slot i).drainedFully = false) :
    s.releaseNow i false = .refused s .undrained := by
  simp [State.releaseNow, hf, Released.refused]

theorem releaseNow_damaged (hf : (s.slot i).drainedFully = false) (hseal : (s.slot i).sealStatus ≠ some .good) :
    s.releaseNow i true = .plain s i := by
  simp [State.releaseNow, hf, hseal, Released.plain]

theorem releaseNow_notMounted (hf : (s.slot i).drainedFully = false) (hseal : (s.slot i).sealStatus = some .good)
    (hm : s.mounted = none ∨ (s.slot i).volume ≠ s.mounted) : s.releaseNow i true = .refused s .notMounted := by
  unfold State.releaseNow
  simp only [hf, hseal, Bool.false_eq_true, if_false, Bool.not_true, ne_eq, not_true, if_pos hm]
  rfl

theorem releaseNow_discards (hf : (s.slot i).drainedFully = false) (hseal : (s.slot i).sealStatus = some .good)
    (hm : s.mounted ≠ none) (hv : (s.slot i).volume = s.mounted) :
    s.releaseNow i true =
      ⟨(s.discardSide (s.slot i)).freeSlot i, s.discardRecord i (s.slot i), none, s.discardEffect (s.slot i)⟩ := by
  simp [State.releaseNow, hf, hseal, hm, hv]

/-- A slot whose frame falls under the discard rule: GOOD, not drained in full, its volume MOUNTED (R143). -/
structure State.Discards (s : State) (i : Fin 8) : Prop where
  drainedFully : (s.slot i).drainedFully = false
  good : (s.slot i).sealStatus = some .good
  mounted : s.mounted ≠ none
  volume : (s.slot i).volume = s.mounted

namespace State.Discards

variable {h : Half} {j : Nat} {r : SideRec}

theorem releaseNow (hd : s.Discards i) :
    s.releaseNow i true =
      ⟨(s.discardSide (s.slot i)).freeSlot i, s.discardRecord i (s.slot i), none, s.discardEffect (s.slot i)⟩ :=
  releaseNow_discards hd.drainedFully hd.good hd.mounted hd.volume

theorem plain (hd : s.Discards i) (he : s.discardEffect (s.slot i) = .none) : s.releaseNow i true = .plain s i := by
  simp only [hd.releaseNow, discardSide_none he, State.discardRecord, he, Released.plain]

theorem marked (hd : s.Discards i) (hx : (s.slot i).side = some (h, j)) (hr : s.side (faceOf h) j = some r)
    (hm : (s.slot i).Shown r) (hst : r.state = .capturing) : s.releaseNow i true = .marked s i h j := by
  have he : s.discardEffect (s.slot i) = .marked := (discardEffect_shown hx hr hm).2.1 hst
  simp only [hd.releaseNow, discardSide_marked hx he, State.discardRecord, he, Released.marked]

theorem reshot (hd : s.Discards i) (hx : (s.slot i).side = some (h, j)) (hr : s.side (faceOf h) j = some r)
    (hm : (s.slot i).Shown r) (hst : r.state = .captured) : s.releaseNow i true = .reshot s i h j := by
  have he : s.discardEffect (s.slot i) = .reshoot := (discardEffect_shown hx hr hm).1 hst
  simp only [hd.releaseNow, discardSide_reshoot hx he, State.discardRecord, he, hx, Released.reshot]
  rfl

end State.Discards

end

/-! ### A release with its notices (R142 to R144) -/

/-- From `s` to `t`: slot `i` holds `y`, the links are those of `u`, and neither another slot nor the opening, the
tables, the captures or the light unit have changed. -/
abbrev SlotEnds (s t : State) (i : Fin 8) (y : Slot) (u : State) : Prop :=
  t.slot i = y ∧ (∀ j, j ≠ i → t.slot j = s.slot j) ∧ t.links = u.links ∧
    s.keeps t [.opening, .account, .capture, .light]

/-- A notice on link S, where there is one. -/
def State.tell (s : State) : Option Notice → State
  | none => s
  | some n => s.notify .S n

@[simp] theorem tell_frame (s : State) (n : Option Notice) :
    (s.tell n).opening = s.opening ∧ (s.tell n).account = s.account ∧ (s.tell n).capture = s.capture ∧
      (s.tell n).light = s.light ∧ (s.tell n).memory = s.memory ∧ (s.tell n).mem = s.mem ∧
      (s.tell n).drain = s.drain ∧ (s.tell n).pending = s.pending := by
  cases n <;> simp [State.tell]

theorem Steady.tell {s0 s : State} (hs : Steady s0 s) {n : Option Notice} : Steady s0 (s.tell n) := by
  cases n with
  | none => exact hs
  | some n => exact hs.notify

theorem notify_links_congr {s t : State} (h : t.links = s.links) (l : LinkId) (n : Notice) :
    (t.notify l n).links = (s.notify l n).links := by
  simp only [State.notify, State.link, State.setLink, h]

theorem tell_links_congr {s t : State} (h : t.links = s.links) (n : Option Notice) :
    (t.tell n).links = (s.tell n).links := by
  cases n with
  | none => exact h
  | some n => exact notify_links_congr h .S n

theorem tell_link_congr {s t : State} (h : t.link .S = s.link .S) (n : Option Notice) :
    (t.tell n).link .S = (s.tell n).link .S := by
  cases n with
  | none => exact h
  | some n => simp only [State.tell, notify_link, h]

/-- A deferred release evaluated (R142): `tell` gives the notice that goes before its own, by what became of it. -/
def State.runRelease (s : State) (i : Fin 8) (d : Bool) (tell : DrainRelease → Option Notice) : State :=
  let r := s.evaluateDeferred i d
  let told := r.state.tell (tell (if r.refusal.isNone then .freedDeferred else .dropped))
  (told.addException? r.exception).notifyDropped i (s.slot i) d r.refusal

section
variable {s : State} {i : Fin 8} {d : Bool} {tell : DrainRelease → Option Notice} {h : Half} {j : Nat}

theorem Steady.runRelease {s0 : State} (hs : Steady s0 s) : Steady s0 (s.runRelease i d tell) :=
  hs.evaluateDeferred.tell.addException?.notifyDropped

theorem runRelease_frame : s.keeps (s.runRelease i d tell) [.mem, .drain, .pending] := by
  simp [State.keeps, Part.same, State.runRelease]

theorem releaseNow_memory :
    (s.releaseNow i d).state.memory = { s.memory with slots := (s.releaseNow i d).state.memory.slots } := by
  unfold State.releaseNow
  dsimp only
  repeat' split
  any_goals exact freeSlot_memory s i
  · rfl
  · rfl
  · exact slotsOnly_of_eq (freeSlot_memory _ i) (by rw [(discardSide_frame s _).2.2.1])

/-- A release changes the slots alone of the frame memory controller. -/
theorem runRelease_memory :
    (s.runRelease i d tell).memory = { s.memory with slots := (s.runRelease i d tell).memory.slots } := by
  have hmem : (s.runRelease i d tell).memory = (s.evaluateDeferred i d).state.memory := by simp [State.runRelease]
  rw [hmem, State.evaluateDeferred]
  dsimp only
  split
  · exact releaseNow_memory
  · exact slotsOnly_of_eq (m' := { s.memory with slots := _ }) (by
      simp only [State.setSlot]
      rw [releaseNow_memory]) rfl

theorem runRelease_granted (hr : (s.releaseNow i d).refusal = none) :
    s.runRelease i d tell =
      ((s.releaseNow i d).state.tell (tell .freedDeferred)).addException? (s.releaseNow i d).exception := by
  have he : s.evaluateDeferred i d = s.releaseNow i d := by simp only [State.evaluateDeferred, hr]
  simp only [State.runRelease, he, hr, Option.isNone_none, if_true, State.notifyDropped]

theorem runRelease_plain (hr : s.releaseNow i d = .plain s i) :
    s.runRelease i d tell = (s.freeSlot i).tell (tell .freedDeferred) := by
  rw [runRelease_granted (congrArg Released.refusal hr), hr]
  rfl

theorem runRelease_marked (hr : s.releaseNow i d = .marked s i h j) :
    s.runRelease i d tell =
      ((s.changeSide (faceOf h) j SideRec.markDiscarded).freeSlot i).tell (tell .freedDeferred) := by
  rw [runRelease_granted (congrArg Released.refusal hr), hr]
  rfl

theorem runRelease_reshot (hr : s.releaseNow i d = .reshot s i h j) :
    s.runRelease i d tell =
      (((s.reshotSide h j).freeSlot i).tell (tell .freedDeferred)).addException
        (s.discarded i (s.slot i) h j) := by
  rw [runRelease_granted (congrArg Released.refusal hr), hr]
  rfl

theorem runRelease_refused {why : Status} (hr : s.releaseNow i d = .refused s why) :
    s.runRelease i d tell =
      ((s.setSlot i { s.slot i with deferred := none }).tell (tell .dropped)).notify .S
        (.releaseDropped i why d (s.slot i).sealStatus (s.slot i).drainedFully) := by
  simp only [State.runRelease, State.evaluateDeferred, hr, Released.refused, Option.isNone_some, Bool.false_eq_true,
    if_false, State.addException?, State.notifyDropped]

/-! ### Each outcome -/

theorem freeSlot_tell_frees (n : Option Notice) :
    SlotFreed s ((s.freeSlot i).tell n) i ∧ ((s.freeSlot i).tell n).links = (s.tell n).links ∧
      s.keeps ((s.freeSlot i).tell n) [.opening, .account] := by
  refine ⟨slotFreed_of_freeSlot (State.keeps_refl s _) (by simp) (by simp) (by simp) (by simp),
    tell_links_congr (by simp) _, ?_⟩
  simp [State.keeps, Part.same]

theorem runRelease_plain_frees (hr : s.releaseNow i d = .plain s i) :
    SlotFreed s (s.runRelease i d tell) i ∧
      (s.runRelease i d tell).links = (s.tell (tell .freedDeferred)).links ∧
      s.keeps (s.runRelease i d tell) [.opening, .account] := by
  rw [runRelease_plain hr]
  exact freeSlot_tell_frees _

theorem runRelease_refused_drops {why : Status} (hr : s.releaseNow i d = .refused s why) :
    SlotEnds s (s.runRelease i d tell) i { s.slot i with deferred := none }
      ((s.tell (tell .dropped)).notify .S
        (.releaseDropped i why d (s.slot i).sealStatus (s.slot i).drainedFully)) := by
  have hslot (n : Fin 8) : (s.runRelease i d tell).slot n =
      if n = i then { s.slot i with deferred := none } else s.slot n := by
    rw [runRelease_refused hr]
    exact (congrFun (slot_congr (by simp)) n).trans (setSlot_slot s i n _)
  refine ⟨(hslot i).trans (if_pos rfl), fun n hn => (hslot n).trans (if_neg hn), ?_, ?_⟩
  · rw [runRelease_refused hr]
    exact notify_links_congr (tell_links_congr (setSlot_links s i _) _) _ _
  · rw [runRelease_refused hr]
    simp [State.keeps, Part.same]

theorem runRelease_marks {r : SideRec} (hr : s.releaseNow i d = .marked s i h j) (hs : s.side (faceOf h) j = some r) :
    SlotFreed s (s.runRelease i d tell) i ∧
      (s.runRelease i d tell).links = (s.tell (tell .freedDeferred)).links ∧
      (s.runRelease i d tell).opening = s.opening ∧
      (s.runRelease i d tell).account.exceptions = s.account.exceptions ∧
      (s.runRelease i d tell).side (faceOf h) j = some r.markDiscarded := by
  rw [runRelease_marked hr]
  set u := s.changeSide (faceOf h) j SideRec.markDiscarded with hu
  have haccount : ((u.freeSlot i).tell (tell .freedDeferred)).account = u.account := by simp
  have hkeeps : s.keeps u [.capture, .light, .memory] := by simp [State.keeps, Part.same, hu]
  refine ⟨slotFreed_of_freeSlot hkeeps (by simp) (by simp) (by simp) (by simp [hu]),
    tell_links_congr (by simp [hu]) _, by simp [hu], ?_, ?_⟩
  · rw [haccount]
    exact changeSide_exceptions s _ _ _
  · rw [side_congr (congrArg Account.leaves haccount), hu, changeSide_side, if_pos ⟨rfl, rfl⟩, hs]
    rfl

/-- A present side that is not done keeps the opening from FINISHED (R7). -/
theorem evaluated_ne_finished {g : Half} {r : SideRec} (hp : s.presentLeaf g = some j)
    (hr : s.side (faceOf g) j = some r) (hst : r.state = .reshoot) : s.evaluated ≠ .finished := by
  have hfin : ¬s.finishedNow = true := by
    rw [finishedNow_iff]
    rintro ⟨-, -, hdone⟩
    obtain ⟨r', hr', hdone⟩ := hdone g j hp
    rw [hr] at hr'
    obtain rfl := Option.some.inj hr'
    simp [hst] at hdone
  rw [evaluated_eq, if_neg hfin]
  repeat' split
  all_goals simp

/-- A side made RESHOOT is told the arm alone, when its opening becomes TURNABLE (R9, R31). -/
theorem evaluateSide_link_S {r : SideRec} (hr : s.side (faceOf h) j = some r) (hst : r.state = .reshoot) :
    (s.evaluateSide (faceOf h) j).link .S = s.link .S := by
  unfold State.evaluateSide State.evaluate
  split
  · next hp =>
    have hp : s.presentLeaf h = some j := by
      cases h <;> exact of_decide_eq_true hp
    split
    · unfold State.link
      rw [takeEvaluated_links]
      split
      · exact (notify_link s .A .S _).trans (if_neg (by simp))
      · rw [if_neg fun hf => evaluated_ne_finished hp hr hst hf.1]
    · rfl
  · rfl

theorem reshotSide_side {r : SideRec} (hr : s.side (faceOf h) j = some r) :
    (s.reshotSide h j).side (faceOf h) j = some { r with state := .reshoot } := by
  rw [State.reshotSide, side_congr (congrArg Account.leaves (evaluateSide_frame _ _ _).1), changeSide_side,
    if_pos ⟨rfl, rfl⟩, hr]
  rfl

theorem reshotSide_link_S {r : SideRec} (hr : s.side (faceOf h) j = some r) :
    (s.reshotSide h j).link .S = s.link .S := by
  refine (evaluateSide_link_S (r := { r with state := .reshoot }) ?_ rfl).trans ?_
  · rw [changeSide_side, if_pos ⟨rfl, rfl⟩, hr]
    rfl
  · simp only [State.link, changeSide_frame]

theorem reshotSide_exceptions : (s.reshotSide h j).account.exceptions = s.account.exceptions := by
  rw [State.reshotSide, (evaluateSide_frame _ _ _).1, changeSide_exceptions]

theorem reshotSide_mounted : (s.reshotSide h j).mounted = s.mounted :=
  (Steady.refl s).changeSide.evaluateSide.mounted

theorem runRelease_reshoots {r : SideRec} (hr : s.releaseNow i d = .reshot s i h j) (hm : s.mounted ≠ none)
    (hs : s.side (faceOf h) j = some r) :
    SlotFreed s (s.runRelease i d tell) i ∧
      ((s.tell (tell .freedDeferred)).link .S).notices <+: ((s.runRelease i d tell).link .S).notices ∧
      (s.runRelease i d tell).side (faceOf h) j = some { r with state := .reshoot } ∧
      (s.account.exceptions.length < 64 → (s.runRelease i d tell).account.exceptions =
        s.account.exceptions ++ [s.discarded i (s.slot i) h j]) := by
  rw [runRelease_reshot hr]
  set u := s.reshotSide h j with hu
  set v := (u.freeSlot i).tell (tell .freedDeferred) with hv
  have haccount : v.account = u.account := by simp [hv]
  have hkeeps : s.keeps u [.capture, .light, .memory] := by simp [State.keeps, Part.same, hu, State.reshotSide]
  have hdrain : v.drain = s.drain := by simp [hv, hu, State.reshotSide]
  refine ⟨slotFreed_of_freeSlot hkeeps (by simp [hv]) (by simp [hv]) (by simp [hv]) (by simpa using hdrain), ?_, ?_,
    fun hl => ?_⟩
  · have hlink : v.link .S = (s.tell (tell .freedDeferred)).link .S := by
      refine tell_link_congr ?_ _
      rw [← reshotSide_link_S hs]
      exact congrArg (Links.get · .S) (freeSlot_frame u i).2.2.2.2.1
    rw [← hlink]
    exact NoticesKept.addException? v (some _) .S
  · rw [side_congr ((addException_leaves _ _).trans (congrArg Account.leaves haccount))]
    exact reshotSide_side hs
  · have hmounted : v.mounted = s.mounted :=
      (mounted_congr (congrArg Account.volumes haccount)).trans reshotSide_mounted
    have hexc : v.account.exceptions = s.account.exceptions :=
      (congrArg Account.exceptions haccount).trans reshotSide_exceptions
    refine (addExceptionOf_exceptions v (some _)).trans ?_
    rw [hmounted, hexc, if_pos ⟨hm, hl⟩]
    rfl

/-- What the evaluation of a deferred release leaves and does, row by row (R142, R143). -/
theorem runRelease_deferredRun {x : Slot} (hx : s.slot i = x) :
    s.deferredRun (s.runRelease i d tell) i x d fun release => s.tell (tell release) := by
  subst hx
  refine ⟨runRelease_frame, runRelease_memory, fun hf => runRelease_plain_frees (releaseNow_drained hf),
    fun hf => ⟨?_, ?_, ?_⟩⟩
  · rintro rfl
    exact runRelease_refused_drops (releaseNow_undrained hf)
  · rintro rfl hseal
    exact runRelease_plain_frees (releaseNow_damaged hf hseal)
  · rintro rfl hseal
    refine ⟨fun hm => runRelease_refused_drops (releaseNow_notMounted hf hseal hm), fun hm hv => ?_⟩
    have hd : s.Discards i := ⟨hf, hseal, hm, hv⟩
    refine ⟨fun hx => runRelease_plain_frees (hd.plain (discardEffect_no_side hx)), fun h j hx =>
      ⟨fun hr => runRelease_plain_frees (hd.plain (discardEffect_no_record hx hr)), fun r hr =>
        ⟨fun ho => runRelease_plain_frees (hd.plain (discardEffect_other hx hr ho)),
          fun hshown hst => runRelease_marks (hd.marked hx hr hshown hst) hr,
          fun hshown hst => runRelease_reshoots (hd.reshot hx hr hshown hst) hm hr⟩⟩⟩

end

end Sys2Proof.Machine
end

section
/-! PROOFS. RELEASE (R141 to R143). -/

namespace Sys2Proof.Machine

open Sys2Proof

theorem Passes.release (slot discard : Byte) : Passes (.release .S slot discard) .S ⟨0x52, [slot, discard]⟩ :=
  ⟨rfl, ⟨_, rfl, rfl⟩, rfl, by simp [Config.maxRequestBody]⟩

theorem exec_release (slot discard : Byte) (s : State) :
    ∃ act, exec (.release .S slot discard) s = .next (s.ask (.release .S slot discard) act) ∧
      ∀ t : State,
        (finOf 8 slot.toNat = none → act t = ⟨t, .range, releaseRangeBody slot⟩) ∧
        ∀ i, finOf 8 slot.toNat = some i →
          (flagCode discard = none → act t = t.releaseReply i .range none) ∧
          ∀ d, flagCode discard = some d → act t = t.release i d := by
  refine ⟨_, rfl, fun t => ?_⟩
  simp +contextual

section
variable {s : State} {i : Fin 8} {d : Bool}

/-! ### The rows of R141 -/

/-- Rows 6 to 9 of R141: the release is decided now. -/
abbrev State.releasable (s : State) (i : Fin 8) : Prop :=
  (s.slot i).state = .sealed ∧ s.queued i = false ∧ (s.slot i).committed = true

theorem release_free (hx : (s.slot i).state = .free) : s.release i d = s.releaseReply i .ok (some .alreadyFree) := by
  simp only [State.release, hx]

theorem release_unsealed (hx : (s.slot i).state = .open' ∨ (s.slot i).state = .save) :
    s.release i d = s.releaseReply i .state none := by
  obtain hx | hx := hx <;> simp only [State.release, hx]

theorem release_waits (hx : (s.slot i).state = .draining ∨
      ((s.slot i).state = .sealed ∧ (s.queued i = true ∨ (s.slot i).committed = false))) :
    s.release i d =
      (s.setSlot i { s.slot i with deferred := some d }).releaseReply i .ok (some .deferred) := by
  obtain hx | ⟨hx, hwait⟩ := hx
  · simp only [State.release, hx]
  · have hwait : (s.queued i || !(s.slot i).committed) = true := by simpa using hwait
    simp only [State.release, hx, hwait, if_true]

theorem release_refused {why : Status} (hnow : s.releasable i) (hr : s.releaseNow i d = .refused s why) :
    s.release i d = s.releaseReply i why none := by
  obtain ⟨hx, hq, hc⟩ := hnow
  simp [State.release, hx, hq, hc, hr, Released.refused, State.addException?]

/-- A release that frees its slot leaves what the evaluation of a deferred one does, without a notice before it. -/
theorem release_granted (hnow : s.releasable i) (hr : (s.releaseNow i d).refusal = none) :
    s.release i d =
      ⟨s.runRelease i d fun _ => none, .ok,
        (s.runRelease i d fun _ => none).releaseBody i (some .freed) (s.slot i).side (s.releaseNow i d).effect⟩ := by
  obtain ⟨hx, hq, hc⟩ := hnow
  simp [State.release, hx, hq, hc, hr, runRelease_granted hr, State.tell]

/-! ### The response (R196) -/

theorem releaseBody_plain {slot : Byte} (hi : slot.toNat = i.val) (result : Option ReleaseResult)
    (side : Option (Half × Nat)) :
    s.releaseBody i result side .none =
      [slot, noneFF (result.map ReleaseResult.code), b1 (s.slot i).state.code, 0, 0, 0xFF, 0] := by
  simp only [State.releaseBody, b1_of_toNat_eq hi, if_true]
  rfl

theorem releaseBody_side {slot : Byte} (hi : slot.toNat = i.val) (result : Option ReleaseResult) {h : Half} {j : Nat}
    {e : DiscardEffect} (he : e ≠ .none) :
    s.releaseBody i result (some (h, j)) e =
      [slot, noneFF (result.map ReleaseResult.code), b1 (s.slot i).state.code] ++ be 2 j ++
        [b1 (faceOf h).code, b1 e.code] := by
  simp only [State.releaseBody, b1_of_toNat_eq hi, if_neg he, Option.map_some, leafFaceBytes, List.append_assoc]
  rfl

end

/-! ### RELEASE at its link -/

section
variable {s : State} {i : Fin 8} {slot discard : Byte} {act : State → Reply} {d : Bool}

/-- A release that changes nothing is answered with the slot's state as it stands. -/
theorem ask_release_reply {st : Status} {result : Option ReleaseResult} (h : s.portFree .S) (hi : slot.toNat = i.val)
    (hact : act (s.taken .S 0x52) = (s.taken .S 0x52).releaseReply i st result) :
    s.ask (.release .S slot discard) act =
      s.answered .S 0x52 st
        [slot, noneFF (result.map ReleaseResult.code), b1 (s.slot i).state.code, 0, 0, 0xFF, 0] := by
  rw [State.releaseReply, releaseBody_plain hi] at hact
  exact (Passes.release slot discard).pure h hact

/-- A release that waits changes the deferred release of its slot alone. -/
theorem ask_release_waits (h : s.portFree .S) (hi : slot.toNat = i.val)
    (hact : act (s.taken .S 0x52) = (s.taken .S 0x52).release i d)
    (hx : (s.slot i).state = .draining ∨
      ((s.slot i).state = .sealed ∧ (s.queued i = true ∨ (s.slot i).committed = false))) :
    s.ask (.release .S slot discard) act =
      (s.setSlot i { s.slot i with deferred := some d }).answered .S 0x52 .ok
        [slot, 1, b1 (s.slot i).state.code, 0, 0, 0xFF, 0] := by
  rw [release_waits (s := s.taken .S 0x52) hx, State.releaseReply, releaseBody_plain hi, setSlot_slot,
    if_pos rfl] at hact
  rw [(Passes.release slot discard).reply h hact (taken_dropAnswer s .S .S 0x52)]
  exact (arbitrate_slots rfl rfl rfl).trans
    (answered_taken (s := s.setSlot i { s.slot i with deferred := some d }) h 0x52 .ok _)

theorem ask_release_refused {why : Status} (h : s.portFree .S) (hi : slot.toNat = i.val)
    (hact : act (s.taken .S 0x52) = (s.taken .S 0x52).release i d) (hnow : s.releasable i)
    (hr : (s.taken .S 0x52).releaseNow i d = .refused (s.taken .S 0x52) why) :
    s.ask (.release .S slot discard) act = s.answered .S 0x52 why [slot, 0xFF, 2, 0, 0, 0xFF, 0] := by
  rw [ask_release_reply h hi (hact.trans (release_refused (s := s.taken .S 0x52) hnow hr)), hnow.1]
  rfl

/-- A release that frees its slot: what it leaves, answered, with the slot, the leaf and the face. -/
theorem ask_release_granted (h : s.portFree .S) (hact : act (s.taken .S 0x52) = (s.taken .S 0x52).release i d)
    (hnow : s.releasable i) (hr : ((s.taken .S 0x52).releaseNow i d).refusal = none) :
    s.ask (.release .S slot discard) act =
      s.arbitrate (((s.taken .S 0x52).runRelease i d fun _ => none).answered .S 0x52 .ok
        (((s.taken .S 0x52).runRelease i d fun _ => none).releaseBody i (some .freed) (s.slot i).side
          ((s.taken .S 0x52).releaseNow i d).effect)) := by
  have hgranted := release_granted (s := s.taken .S 0x52) hnow hr
  have hports := (Steady.refl (s.taken .S 0x52)).runRelease (i := i) (d := d) (tell := fun _ => none) |>.ports .S
  exact (Passes.release slot discard).reply h (hact.trans hgranted)
    (hports.dropAnswer.trans (taken_dropAnswer s .S .S 0x52))

theorem ask_release_plain (h : s.portFree .S) (hi : slot.toNat = i.val)
    (hact : act (s.taken .S 0x52) = (s.taken .S 0x52).release i d) (hnow : s.releasable i)
    (hr : (s.taken .S 0x52).releaseNow i d = .plain (s.taken .S 0x52) i) :
    s.ask (.release .S slot discard) act =
      s.arbitrate (((s.taken .S 0x52).freeSlot i).answered .S 0x52 .ok
        [slot, 2, b1 (((s.taken .S 0x52).freeSlot i).slot i).state.code, 0, 0, 0xFF, 0]) := by
  have hgranted := ask_release_granted (slot := slot) (discard := discard) h hact hnow (congrArg Released.refusal hr)
  rw [hr, runRelease_plain hr] at hgranted
  exact hgranted.trans (congrArg s.arbitrate (congrArg _ (releaseBody_plain hi _ _)))

/-- A release that takes the side of its frame with it answers with the leaf, the face and what became of the side. -/
theorem ask_release_side {g : Half} {j : Nat} {e : DiscardEffect} (h : s.portFree .S) (hi : slot.toNat = i.val)
    (hact : act (s.taken .S 0x52) = (s.taken .S 0x52).release i d) (hnow : s.releasable i)
    (hside : (s.slot i).side = some (g, j)) (hr : ((s.taken .S 0x52).releaseNow i d).refusal = none)
    (he : ((s.taken .S 0x52).releaseNow i d).effect = e) (hne : e ≠ .none) :
    ∃ b, s.ask (.release .S slot discard) act =
        s.arbitrate (((s.taken .S 0x52).runRelease i d fun _ => none).answered .S 0x52 .ok b) ∧
      (((s.taken .S 0x52).runRelease i d fun _ => none).answered .S 0x52 .ok b).hasAnswer .S 0x52 .ok
        ([slot, 2, b1 ((((s.taken .S 0x52).runRelease i d fun _ => none).slot i).state.code)] ++ be 2 j ++
          [b1 (faceOf g).code, b1 e.code]) ∧
      s.keeps (((s.taken .S 0x52).runRelease i d fun _ => none).answered .S 0x52 .ok b) [.mem, .drain, .pending] := by
  have hports := (Steady.refl (s.taken .S 0x52)).runRelease (i := i) (d := d) (tell := fun _ => none) |>.ports .S
  refine ⟨_, ask_release_granted h hact hnow hr, ?_,
    keeps_answered (keeps_of_taken runRelease_frame (by simp)) (by simp)⟩
  rw [he, hside, releaseBody_side hi _ hne]
  exact answered_hasAnswer (hports.request.trans (by simp)) _ _ _

end

/-- Settles O45, row by row of R141. -/
theorem release : Obligations.Release := by
  intro slot discard s h c
  obtain ⟨act, hexec, hact⟩ := exec_release slot discard s
  obtain ⟨hrange, hslot⟩ := hact (s.taken .S 0x52)
  have hc := Passes.release slot discard
  rw [hexec]
  refine ⟨fun hn => congrArg _ (hc.pure h (hrange (finOf_none hn))), fun i hi hd => ?_, fun i hi hd => ?_⟩
  · obtain ⟨hcode, -⟩ := hslot i (finOf_eq hi)
    exact congrArg _ (ask_release_reply h hi (hcode (flagCode_none hd)))
  · obtain ⟨-, hact⟩ := hslot i (finOf_eq hi)
    replace hact := hact _ (flagCode_eq hd)
    refine ⟨fun hx => ?_, fun hx => ?_, fun hx => ?_, fun hx => congrArg _ (ask_release_waits h hi hact hx),
      fun hnow hf => congrArg _ (ask_release_plain h hi hact hnow (releaseNow_drained hf)), fun hnow hf hd => ?_,
      fun hnow hf hd hseal => ?_, fun hnow hf hd hseal => ⟨fun hm => ?_, fun hm hv g j r hx hr => ?_⟩⟩
    · rw [ask_release_reply h hi (hact.trans (release_free hx)), hx]
      rfl
    · rw [ask_release_reply h hi (hact.trans (release_unsealed (.inl hx))), hx]
      rfl
    · rw [ask_release_reply h hi (hact.trans (release_unsealed (.inr hx))), hx]
      rfl
    all_goals rw [hd] at hact
    · exact congrArg _ (ask_release_refused h hi hact hnow (releaseNow_undrained hf))
    · exact congrArg _ (ask_release_plain h hi hact hnow (releaseNow_damaged hf hseal))
    · exact congrArg _ (ask_release_refused h hi hact hnow (releaseNow_notMounted hf hseal hm))
    · have hdiscards : State.Discards (s.taken .S 0x52) i := ⟨hf, hseal, hm, hv⟩
      refine ⟨fun hshown hst => ?_, fun hshown hst => ?_, fun ho => ?_⟩
      · have hrow := hdiscards.reshot hx hr hshown hst
        obtain ⟨⟨-, hfree⟩, -, hside, hexc⟩ := runRelease_reshoots (tell := fun _ => none) hrow hm hr
        obtain ⟨b, hask, hanswer, hkeeps⟩ := ask_release_side h hi hact hnow hx (congrArg Released.refusal hrow)
          (congrArg Released.effect hrow) (by simp [Released.reshot])
        exact ⟨_, congrArg _ hask, hanswer, hside, hexc, fun hw => congrArg Slot.state (hfree hw).1, hkeeps⟩
      · have hrow := hdiscards.marked hx hr hshown hst
        obtain ⟨⟨-, hfree⟩, -, -, hexc, hside⟩ := runRelease_marks (tell := fun _ => none) hrow hr
        obtain ⟨b, hask, hanswer, hkeeps⟩ := ask_release_side h hi hact hnow hx (congrArg Released.refusal hrow)
          (congrArg Released.effect hrow) (by simp [Released.marked])
        exact ⟨_, congrArg _ hask, hanswer, hside, hexc, fun hw => congrArg Slot.state (hfree hw).1, hkeeps⟩
      · exact congrArg _ (ask_release_plain h hi hact hnow (hdiscards.plain (discardEffect_other hx hr ho)))

end Sys2Proof.Machine
end

section
/-! PROOFS. The drain link, the stall timer and the end of a drain (R136, R137, R139, R140, R142 to R144, R146). -/

namespace Sys2Proof.Machine

open Sys2Proof

/-! ### The arbiters after an event of the drain unit -/

/-- A change of the drain unit that makes it begin no request leaves the arbiters nothing to decide. -/
theorem arbitrate_drain {s t : State} (hl : t.light = s.light) (hm : t.memory = s.memory)
    (hd : t.requests .drain = true → s.requests .drain = true) : s.arbitrate t = t := by
  refine arbitrate_eq (by simp [hl]) fun r hr => ?_
  cases r with
  | drain => exact hd hr
  | _ => simpa only [State.requests, State.rx, hm] using hr

/-- A drain ordered to end requests no burst (R139). -/
theorem requests_drain_ordered {s : State} {a : ActiveDrain} (ha : s.drain.active = some a) (ho : a.ordered ≠ none) :
    ¬s.requests .drain = true := by
  rw [requests_drain]
  rintro ⟨b, hb, hordered, -⟩
  obtain rfl := Option.some.inj (ha.symm.trans hb)
  exact ho hordered

section
variable {s : State} {a : ActiveDrain}

/-! ### The drain link (R136) -/

theorem drainValid_iff : s.drainValid = true ↔
    (∃ a, s.drain.active = some a ∧ a.ordered = none) ∧ s.drain.buffer ≠ [] := by
  unfold State.drainValid
  split
  · next h => simp [h]
  · next a h => simp [h]

theorem takeDrainWord_idle (h : s.drainValid = false ∨ s.drain.readyIn = false) : s.takeDrainWord = s := by
  unfold State.takeDrainWord
  split
  · rfl
  · rw [if_neg]
    obtain h | h := h <;> simp [h]

/-- The drain with its buffer's oldest word sent. -/
def State.wordSent (s : State) (a : ActiveDrain) (rest : List Word) : State :=
  { s with drain := { s.drain with active := some { a with sent := a.sent + 1, left := a.left - 1 }, buffer := rest } }

variable {w : Word} {rest : List Word}

theorem takeDrainWord_sent (ha : s.drain.active = some a) (ho : a.ordered = none) (hb : s.drain.buffer = w :: rest)
    (hr : s.drain.readyIn = true) :
    s.takeDrainWord = if a.left = 1 then (s.wordSent a rest).drainEnd .complete else s.wordSent a rest := by
  have hv : (s.drainValid && s.drain.readyIn) = true := by
    rw [Bool.and_eq_true, drainValid_iff]
    exact ⟨⟨⟨a, ha, ho⟩, by simp [hb]⟩, hr⟩
  simp only [State.takeDrainWord, ha, hv, if_true, hb]
  rfl

theorem drainData_eq (ha : s.drain.active = some a) (ho : a.ordered = none) (hb : s.drain.buffer = w :: rest) :
    s.drainData = some w := by
  have hv : s.drainValid = true := drainValid_iff.2 ⟨⟨a, ha, ho⟩, by simp [hb]⟩
  simp [State.drainData, hv, hb]

theorem terminalCount_iff (ha : s.drain.active = some a) (ho : a.ordered = none) (hb : s.drain.buffer = w :: rest) :
    s.terminalCount = true ↔ a.left = 1 := by
  have hv : s.drainValid = true := drainValid_iff.2 ⟨⟨a, ha, ho⟩, by simp [hb]⟩
  simp [State.terminalCount, ha, hv]

/-! ### Ready and the stall timer (R137) -/

/-- The stall timer of an active drain that no end is ordered for. -/
theorem setStall_eq (s : State) (t : Option Nat) :
    s.setStall t =
      s.setActive (s.drain.active.map fun a => if a.ordered = none then { a with stall := t } else a) := by
  unfold State.setStall
  split
  · next h => rw [h]; exact congrArg s.setActive h
  · next a h =>
    rw [h]
    split
    · next ho =>
      have hn : a.ordered ≠ none := Option.isSome_iff_ne_none.1 ho
      rw [Option.map_some, if_neg hn, ← h]
      rfl
    · next ho =>
      have hn : a.ordered = none := by simpa using ho
      rw [Option.map_some, if_pos hn]

theorem stallExpires_stopped (h : ∀ a, s.drain.active = some a → a.stall = none) : s.stallExpires = s := by
  unfold State.stallExpires
  split
  · rfl
  · next a ha => rw [if_neg (by simp [h a ha])]

theorem stallExpires_running (ha : s.drain.active = some a) (hs : a.stall ≠ none) :
    s.stallExpires = s.orderDrain .stalled := by
  simp only [State.stallExpires, ha]
  exact if_pos (Option.isSome_iff_ne_none.2 hs)

/-! ### The end ordered (R139) -/

/-- The active drain ordered to end. -/
def State.drainOrdered (s : State) (a : ActiveDrain) (status : DrainStatus) : State :=
  s.setActive (some { a with stall := none, ordered := some status })

theorem orderDrain_waits {status : DrainStatus} (ha : s.drain.active = some a) (hb : s.drainBurst = true) :
    s.orderDrain status = s.drainOrdered a status := by
  simp only [State.orderDrain, ha]
  exact if_pos hb

theorem orderDrain_ends {status : DrainStatus} (ha : s.drain.active = some a) (hb : s.drainBurst = false) :
    s.orderDrain status = (s.drainOrdered a status).drainEnd status := by
  simp only [State.orderDrain, ha]
  exact if_neg (Bool.eq_false_iff.1 hb)

theorem arbitrate_drainOrdered (status : DrainStatus) :
    s.arbitrate (s.drainOrdered a status) = s.drainOrdered a status :=
  arbitrate_drain rfl rfl fun h =>
    absurd h (requests_drain_ordered (a := { a with stall := none, ordered := some status }) rfl (by simp))

end

/-! ### The end of a drain (R140) -/

section
variable {s : State} {a : ActiveDrain} {status : DrainStatus}

/-- Steps 1 to 3 of R140: no drain is active, and the slot is SEALED. -/
def State.drainSealed (s : State) (a : ActiveDrain) (status : DrainStatus) : State :=
  ({ s with drain := { s.drain with active := none, buffer := [] } } : State).setSlot a.job.slot
    ((s.slot a.job.slot).afterDrain a.job status)

/-- The DRAIN_DONE of a drain, by what became of the release (R140, R144); at a reset there is none (R146). -/
def ActiveDrain.doneNotice (a : ActiveDrain) (status : DrainStatus) (x : Slot) (release : DrainRelease) :
    Option Notice :=
  if status = .reset then none
  else some (.drainDone a.job.slot x.volume x.captureId status a.job.first a.job.count a.sent x.drainedFully release)

/-- A drain ended, before the next of the queue becomes active (R140). -/
def State.drainDone (s : State) (a : ActiveDrain) (status : DrainStatus) : State :=
  let x := (s.slot a.job.slot).afterDrain a.job status
  let o := (s.drainSealed a status).drainReleases a.job status
  ((o.state.tell (a.doneNotice status x o.release)).addException? o.exception).notifyDropped a.job.slot x o.discard
    o.refusal

theorem drainEnd_eq (ha : s.drain.active = some a) : s.drainEnd status = (s.drainDone a status).activateDrain := by
  simp only [State.drainEnd, ha, State.drainDone, ActiveDrain.doneNotice]
  split <;> rfl

theorem drainSealed_slot (n : Fin 8) :
    (s.drainSealed a status).slot n =
      if n = a.job.slot then (s.slot a.job.slot).afterDrain a.job status else s.slot n :=
  setSlot_slot _ _ _ _

theorem drainSealed_same : (s.drainSealed a status).slot a.job.slot = (s.slot a.job.slot).afterDrain a.job status := by
  rw [drainSealed_slot, if_pos rfl]

theorem drainSealed_keeps {ps : List Part} (hm : Part.memory ∉ ps) (hd : Part.drain ∉ ps) :
    s.keeps (s.drainSealed a status) ps := by
  intro p hp
  cases p
  case memory => exact absurd hp hm
  case drain => exact absurd hp hd
  all_goals rfl

theorem drainDone_frame :
    s.keeps (s.drainDone a status) [.mem, .pending] ∧
      (s.drainDone a status).drain = { s.drain with active := none, buffer := [] } := by
  refine ⟨?_, ?_⟩ <;> simp [State.keeps, Part.same, State.drainDone, State.drainSealed]

theorem drainDone_mode : (s.drainDone a status).memory.mode = s.memory.mode :=
  have hsealed : Steady s (s.drainSealed a status) := (Steady.refl s).setDrain.setSlot
  hsealed.drainReleases.tell.addException?.notifyDropped.memory.mode

theorem drainEnd_last (ha : s.drain.active = some a) (hq : s.drain.queue = []) :
    s.drainEnd status = s.drainDone a status :=
  (drainEnd_eq ha).trans (activateDrain_nil ((congrArg Drain.queue drainDone_frame.2).trans hq))

/-- The drain active after an end with the queue's head activated (R135). -/
theorem drainEnd_next {j : DrainJob} {rest : List DrainJob} (ha : s.drain.active = some a)
    (hq : s.drain.queue = j :: rest) (hm : s.memory.mode = .active) :
    ((s.drainEnd status).slot j.slot).state = .draining ∧
      (s.drainEnd status).drain =
        { queue := rest, active := some (j.activate s.drain.readyIn), buffer := [], readyIn := s.drain.readyIn } := by
  obtain ⟨-, hdrain⟩ := drainDone_frame (s := s) (a := a) (status := status)
  have hactivate := (activateDrain_active (drainDone_mode.trans hm)).2 j rest (congrArg Drain.active hdrain)
    ((congrArg Drain.queue hdrain).trans hq)
  rw [drainEnd_eq ha, hactivate, hdrain]
  refine ⟨?_, rfl⟩
  exact congrArg Slot.state ((setSlot_slot _ _ _ _).trans (if_pos rfl))

theorem drainEnd_standby (ha : s.drain.active = some a) (hm : s.memory.mode ≠ .active) :
    (s.drainEnd status).drain = { s.drain with active := none, buffer := [] } := by
  have hmode : ¬(s.drainDone a status).memory.mode = .active := drainDone_mode.symm ▸ hm
  have hstay : (s.drainDone a status).activateDrain = s.drainDone a status := if_neg (by simp [hmode])
  rw [drainEnd_eq ha, hstay, drainDone_frame.2]

/-! ### What becomes of the release (R140 steps 4 and 5, R142) -/

/-- A COMPLETE drain of a frame drained in full, opened with auto-release (R140 step 4). -/
abbrev DrainJob.freesAuto (j : DrainJob) (status : DrainStatus) (x : Slot) : Prop :=
  status = .complete ∧ j.auto = true ∧ x.drainedFully = true

theorem freesAuto_iff {j : DrainJob} {x : Slot} :
    (decide (status = .complete) && j.auto && x.drainedFully) = true ↔ j.freesAuto status x := by
  simp [and_assoc]

section
variable {j : DrainJob}

theorem drainReleases_auto (h : j.freesAuto status (s.slot j.slot)) (hc : (s.slot j.slot).committed = true) :
    s.drainReleases j status = ⟨s.freeSlot j.slot, .freedAuto, none, none, false⟩ := by
  simp only [State.drainReleases, freesAuto_iff.2 h, hc, Bool.and_self, if_true]

theorem drainReleases_autoDeferred (h : j.freesAuto status (s.slot j.slot))
    (hc : (s.slot j.slot).committed = false) :
    s.drainReleases j status =
      ⟨s.setSlot j.slot { s.slot j.slot with deferred := some false }, .deferred, none, none, false⟩ := by
  simp only [State.drainReleases, freesAuto_iff.2 h, hc, Bool.and_false, Bool.false_eq_true, if_false, if_true]

theorem drainReleases_held (h : ¬j.freesAuto status (s.slot j.slot))
    (hd : (s.slot j.slot).deferred = none ∨ (s.slot j.slot).committed = false) :
    s.drainReleases j status = ⟨s, .none, none, none, false⟩ := by
  have hauto := Bool.eq_false_iff.2 (mt freesAuto_iff.1 h)
  cases hdeferred : (s.slot j.slot).deferred with
  | none => simp [State.drainReleases, hauto, hdeferred]
  | some d =>
    have hc : (s.slot j.slot).committed = false := hd.resolve_left (by simp [hdeferred])
    simp [State.drainReleases, hauto, hdeferred, hc]

theorem drainReleases_deferred {d : Bool} (h : ¬j.freesAuto status (s.slot j.slot))
    (hd : (s.slot j.slot).deferred = some d) (hc : (s.slot j.slot).committed = true) :
    s.drainReleases j status =
      ⟨(s.evaluateDeferred j.slot d).state,
        if (s.evaluateDeferred j.slot d).refusal.isNone then .freedDeferred else .dropped,
        (s.evaluateDeferred j.slot d).exception, (s.evaluateDeferred j.slot d).refusal, d⟩ := by
  have hauto := Bool.eq_false_iff.2 (mt freesAuto_iff.1 h)
  simp only [State.drainReleases, hauto, hd, hc, Bool.false_and, Bool.false_eq_true, if_false, if_true]

end

/-- An auto-release of a committed frame frees the slot (R140 step 4). -/
theorem drainDone_auto (h : a.job.freesAuto status ((s.slot a.job.slot).afterDrain a.job status))
    (hc : (s.slot a.job.slot).committed = true) :
    s.drainDone a status =
      ((s.drainSealed a status).freeSlot a.job.slot).tell
        (a.doneNotice status ((s.slot a.job.slot).afterDrain a.job status) .freedAuto) := by
  have hreleases := drainReleases_auto (s := s.drainSealed a status) (by rwa [drainSealed_same])
    (by rwa [drainSealed_same])
  simp only [State.drainDone, hreleases]
  rfl

/-- An auto-release of a frame not committed waits for its commit (R140 step 4, R142). -/
theorem drainDone_autoDeferred (h : a.job.freesAuto status ((s.slot a.job.slot).afterDrain a.job status))
    (hc : (s.slot a.job.slot).committed = false) :
    s.drainDone a status =
      ((s.drainSealed a status).setSlot a.job.slot
        { (s.slot a.job.slot).afterDrain a.job status with deferred := some false }).tell
        (a.doneNotice status ((s.slot a.job.slot).afterDrain a.job status) .deferred) := by
  have hreleases := drainReleases_autoDeferred (s := s.drainSealed a status) (by rwa [drainSealed_same])
    (by rwa [drainSealed_same])
  simp only [State.drainDone, hreleases, drainSealed_same]
  rfl

/-- Without an auto-release, a slot with no release deferred, or not committed, is left as it is. -/
theorem drainDone_held (h : ¬a.job.freesAuto status ((s.slot a.job.slot).afterDrain a.job status))
    (hd : (s.slot a.job.slot).deferred = none ∨ (s.slot a.job.slot).committed = false) :
    s.drainDone a status =
      (s.drainSealed a status).tell (a.doneNotice status ((s.slot a.job.slot).afterDrain a.job status) .none) := by
  have hreleases := drainReleases_held (s := s.drainSealed a status) (by rwa [drainSealed_same])
    (by rwa [drainSealed_same])
  simp only [State.drainDone, hreleases]
  rfl

/-- A deferred release of a committed frame is evaluated at the end (R142). -/
theorem drainDone_deferred {d : Bool} (h : ¬a.job.freesAuto status ((s.slot a.job.slot).afterDrain a.job status))
    (hd : (s.slot a.job.slot).deferred = some d) (hc : (s.slot a.job.slot).committed = true) :
    s.drainDone a status =
      (s.drainSealed a status).runRelease a.job.slot d
        (a.doneNotice status ((s.slot a.job.slot).afterDrain a.job status)) := by
  have hreleases := drainReleases_deferred (s := s.drainSealed a status) (d := d) (by rwa [drainSealed_same])
    (by rwa [drainSealed_same]) (by rwa [drainSealed_same])
  simp only [State.drainDone, hreleases, State.runRelease, drainSealed_same]

/-! ### What an end leaves -/

/-- The state with the DRAIN_DONE of an end. -/
theorem tell_doneNotice (release : DrainRelease) (x : Slot) :
    s.tell (a.doneNotice status x release) =
      if status = .reset then s
      else s.notify .S (.drainDone a.job.slot x.volume x.captureId status a.job.first a.job.count a.sent x.drainedFully
        release) := by
  unfold ActiveDrain.doneNotice
  split <;> rfl

variable {t u u' : State} {i : Fin 8} {y : Slot}

/-- A slot freed, with no capture that waits. -/
theorem slotEnds_of_freed (h : SlotFreed s t i ∧ t.links = u.links ∧ s.keeps t [.opening, .account])
    (hw : s.capture.waitOrder = []) : SlotEnds s t i Slot.free u := by
  obtain ⟨⟨-, hfree⟩, hlinks, hkeeps⟩ := h
  obtain ⟨hslot, hothers, hkeeps'⟩ := hfree hw
  exact ⟨hslot, hothers, hlinks, List.forall_mem_append.2 ⟨hkeeps, hkeeps'⟩⟩

theorem tell_ends (hy : s.slot i = y) (n : Option Notice) : SlotEnds s (s.tell n) i y (s.tell n) := by
  have hslot (j : Fin 8) : (s.tell n).slot j = s.slot j := congrFun (slot_congr (by simp)) j
  exact ⟨(hslot i).trans hy, fun j _ => hslot j, rfl, by simp [State.keeps, Part.same]⟩

theorem setSlot_tell_ends (s : State) (i : Fin 8) (y : Slot) (n : Option Notice) :
    SlotEnds s ((s.setSlot i y).tell n) i y (s.tell n) := by
  have hslot (j : Fin 8) : ((s.setSlot i y).tell n).slot j = if j = i then y else s.slot j :=
    (congrFun (slot_congr (by simp)) j).trans (setSlot_slot s i j y)
  exact ⟨(hslot i).trans (if_pos rfl), fun j hj => (hslot j).trans (if_neg hj),
    tell_links_congr (setSlot_links s i y) n, by simp [State.keeps, Part.same]⟩

/-- What has changed since the seal, against the state before the end. -/
theorem SlotEnds.of_sealed (h : SlotEnds (s.drainSealed a status) t a.job.slot y u) (hu : u.links = u'.links) :
    SlotEnds s t a.job.slot y u' := by
  obtain ⟨hslot, hothers, hlinks, hkeeps⟩ := h
  exact ⟨hslot, fun j hj => (hothers j hj).trans (by rw [drainSealed_slot, if_neg hj]), hlinks.trans hu,
    keeps_of_frame (drainSealed_keeps (by simp) (by simp)) hkeeps fun _ hp => hp⟩

theorem drainSealed_tell_links (n : Option Notice) : ((s.drainSealed a status).tell n).links = (s.tell n).links :=
  tell_links_congr (s := s) (t := s.drainSealed a status) rfl n

end

/-! ### The drain link and the drain end -/

theorem exec_drainWordTaken (s : State) : exec .drainWordTaken s = .next (s.arbitrate s.takeDrainWord) := rfl

theorem exec_stallTimerExpiry (s : State) : exec .stallTimerExpiry s = .next (s.arbitrate s.stallExpires) := rfl

/-- The last word of a drain with no release to evaluate and none queued behind it (R136, R140). -/
theorem lastWord_ends {s : State} {a : ActiveDrain} {rest : List Word} (hauto : a.job.auto = false)
    (hd : (s.slot a.job.slot).deferred = none) (hq : s.drain.queue = []) :
    ((s.wordSent a rest).drainEnd .complete).slot a.job.slot = (s.slot a.job.slot).afterDrain a.job .complete ∧
      ((s.wordSent a rest).drainEnd .complete).drain = { s.drain with active := none, buffer := [] } ∧
      ((s.wordSent a rest).drainEnd .complete).links =
        (s.notify .S (.drainDone a.job.slot (s.slot a.job.slot).volume (s.slot a.job.slot).captureId .complete
          a.job.first a.job.count (a.sent + 1) ((s.slot a.job.slot).afterDrain a.job .complete).drainedFully
          .none)).links := by
  set b : ActiveDrain := { a with sent := a.sent + 1, left := a.left - 1 } with hb
  set t := s.wordSent a rest with ht
  have hmanual (x : Slot) : ¬b.job.freesAuto .complete x := fun ⟨_, hyes, _⟩ =>
    absurd (hauto.symm.trans hyes) (by simp)
  have hend : t.drainEnd .complete = (t.drainSealed b .complete).tell
      (b.doneNotice .complete ((t.slot b.job.slot).afterDrain b.job .complete) .none) :=
    (drainEnd_last (s := t) rfl hq).trans (drainDone_held (s := t) (hmanual _) (.inl hd))
  refine ⟨?_, ?_, ?_⟩
  · rw [hend, slot_congr (tell_frame _ _).2.2.2.2.1]
    exact drainSealed_same
  · rw [hend, (tell_frame _ _).2.2.2.2.2.2.1]
    rfl
  · rw [hend, drainSealed_tell_links, tell_doneNotice, if_neg (by simp)]
    exact notify_links_congr rfl _ _

/-- Settles O46: the events of the link, the next drain, and the end, whose deferred release is that of O44. -/
theorem drainLink : Obligations.DrainLink := by
  refine ⟨fun s => ?_, fun s a status j rest ha hq => ?_, fun s a status ha hq => ?_⟩
  · refine ⟨fun h => ?_, fun a w rest ha ho hb hr => ?_, fun h => ?_, fun h => ?_, fun h => ?_, fun h => ?_,
      fun h => ?_, fun a ha hs => ?_⟩
    · rw [exec_drainWordTaken, takeDrainWord_idle h, arbitrate_same rfl rfl rfl]
    · have hexec := exec_drainWordTaken s
      rw [takeDrainWord_sent ha ho hb hr] at hexec
      refine ⟨drainData_eq ha ho hb, terminalCount_iff ha ho hb, fun hl => ?_, fun hl => ?_⟩
      · rw [hexec, if_neg hl]; rfl
      · rw [if_pos hl] at hexec
        exact ⟨hexec, fun hauto hd hq => lastWord_ends hauto hd hq⟩
    · exact congrArg _ (if_neg (by simp [h]))
    · exact congrArg _ ((if_pos h).trans (setStall_eq _ _))
    · exact congrArg _ (if_pos h)
    · exact congrArg _ ((if_neg (by simp [h])).trans (setStall_eq _ _))
    · rw [exec_stallTimerExpiry, stallExpires_stopped h, arbitrate_same rfl rfl rfl]
    · have hexec := exec_stallTimerExpiry s
      rw [stallExpires_running ha hs] at hexec
      refine ⟨fun hb => ?_, fun hb => ?_⟩
      · rw [hexec, orderDrain_waits ha hb, arbitrate_drainOrdered]
        rfl
      · rw [hexec, orderDrain_ends ha hb]
        rfl
  · exact ⟨fun hm => drainEnd_standby ha hm, fun hm => drainEnd_next ha hq hm⟩
  · rw [drainEnd_last ha hq]
    intro i x whole x' auto told dropped t ends frees
    have hx : (s.drainSealed a status).slot i = x' := drainSealed_same
    have htold (release : DrainRelease) :
        ((s.drainSealed a status).tell (a.doneNotice status x' release)).links = (told s release).links :=
      (drainSealed_tell_links _).trans (congrArg State.links (tell_doneNotice release x'))
    have hends {release : DrainRelease} {y : Slot} (h : SlotEnds (s.drainSealed a status) t i y
        ((s.drainSealed a status).tell (a.doneNotice status x' release))) : ends y (told s release) :=
      h.of_sealed (htold release)
    have hdrops {d : Bool} {why : Status} (h : SlotEnds (s.drainSealed a status) t i { x' with deferred := none }
        (((s.drainSealed a status).tell (a.doneNotice status x' .dropped)).notify .S
          (.releaseDropped i why d x.sealStatus whole))) : ends { x' with deferred := none } (dropped d why) :=
      h.of_sealed (notify_links_congr (htold .dropped) _ _)
    have hfrees {release : DrainRelease} (h : SlotFreed (s.drainSealed a status) t i ∧
        t.links = ((s.drainSealed a status).tell (a.doneNotice status x' release)).links ∧
        (s.drainSealed a status).keeps t [.opening, .account]) : frees release := fun hw =>
      hends (slotEnds_of_freed h hw)
    obtain ⟨hkeeps, hdrain⟩ := drainDone_frame (s := s) (a := a) (status := status)
    refine ⟨?_, hkeeps, fun hauto hc => hfrees ?_, fun hauto hc => ?_, fun hauto => ⟨fun hd => ?_, fun d hd hc => ?_⟩⟩
    · exact hdrain.trans (by simp only [hq])
    · rw [show t = _ from drainDone_auto hauto hc]
      exact freeSlot_tell_frees _
    · refine hends ?_
      rw [show t = _ from drainDone_autoDeferred hauto hc]
      exact setSlot_tell_ends _ _ _ _
    · refine hends ?_
      rw [show t = _ from drainDone_held hauto hd]
      exact tell_ends hx _
    · have hrun : (s.drainSealed a status).deferredRun t i x' d
          fun release => (s.drainSealed a status).tell (a.doneNotice status x' release) := by
        rw [show t = _ from drainDone_deferred hauto hd hc]
        exact runRelease_deferredRun hx
      obtain ⟨-, -, hfull, hpart⟩ := hrun
      refine ⟨fun hf => hfrees (hfull hf), fun hf => ?_⟩
      obtain ⟨hundrained, hdamaged, hgood⟩ := hpart hf
      refine ⟨fun hd => hdrops (hundrained hd), fun hd hseal => hfrees (hdamaged hd hseal), fun hd hseal => ?_⟩
      obtain ⟨hout, hin⟩ := hgood hd hseal
      refine ⟨fun hm => hdrops (hout hm), fun hm hv h j r hside hr => ?_⟩
      obtain ⟨-, hsides⟩ := hin hm hv
      obtain ⟨-, hrecord⟩ := hsides h j hside
      obtain ⟨hother, hcapturing, hcaptured⟩ := hrecord r hr
      refine ⟨fun ho => hfrees (hother ho), fun hshown hst => ?_, fun hshown hst => ?_⟩
      · obtain ⟨⟨-, hfree⟩, -, -, hexc, hside⟩ := hcapturing hshown hst
        exact ⟨hside, hexc, fun hw => congrArg Slot.state (hfree hw).1⟩
      · obtain ⟨⟨-, hfree⟩, -, hside, hexc⟩ := hcaptured hshown hst
        exact ⟨hside, hexc, fun hw => congrArg Slot.state (hfree hw).1⟩

end Sys2Proof.Machine
end

section
/-! PROOFS. DRAIN_OPEN and DRAIN_STOP (R134, R135, R138, R139, R142 to R144). -/

namespace Sys2Proof.Machine

open Sys2Proof

/-! ### The bodies -/

theorem drainStatusBody_congr {s t : State} (h : t.drain = s.drain) : t.drainStatusBody = s.drainStatusBody := by
  simp only [State.drainStatusBody, h]

theorem drainOpenBody_congr {s t : State} (h : t.drain = s.drain) : t.drainOpenBody = s.drainOpenBody := by
  funext j clamped
  simp only [State.drainOpenBody, drainStatusBody_congr h]

/-! ### DRAIN_OPEN -/

theorem Passes.drainOpen (slot : Byte) (first count : BitVec 32) (auto : Byte) :
    Passes (.drainOpen .S slot first count auto) .S
      ⟨0x50, slot :: (be 4 first.toNat ++ (be 4 count.toNat ++ [auto]))⟩ :=
  ⟨rfl, ⟨_, rfl, rfl⟩, rfl, by simp [Config.maxRequestBody]⟩

/-- An entry joins the queue's tail (R135). -/
def State.enqueue (s : State) (j : DrainJob) : State :=
  { s with drain := { s.drain with queue := s.drain.queue ++ [j] } }

/-- The entry of a DRAIN_OPEN, its count settled against the words of the slot (R134). -/
def State.drainJob (s : State) (i : Fin 8) (first count : BitVec 32) (auto : Bool) : DrainJob :=
  { slot := i, first := first.toNat,
    count :=
      if count = 0 ∨ (s.slot i).words - first.toNat < count.toNat then (s.slot i).words - first.toNat
      else count.toNat,
    auto := auto }

theorem settleCount_eq (count : BitVec 32) (available : Nat) :
    settleCount count.toNat available =
      (if count = 0 ∨ available < count.toNat then available else count.toNat,
        decide (available < count.toNat)) := by
  unfold settleCount
  split
  · next h =>
    obtain rfl : count = 0 := BitVec.eq_of_toNat_eq h
    simp
  · next h =>
    have hne : count ≠ 0 := by rintro rfl; exact h rfl
    split
    · next hle => rw [if_neg (not_or.2 ⟨hne, Nat.not_lt.2 hle⟩), decide_eq_false (Nat.not_lt.2 hle)]
    · next hlt => rw [if_pos (.inr (Nat.not_le.1 hlt)), decide_eq_true (Nat.not_le.1 hlt)]

theorem exec_drainOpen (slot : Byte) (first count : BitVec 32) (auto : Byte) (s : State) :
    ∃ act, exec (.drainOpen .S slot first count auto) s = .next (s.ask (.drainOpen .S slot first count auto) act) ∧
      ∀ t : State,
        (finOf 8 slot.toNat = none ∨ flagCode auto = none → act t = t.refuse .range) ∧
        ∀ i d, finOf 8 slot.toNat = some i → flagCode auto = some d →
          (∀ st, t.drainCheck i first.toNat = some st → act t = t.refuse st) ∧
          (t.drainCheck i first.toNat = none →
            let j := t.drainJob i first count d
            act t = ⟨(t.enqueue j).activateDrain, .ok, (t.enqueue j).activateDrain.drainOpenBody j
              (decide ((t.slot i).words - first.toNat < count.toNat))⟩) := by
  refine ⟨_, rfl, fun t => ⟨fun h => ?_, fun i d hi hd => ⟨fun st hst => ?_, fun hok => ?_⟩⟩⟩
  · obtain h | h := h
    · simp only [h]
    · cases finOf 8 slot.toNat <;> simp only [h]
  · simp only [hi, hd, hst]
  · simp only [hi, hd, hok, settleCount_eq]
    rfl

section
variable {s : State} {i : Fin 8} {first : Nat}

theorem drainCheck_notSealed (h1 : (s.slot i).state ≠ .sealed) (h2 : (s.slot i).state ≠ .draining) :
    s.drainCheck i first = some .notSealed := if_pos ⟨h1, h2⟩

/-- Checks 3 to 5 of R134, in order. -/
theorem drainCheck_sealed (h : (s.slot i).state = .sealed ∨ (s.slot i).state = .draining) :
    s.drainCheck i first =
      if s.drains i = true ∨ s.queued i = true then some .duplicate
      else if 4 ≤ s.drain.queue.length + (if s.drain.active.isSome then 1 else 0) then some .queueFull
      else if (s.slot i).words ≤ first then some .range
      else none := by
  have hstate : ¬((s.slot i).state ≠ .sealed ∧ (s.slot i).state ≠ .draining) := by tauto
  simp only [State.drainCheck, if_neg hstate, Bool.or_eq_true]
  rfl

/-- With no drain active and the memory ACTIVE the queue's head becomes active when an entry joins it (R135). -/
theorem activate_enqueue {j j' : DrainJob} {rest : List DrainJob} (ha : s.drain.active = none)
    (hm : s.memory.mode = .active) (hq : s.drain.queue ++ [j] = j' :: rest) :
    (s.enqueue j).activateDrain.drain =
        { queue := rest, active := some (j'.activate s.drain.readyIn), buffer := [], readyIn := s.drain.readyIn } ∧
      ((s.enqueue j).activateDrain.slot j'.slot).state = .draining := by
  have hactivate := (activateDrain_active (s := s.enqueue j) hm).2 j' rest ha hq
  rw [hactivate]
  exact ⟨rfl, congrArg Slot.state ((setSlot_slot _ _ _ _).trans (if_pos rfl))⟩

theorem activate_enqueue_waits {j : DrainJob} (h : s.drain.active ≠ none ∨ s.memory.mode ≠ .active) :
    (s.enqueue j).activateDrain = s.enqueue j := by
  refine if_neg fun hidle => ?_
  obtain ⟨hactive, hmode⟩ := Bool.and_eq_true_iff.1 hidle
  exact h.elim (fun hn => hn (Option.isNone_iff_eq_none.1 hactive)) fun hn => hn (of_decide_eq_true hmode)

end

/-! ### DRAIN_STOP -/

theorem Passes.drainStop (slot : Byte) : Passes (.drainStop .S slot) .S ⟨0x51, [slot]⟩ :=
  ⟨rfl, ⟨_, rfl, rfl⟩, rfl, by simp [Config.maxRequestBody]⟩

theorem exec_drainStop (slot : Byte) (s : State) :
    ∃ act, exec (.drainStop .S slot) s = .next (s.ask (.drainStop .S slot) act) ∧
      ∀ t : State,
        (finOf 8 slot.toNat = none → act t = ⟨t, .range, t.drainStatusBody⟩) ∧
        ∀ i, finOf 8 slot.toNat = some i → act t = ⟨t.drainStop i, .ok, (t.drainStop i).drainStatusBody⟩ := by
  refine ⟨_, rfl, fun t => ?_⟩
  simp +contextual

section
variable {s : State} {i : Fin 8} {j : DrainJob}

theorem drainStop_active {a : ActiveDrain} (ha : s.drain.active = some a) (hi : a.job.slot = i) :
    (a.ordered ≠ none → s.drainStop i = s) ∧ (a.ordered = none → s.drainStop i = s.orderDrain .stopped) := by
  simp only [State.drainStop, ha, hi, if_true]
  exact ⟨fun ho => if_pos (Option.isSome_iff_ne_none.2 ho), fun ho => if_neg (by simp [ho])⟩

/-- A slot that no active drain is on: its entry leaves the queue, if it has one (R138). -/
theorem drainStop_inactive (hd : s.drains i = false) :
    (s.queued i = false → s.drainStop i = s) ∧
    ∀ j, s.drain.queue.find? (fun y => decide (y.slot = i)) = some j → s.drainStop i = s.removeQueued i j := by
  have hfind (hq : s.queued i = false) : s.drain.queue.find? (fun y => decide (y.slot = i)) = none := by
    simpa [State.queued] using hq
  unfold State.drainStop
  split
  · next a ha =>
    have hi : ¬a.job.slot = i := by simpa [State.drains, ha] using hd
    rw [if_neg hi]
    exact ⟨fun hq => by simp only [hfind hq], fun j hj => by simp only [hj]⟩
  · exact ⟨fun hq => by simp only [hfind hq], fun j hj => by simp only [hj]⟩

/-- The queue without the entry of a slot. -/
def State.unqueued (s : State) (i : Fin 8) : State :=
  { s with drain := { s.drain with queue := s.drain.queue.filter fun y => decide (y.slot ≠ i) } }

/-- The DRAIN_DONE of an entry removed from the queue (R138). -/
def DrainJob.stopNotice (j : DrainJob) (i : Fin 8) (x : Slot) (release : DrainRelease) : Notice :=
  .drainDone i x.volume x.captureId .stopped j.first j.count 0 x.drainedFully release

theorem removeQueued_held (h : (s.slot i).deferred = none ∨ (s.slot i).committed = false) :
    s.removeQueued i j = (s.unqueued i).notify .S (j.stopNotice i (s.slot i) .none) := by
  unfold State.removeQueued
  dsimp only
  split
  · rfl
  · next d hd =>
    have hc : (s.slot i).committed = false := h.resolve_left (by simp [hd])
    rw [if_neg (by simp [hc])]
    rfl

theorem removeQueued_deferred {d : Bool} (hd : (s.slot i).deferred = some d) (hc : (s.slot i).committed = true) :
    s.removeQueued i j = (s.unqueued i).runRelease i d fun release => some (j.stopNotice i (s.slot i) release) := by
  simp only [State.removeQueued, hd, hc, if_true, State.runRelease]
  rfl

end

/-- The queue alone begins no request at the memory arbiter. -/
theorem arbitrate_queue {s t : State} (hl : t.light = s.light) (hm : t.memory = s.memory)
    (hd : t.drain = { s.drain with queue := t.drain.queue }) : s.arbitrate t = t :=
  arbitrate_drain hl hm fun h => by rwa [State.requests, hd] at h

/-! ### Both requests at their link -/

section
variable {s : State} {act : State → Reply}

theorem ask_drainOpen_waits {slot auto : Byte} {first count : BitVec 32} {j : DrainJob} {clamped : Bool}
    (h : s.portFree .S)
    (hact : act (s.taken .S 0x50) = ⟨((s.taken .S 0x50).enqueue j).activateDrain, .ok,
      ((s.taken .S 0x50).enqueue j).activateDrain.drainOpenBody j clamped⟩)
    (hwait : s.drain.active ≠ none ∨ s.memory.mode ≠ .active) :
    s.ask (.drainOpen .S slot first count auto) act =
      (s.enqueue j).answered .S 0x50 .ok ((s.enqueue j).drainOpenBody j clamped) := by
  rw [activate_enqueue_waits (s := s.taken .S 0x50) hwait] at hact
  have hask := (Passes.drainOpen slot first count auto).reply h hact (taken_dropAnswer s .S .S 0x50)
  exact hask.trans ((arbitrate_queue rfl rfl rfl).trans (answered_taken (s := s.enqueue j) h 0x50 .ok _))

theorem ask_drainOpen_activates {slot auto : Byte} {first count : BitVec 32} {j : DrainJob} {clamped : Bool}
    (h : s.portFree .S)
    (hact : act (s.taken .S 0x50) = ⟨((s.taken .S 0x50).enqueue j).activateDrain, .ok,
      ((s.taken .S 0x50).enqueue j).activateDrain.drainOpenBody j clamped⟩)
    (ha : s.drain.active = none) (hm : s.memory.mode = .active) :
    ∃ t j' rest, s.ask (.drainOpen .S slot first count auto) act = t ∧ s.drain.queue ++ [j] = j' :: rest ∧
      t.hasAnswer .S 0x50 .ok (t.drainOpenBody j clamped) ∧
      t.drain =
        { queue := rest, active := some (j'.activate s.drain.readyIn), buffer := [], readyIn := s.drain.readyIn } ∧
      (t.slot j'.slot).state = .draining ∧ s.keepsOtherLinks t .S ∧
      s.keeps t [.opening, .account, .capture, .light, .mem, .pending] := by
  obtain ⟨j', rest, hq⟩ := List.exists_cons_of_ne_nil (List.concat_ne_nil j s.drain.queue)
  set u := ((s.taken .S 0x50).enqueue j).activateDrain with hu
  obtain ⟨hdrain, hslot⟩ := activate_enqueue (s := s.taken .S 0x50) ha hm hq
  have hlink (l : LinkId) : u.link l = (s.taken .S 0x50).link l :=
    congrArg (Links.get · l) (activateDrain_frame _).2.2.2.2.2.1
  have hblocks : s.keeps u [.opening, .account, .capture, .light, .mem, .pending] := by
    simp [State.keeps, Part.same, hu, State.enqueue]
  have hask := (Passes.drainOpen slot first count auto).reply h hact
    ((congrArg Link.dropAnswer (hlink .S)).trans (taken_dropAnswer s .S .S 0x50))
  have hsame := arbitrate_sameButBurst (s := s) (t := u.answered .S 0x50 .ok (u.drainOpenBody j clamped))
    (congrArg Light.held (hblocks .light (by simp)))
  have hdrain' := hsame.drain.trans (answered_frame ..).2.2.2.2.2.2.1
  refine ⟨_, j', rest, hask, hq, ?_, hdrain'.trans hdrain, ?_, fun l hl => ?_,
    hsame.keeps (keeps_answered hblocks (by simp)) (by simp)⟩
  · rw [drainOpenBody_congr hdrain']
    simp only [State.hasAnswer, hsame.link]
    exact answered_hasAnswer ((congrArg Link.request (hlink .S)).trans (by simp)) _ _ _
  · rw [hsame.slot]
    exact hslot
  · rw [hsame.link, answered_link, if_neg hl, hlink, taken_link, if_neg hl]

end

section
variable {s : State} {act : State → Reply}

theorem ask_drainStop {slot : Byte} {i : Fin 8} {u : State} (h : s.portFree .S)
    (hact : act (s.taken .S 0x51) =
      ⟨(s.taken .S 0x51).drainStop i, .ok, ((s.taken .S 0x51).drainStop i).drainStatusBody⟩)
    (hu : (s.taken .S 0x51).drainStop i = u) :
    s.ask (.drainStop .S slot) act = s.arbitrate (u.answered .S 0x51 .ok u.drainStatusBody) := by
  subst hu
  have hports := (Steady.refl (s.taken .S 0x51)).drainStop (i := i) |>.ports .S
  exact (Passes.drainStop slot).reply h hact (hports.dropAnswer.trans (taken_dropAnswer s .S .S 0x51))

theorem ask_drainStop_idle {slot : Byte} {i : Fin 8} (h : s.portFree .S)
    (hact : act (s.taken .S 0x51) =
      ⟨(s.taken .S 0x51).drainStop i, .ok, ((s.taken .S 0x51).drainStop i).drainStatusBody⟩)
    (hidle : (s.taken .S 0x51).drainStop i = s.taken .S 0x51) :
    s.ask (.drainStop .S slot) act = s.answered .S 0x51 .ok s.drainStatusBody := by
  rw [hidle] at hact
  exact (Passes.drainStop slot).pure h hact

end

/-- Settles O44: DRAIN_OPEN check by check, DRAIN_STOP by where the slot stands, its deferred release by `deferredRun`. -/
theorem drainRequests : Obligations.DrainRequests := by
  refine ⟨fun slot first count auto s h => ?_, fun slot s h => ?_⟩
  · obtain ⟨act, hexec, hact⟩ := exec_drainOpen slot first count auto s
    obtain ⟨hrange, hslot⟩ := hact (s.taken .S 0x50)
    have hc := Passes.drainOpen slot first count auto
    dsimp only
    rw [hexec]
    refine ⟨fun hbad => congrArg _ (hc.pure h (hrange (hbad.imp finOf_none flagCode_none))), fun i hi hauto => ?_⟩
    obtain ⟨hrefused, hopen⟩ := hslot i _ (finOf_eq hi) (flagCode_eq hauto)
    have refuses {st : Status} (hst : (s.taken .S 0x50).drainCheck i first.toNat = some st) :
        (.next (s.ask (.drainOpen .S slot first count auto) act) : Host.Outcome State Fault Refusal) =
          .next (s.answered .S 0x50 st []) :=
      congrArg _ (hc.pure h (hrefused st hst))
    refine ⟨fun h1 h2 => refuses (drainCheck_notSealed h1 h2), fun hsealed => ?_⟩
    have hcheck := drainCheck_sealed (s := s.taken .S 0x50) (first := first.toNat) hsealed
    refine ⟨fun hhere => refuses (hcheck.trans (if_pos hhere)),
      fun hhere hfull => refuses (hcheck.trans ((if_neg hhere).trans (if_pos hfull))),
      fun hhere hroom hwords => refuses (hcheck.trans ((if_neg hhere).trans ((if_neg hroom).trans (if_pos hwords)))),
      fun hhere hroom hwords => ?_⟩
    have haccept := hopen (hcheck.trans
      ((if_neg hhere).trans ((if_neg hroom).trans (if_neg (Nat.not_le.2 hwords)))))
    refine ⟨fun hwait => congrArg _ (ask_drainOpen_waits h haccept hwait), fun ha hm => ?_⟩
    obtain ⟨t, j', rest, hask, hrest⟩ := ask_drainOpen_activates h haccept ha hm
    exact ⟨t, j', rest, congrArg _ hask, hrest⟩
  · obtain ⟨act, hexec, hact⟩ := exec_drainStop slot s
    obtain ⟨hrange, hslot⟩ := hact (s.taken .S 0x51)
    have hc := Passes.drainStop slot
    rw [hexec]
    refine ⟨fun hn => congrArg _ (hc.pure h (hrange (finOf_none hn))), fun i hi => ?_⟩
    have hstop := hslot i (finOf_eq hi)
    refine ⟨fun hd hq => ?_, fun a ha hai => ?_, fun j hd hj => ?_⟩
    · obtain ⟨hnone, -⟩ := drainStop_inactive (s := s.taken .S 0x51) hd
      exact congrArg _ (ask_drainStop_idle h hstop (hnone hq))
    · obtain ⟨hordered, hrunning⟩ := drainStop_active (s := s.taken .S 0x51) ha hai
      refine ⟨fun ho => congrArg _ (ask_drainStop_idle h hstop (hordered ho)),
        fun ho => ⟨fun hb => ⟨?_, ?_⟩, fun hb => ?_⟩⟩
      · refine congrArg _ ((ask_drainStop h hstop ((hrunning ho).trans (orderDrain_waits ha hb))).trans ?_)
        exact arbitrate_drain rfl rfl fun hr =>
          absurd hr (requests_drain_ordered (a := { a with stall := none, ordered := some .stopped }) rfl (by simp))
      · simp [State.drainValid]
      · exact congrArg _ (ask_drainStop h hstop ((hrunning ho).trans (orderDrain_ends ha hb)))
    · have hremove := (drainStop_inactive (s := s.taken .S 0x51) hd).2 j hj
      refine ⟨fun hheld => congrArg _ ?_, fun d hdef hcom => ?_⟩
      · exact (ask_drainStop h hstop (hremove.trans (removeQueued_held hheld))).trans (arbitrate_queue rfl rfl rfl)
      · have hask := ask_drainStop (slot := slot) h hstop (hremove.trans (removeQueued_deferred hdef hcom))
        rw [drainStatusBody_congr (runRelease_frame .drain (by simp))] at hask
        exact ⟨_, congrArg _ hask, runRelease_deferredRun rfl⟩

end Sys2Proof.Machine
end
